-- ==== Sys2Proof/Word.lean ====
section
/-!
DEFINITION. The word types of the module: every register is 32 bits wide (R7), memory is bytes (R5).
-/
namespace Sys2Proof

/-- A register word (R7). -/
abbrev Word := BitVec 32

/-- One byte of memory (R5). -/
abbrev Byte := BitVec 8

end Sys2Proof
end

