-- ==== Sys2Proof/Syntax.lean ====
section
/-!
DEFINITION. The commands the module takes from outside and the events of its own engines: one constructor per row of
opcode_table.json, with the row's operands. What the environment decides (levels, frames, readings, verdicts) is an operand.
-/
namespace Sys2Proof

/-- Who makes a direct write (R92): the host port or a core C0-C3. -/
inductive Src where
  | hpi
  | core (n : Fin 4)
  deriving DecidableEq, Repr


/-- A scan of the JTAG port (R490): a data register scan under DMI, with its op field, or under another instruction code. -/
inductive JtagScan where
  | dmi (op : Fin 4)
  | reg (ir : Fin 32)
  deriving DecidableEq, Repr

/-- The commands of the module: one constructor per row of the table of operations and events. -/
inductive Instr where
  /-- REGISTER_WRITE (R11): A write from the HPI, a core or the Uzopex channel to a register or window that has no row of its own, handled by its access type. -/
  | registerWrite (src : Src) (addr : Nat) (width : Nat) (v : Word)
  /-- TRU_CMT_GO (R97): A GO write submits the command at TRU_CMT_PTRs, builds the COMMIT payload from the stage and queues the command for verification. -/
  | truCmtGo (k : Nat)
  /-- TRU_STG_CLR (R97): A write of CLR empties the stage of its source. -/
  | truStgClr (k : Nat)
  /-- UZOPEX_REASSEMBLY_TIMEOUT (R456): A reassembly that is not complete 100 ms after its first segment is dropped without a response and counted in UZ_TMO. -/
  | uzopexReassemblyTimeout (k : Nat)
  /-- COMMIT (R95): A verified COMMIT applies all of its register entries and its MRAM run atomically, or refuses the whole commit. -/
  | commit
  /-- VERIFY_PENDING (R79): The module runs the image checks on the PENDING slot and sets TRU_PND_STAT and TRU_PND_DIG. -/
  | verifyPending
  /-- PROMOTE (R80): An accepted PROMOTE starts the journalled copy of PENDING into ACTIVE. -/
  | promote
  /-- PROMOTE_COPY_STEP (R80): One 64 KiB copy step completes or waits for the MRAM window; after the last step the module writes a PROMOTE record and resets. -/
  | promoteCopyStep
  /-- CLEAR_PENDING (R78): The module writes 0x0000_0000 to the MAGIC field of the PENDING slot. -/
  | clearPending
  /-- BANK_COMMIT (R98): A BANK_COMMIT that passes steps 1 to 9 of R90 locks the named bank and starts the bank digest. -/
  | bankCommit
  /-- BANK_DIGEST_DONE (R99): The bank digest ends; the module runs the bank check and the CYCLE and mode checks, then accepts the commit or refuses it and releases the lock. -/
  | bankDigestDone
  /-- GRANT (R86): The module derives a session key from the ephemeral key and stores the session in a slot. -/
  | grant
  /-- REVOKE (R87): The module ends the named session, or every session when the identifier is 0. -/
  | revoke
  /-- SESSION_EXPIRY (R87): The lifetime of a session elapses; the session ends and an expiry is logged. -/
  | sessionExpiry (slot : Nat)
  /-- DEBUG_UNLOCK (R100): The module opens JTAG access for the named cores with the given scope and duration. -/
  | debugUnlock
  /-- DEBUG_EXPIRY (R100): DURATION elapses; debug access closes, triggers are cleared and halted harts resume. -/
  | debugExpiry
  /-- TRU_DBG_LOCK (R100): A write of LOCK closes debug access. -/
  | truDbgLock
  /-- PROVISION (R72): The module blows the owner-key slot with the hash of the owner key and sets PROVISIONED. -/
  | provision
  /-- LOG_ATT_GO (R108): A write of GO starts an attestation over the nonce and LOG_HEAD. -/
  | logAttGo
  /-- ATTESTATION_DONE (R108): The device-key signature is ready in LOG_ATT_SIG and STATE becomes 2. -/
  | attestationDone
  /-- MRAM_NO_RESULT (R507): No MRAM die result for 10 ms closes the window and sets NORES. -/
  | mramNoResult
  /-- MODE_REQUEST (R46): A committed SYS_MODE_REQ requests a mode transition, which takes effect in the tick or is held for the boundary. -/
  | modeRequest (target : Nat)
  /-- RESET_REQUEST (R53): A committed SYS_RESET_REQ with KEY 0x5E7B resets the module. -/
  | resetRequest (key : Nat)
  /-- RIDE_THROUGH_LIMIT (R50): The ride-through time limit expires and the module enters SAFE. -/
  | rideThroughLimit
  /-- BUILD_UP_LIMIT (R50): The build-up time limit expires while ENERGIZED is 0 and the module enters SAFE. -/
  | buildUpLimit
  /-- GRID_RECOVERED (R358): v stays inside the hysteresis band for GF_HOLD, and recovery is reported. -/
  | gridRecovered
  /-- POWER_ON_RESET (R53): Power-on resets the whole module outside the safety island. -/
  | powerOnReset
  /-- SUPPLY_MONITOR_RESET (R58): A monitored rail leaves its reset band and holds the module in reset. -/
  | supplyMonitorReset (rail : Nat)
  /-- RAIL_RETURN (R58): Every rail has been within its limits for 2 ms, and reset is released. -/
  | railReturn
  /-- NRESET_LOW (R56): A low on nRESET is sampled and starts the 10 µs debounce. -/
  | nresetLow
  /-- NRESET_DEBOUNCED (R56): nRESET has been low for 10 µs and the module enters reset. -/
  | nresetDebounced
  /-- NRESET_GLITCH (R56): nRESET returns high before 10 µs and GLITCH is incremented. -/
  | nresetGlitch
  /-- NRESET_RELEASE (R56): nRESET has been high for 10 µs and boot starts. -/
  | nresetRelease
  /-- WATCHDOG_KICK (R59): A write to SYS_WDT_KICKn restarts the watchdog, or resets the module on a wrong key. -/
  | watchdogKick (n : Nat) (key : Nat)
  /-- WATCHDOG_TIMEOUT (R59): A running watchdog times out and resets the module. -/
  | watchdogTimeout (n : Nat)
  /-- BOOT_START (R62): After the release of reset, the Starter runs from ROM on C0, waiting for REFCLK if needed. -/
  | bootStart (headB : Bool) (mramT : Int)
  /-- BOOT_END (R62): Boot completes the Recipe checks and section application and ends in SAFE, or in LOAD on failure. -/
  | bootEnd
  /-- RETENTION_SAVE_DONE (R68): The ICU retention save completes and the module is in STANDBY. -/
  | retentionSaveDone
  /-- WAKE_EVENT (R67): An enabled wake source asserts in STANDBY, or aborts an entry in progress. -/
  | wakeEvent (source : Nat)
  /-- WAKE_COMPLETE (R67): The module reaches SAFE with the ICU state restored. -/
  | wakeComplete
  /-- CYCLE_BOUNDARY (R431): A cycle boundary occurs; beacons leave, the cycle number advances, RWB transfers and boundary actions apply. -/
  | cycleBoundary
  /-- TELEMETRY_DEADLINE (R196): At the deadline y is frozen with substitutions, telemetry sources are judged and the correction starts. -/
  | telemetryDeadline
  /-- LANE_CDR_LOCKED (R117): The CDR has been locked for 1 µs and the lane goes from ACQUIRE to ALIGN. -/
  | laneCdrLocked (n : Nat)
  /-- LANE_ALIGNED (R117): Four consecutive valid idle pairs take the lane to UP. -/
  | laneAligned (n : Nat) (bits : List Bool)
  /-- LOSS_OF_SYNC (R118): The invalid-code score reaches 4; the lane sets LOS and returns to ALIGN. -/
  | lossOfSync (n : Nat) (bits : List Bool)
  /-- LOSS_OF_SIGNAL (R118): Signal detect or CDR lock is lost for 64 ns; the lane sets LOSIG and returns to ACQUIRE. -/
  | lossOfSignal (n sig : Nat)
  /-- ELASTIC_BUFFER_OVERFLOW (R121): An elastic buffer overflows or underflows, ends the frame in progress and recentres. -/
  | elasticBufferOverflow (n : Nat) (inFrame : Bool) (slip : Int)
  /-- PRBS_LOCK (R124): The checker sees 64 error-free bits and declares lock. -/
  | prbsLock (n : Nat) (bits : List Bool)
  /-- PRBS_LOCK_LOSS (R124): More than 16 of 64 bits are in error; the checker drops lock and reseeds. -/
  | prbsLockLoss (n : Nat) (bits : List Bool)
  /-- LNK_SNAP (R125): The SNAP bit of LNK_CNT_CTRL copies the live PRBS counters coherently. -/
  | lnkSnap (n : Nat)
  /-- LNK_CLR_PRBS (R125): The CLR_PRBS bit zeroes the live PRBS counters and LOCK_LOSS. -/
  | lnkClrPrbs (n : Nat)
  /-- LNK_CLR_CODE (R131): The CLR_CODE bit zeroes the code, disparity, loss-of-sync and elastic-buffer counters. -/
  | lnkClrCode (n : Nat)
  /-- LNK_SNAP_ALL (R125): The module takes the PRBS snapshot on all sixteen lanes in one tick. -/
  | lnkSnapAll
  /-- LNK_INJ (R126): The generator inverts exactly the next bit it sends. -/
  | lnkInj (src : Src) (n : Nat)
  /-- AUX_SOURCE_CHANGE (R112): A new auxiliary source takes effect at the next idle pair of the old stream. -/
  | auxSourceChange (k : Nat)
  /-- PEER_BEACON_RECEIVE (R148): A head time-stamps a valid beacon of the other head for PEER_M and for the time servo. -/
  | peerBeaconReceive (n : Nat) (groups : List Nat) (stamp : Nat)
  /-- TELEMETRY_RECORD_RECEIVE (R149): A head accepts or discards a telemetry record as on time or late and compares its ACC fields. -/
  | telemetryRecordReceive (n : Nat) (groups : List Nat) (ns : Nat)
  /-- LNK_MBY_CLR (R168): A write of CLR zeroes the Mbady counters and LNK_TLM_LAST.MAX. -/
  | lnkMbyClr (n : Nat)
  /-- LNK_TLM_SNAP (R168): The latest record of the named position is copied to LNK_TLM_REC and its status to LNK_TLM_RSTAT. -/
  | lnkTlmSnap (n : Nat) (pos : Nat)
  /-- CORRECTION_END (R186): The correction list ends; U is handed over, the state-copy image is built, the scan runs and the prediction starts. -/
  | correctionEnd
  /-- PREDICTION_END (R170): The prediction list ends and the engine waits for the deadline. -/
  | predictionEnd
  /-- MODULATOR_DONE (R229): A modulator run ends and its command records are written. -/
  | modulatorDone
  /-- MOD_CNT_CLR (R236): A write of CLR zeroes the MOD counters, MOD_TIME[31:16] and the spread maxima. -/
  | modCntClr
  /-- STATE_SEGMENT_RECEIVE (R260): A FOLLOW takes a STATE segment; a complete copy is compared, counted for disagreement or adopted in a resynchronisation. -/
  | stateSegmentReceive (lane : Nat) (groups : List Nat)
  /-- COPY_MISSED (R246): The copy window ends without a complete copy; the miss is counted and may set ABSENT. -/
  | copyMissed
  /-- STATUS_RECEIVE (R253): A module acts on a partner STATUS: transitions, STOP, YIELD, GV_REQ and term. -/
  | statusReceive (lane : Nat) (groups : List Nat)
  /-- RELAY_RECEIVE (R250): A module checks a relayed record and enters it into y if it arrives on time. -/
  | relayReceive (lane : Nat) (groups : List Nat) (ns : Nat)
  /-- SAMPLE_SEND (R251): 1,600 ns before the deadline, the owner sends its ADC samples in a SAMPLE frame. -/
  | sampleSend
  /-- SAMPLE_RECEIVE (R251): A module takes the owner's samples for its partner-owned ADC channels. -/
  | sampleReceive (lane : Nat) (groups : List Nat)
  /-- HELLO_RECEIVE (R241): A HELLO establishes roles, starts a join, clears ABSENT or raises PTN_MISMATCH. -/
  | helloReceive (lane : Nat) (groups : List Nat)
  /-- BULK_SEND (R265): The LEAD sends bank or slow-state data in BULK frames when lane time is free. -/
  | bulkSend (lane : Nat) (kind : Nat) (off : Nat) (len : Nat)
  /-- BULK_RECEIVE (R265): A joiner stores BULK data into its inactive bank or its slow-state image. -/
  | bulkReceive (lane : Nat) (groups : List Nat)
  /-- GV_CHECK_DONE (R258): The golden-vector check gives its verdicts and the module acts on them. -/
  | gvCheckDone (pass : Bool)
  /-- PTN_CTRL_YIELD (R259): The committed YIELD bit makes the LEAD yield on command and stay as an in-step FOLLOW. -/
  | ptnCtrlYield
  /-- PTN_CTRL_PRESET (R265): The committed PRESET bit makes the LEAD send RESET_REQ to its partner. -/
  | ptnCtrlPreset
  /-- PTN_CNT_CLR (R266): A write of CLR zeroes the partner counters. -/
  | ptnCntClr (src : Src)
  /-- PWM_PERIOD_BOUNDARY (R274): A group's period ends; shadows transfer, the minimum-pulse and refresh rules apply and the waveform restarts. -/
  | pwmPeriodBoundary (g : Nat)
  /-- PWM_START (R277): The START bit transfers every shadow and starts the group counter according to TSRC. -/
  | pwmStart (src : Src) (g : Fin 2)
  /-- PWM_STOP (R277): The STOP bit stops the group, resets its counter and drives its outputs low. -/
  | pwmStop (src : Src) (g : Fin 2)
  /-- PWM_ARM (R274): The ARM bit arms the paired transfer at the next period boundary. -/
  | pwmArm (src : Src) (g : Fin 2)
  /-- SYN_EDGE (R270): A rising OUTn edge time-stamps Pm and starts a G1 period under SYN. -/
  | synEdge (n : Nat) (pos : Nat)
  /-- SYN_LOST (R270): No SYN edge within 2 × Pm; HB4–HB5 are driven low and an ALARM is raised. -/
  | synLost
  /-- MASK_SW_EVENT (R281): A software commutation event advances the mask index. -/
  | maskSwEvent (src : Src) (g : Fin 2)
  /-- COMM_IN_EDGE (R281): An edge on COMM_IN is a commutation event or toggles an event-counter gate. -/
  | commInEdge (rising : Bool)
  /-- PWM_CLOCK_STOP (R283): The PWM clock is absent for 16 ns; outputs are forced low and a TRIP is raised. -/
  | pwmClockStop
  /-- PWM_CNT_CLR (R284): A write of CLR zeroes every PWM counter. -/
  | pwmCntClr (src : Src)
  /-- DEAD_TIME_ELAPSED (R288): DT elapses after a command and the selected switch turns on if its command and the interlock still allow it. -/
  | deadTimeElapsed (h : Fin 6) (hi : Bool)
  /-- GATE_EDGE_MEASURED (R301): A switching edge is measured and the adaptive live step is adjusted. -/
  | gateEdgeMeasured (h : Fin 6) (hi : Bool) (on : Bool) (t : Option Nat)
  /-- DESAT_TRIP (R304): The desaturation comparator trips after blanking, starts a soft turn-off and latches DESAT. -/
  | desatTrip (h : Fin 6) (hi : Bool) (ns : Nat)
  /-- GCM_TRIP (R305): The gate stays on the plateau longer than T_GCM, starts a soft turn-off and latches GCM. -/
  | gcmTrip (h : Fin 6) (hi : Bool)
  /-- GOV_TRIP (R305): The gate rises 2 V above VON for 20 ns, starts a soft turn-off and latches GOV. -/
  | govTrip (h : Fin 6) (hi : Bool)
  /-- UVLO_TRIP (R297): A turn-on rail stays 2 V below VON for 1 µs and UVLO latches. -/
  | uvloTrip (h : Fin 6) (hi : Bool)
  /-- SEG_LINK_LOSS (R308): No valid symbol for 100 ns; the segment turns the leg off and latches SEG_LOSS. -/
  | segLinkLoss (h : Fin 6)
  /-- GATE_POWER_LIMIT (R298): Gate power above the limit for 10 windows latches PWR or raises GDR_PWR. -/
  | gatePowerLimit (pw : List Nat)
  /-- SOFT_TURN_OFF_END (R303): A soft turn-off ends and the gate is clamped at VOFF. -/
  | softTurnOffEnd (h : Fin 6) (hi : Bool) (above : Bool)
  /-- GDR_DIRSW (R293): A write sets the HI and LO direct inputs of a half-bridge in direct mode, with the interlock of R294. -/
  | gdrDirsw (src : Src) (h : Fin 6) (v : Word)
  /-- GDR_CLR (R310): A keyed commit clears the latches of the half-bridges in MASK whose causes are gone. -/
  | gdrClr (mask : Nat)
  /-- GDR_CNT_CLR (R311): A write of CLR zeroes the GDR counters and GDR_PWR_MAX. -/
  | gdrCntClr (src : Src)
  /-- GDR_SNAP (R311): A write of SNAP freezes the switching-time histories. -/
  | gdrSnap (src : Src)
  /-- ADC_OUTPUT (R317): A channel output completes with its status, time stamp, settling, metering and limit checks. -/
  | adcOutput (c : Fin 16) (odd : Bool) (code : Int) (overload : Bool) (off : Nat)
  /-- ADC_RESYNC (R317): A write of MASK restarts the named decimators at the next cycle boundary. -/
  | adcResync (src : Src) (mask : Word)
  /-- ADC_SEGMENT_LOSS (R328): A measurement segment loses power or link; its outputs become OPEN. -/
  | adcSegmentLoss (c : Fin 16)
  /-- ADC_SEGMENT_RETURN (R328): The segment returns and its decimator restarts. -/
  | adcSegmentReturn (c : Fin 16)
  /-- ADC_CH_SNAP (R338): A write of SNAP copies the newest output of a channel to its S_ registers. -/
  | adcChSnap (src : Src) (c : Fin 16)
  /-- ADC_SNAP_ALL (R337): A write of SNAP snapshots every channel in one tick. -/
  | adcSnapAll (src : Src)
  /-- ADC_CNT_CLR (R337): A write of CLR zeroes every per-channel counter. -/
  | adcCntClr (src : Src)
  /-- METER_SNAP (R335): The SNAP bit copies the energy accumulators and ADC_MTR_GAP to their registers. -/
  | meterSnap (src : Src)
  /-- METER_CLEAR (R335): The CLR bit zeroes the live accumulators and gap counters. -/
  | meterClear (src : Src)
  /-- HK_ENTRY_DONE (R329): A housekeeping entry publishes its result, which drives thermal levels, rail alarms and the MRAM window. -/
  | hkEntryDone (xs ys : List Nat)
  /-- HKP_URG (R332): An urgent request preempts the running entry, or waits or is refused. -/
  | hkpUrg (src : Src) (kind : Nat) (index : Nat)
  /-- HK_URGENT_DONE (R332): The urgent entry publishes HKP_URG_RES and the abandoned entry restarts. -/
  | hkUrgentDone (xs ys : List Nat)
  /-- FLT_Q_POP (R350): A write of POP removes the head record of the fault queue. -/
  | fltQPop (src : Src)
  /-- FLT_CLR (R354): A keyed commit clears absent latched fault codes. -/
  | fltClr (v : Nat)
  /-- FLT_SW (R361): A write raises the SW fault source with the given class and tag. -/
  | fltSw (src : Src) (v : Word)
  /-- FLT_SRC_SEL (R360): A write snapshots the state of the named source into FLT_SRC_INFO and the registers after it. -/
  | fltSrcSel (src : Src) (code : Word)
  /-- FLT_CNT_CLR (R360): A write of CLR zeroes FLT_CNTk, the source counts and FLT_Q_LOST. -/
  | fltCntClr (src : Src)
  /-- DIE_SHUTDOWN (R506): The die comparator trips; outputs go low, THERM_DIE latches and MRAM writes are barred. -/
  | dieShutdown
  /-- SI_DEMAND (R364): An SI terminal low for 0.5 µs makes the Peel path turn off and latch its elements. -/
  | siDemand (terms : Nat)
  /-- P_CYCLE (R365): The 1 ms cycle of channel P reads terminals and readback, processes safe data, runs diagnostics and handles restarts. -/
  | pCycle (terms : Nat) (lows : Nat) (vhsA : Nat) (vlsA : Nat) (vhsB : Nat) (vlsB : Nat) (iload : Nat) (vsup : Nat) (genRb : Bool) (diag : Nat)
  /-- HEARTBEAT_LOSS (R364): The heartbeat has not toggled for 2 ms and the Peel path latches A, B and G off. -/
  | heartbeatLoss
  /-- TEST_REQ_TIMEOUT (R364): TEST_REQ has been held for more than 600 µs and the Peel path latches A, B and G off. -/
  | testReqTimeout
  /-- DISC_LATCH (R367): The two terminals of an input differ for longer than DISC_T and DISC latches. -/
  | discLatch (n : Nat)
  /-- SAFE_DATA_TIMEOUT (R376): No new valid SEQ arrives for 20 ms and SD_FAIL latches. -/
  | safeDataTimeout
  /-- SECOND_COPY_TIMEOUT (R376): The second copy of an accepted SEQ has not arrived within 20 ms; SD_FAIL latches or the port is declared down. -/
  | secondCopyTimeout
  /-- SPS_ADOPT (R379): A pending set is adopted once A, B and G are all OFF. -/
  | spsAdopt
  /-- PRE_ENERGISE_STEP (R370): A timed step of the pre-energise check ends and is judged. -/
  | preEnergiseStep (x : Nat) (vhs : Nat) (vls : Nat) (genRb : Bool)
  /-- DARK_TEST_INSTANT (R372): TEST_PER elapses and the dark tests of the ON outputs begin. -/
  | darkTestInstant
  /-- DARK_PULSE (R372): A dark pulse of TEST_W is judged 20 µs before its end. -/
  | darkPulse (vhs : Nat) (vls : Nat)
  /-- ISLAND_STARTUP (R381): SAFE_24V rises and the island runs its start-up self-test with every output OFF and latched. -/
  | islandStartup
  /-- SAFE24_LOSS (R368): SAFE_24V falls below its limit and the outputs lose their supply. -/
  | safe24Loss
  /-- ISLAND_SUMMARY_LINE (R383): An island summary line changes and the main domain raises the matching SAF source. -/
  | islandSummaryLine
  /-- MIRROR_FRAME (R383): An island mirror frame updates the SAF registers and SAF_MSEQ. -/
  | mirrorFrame
  /-- MIRROR_TIMEOUT (R383): No mirror frame for 5 ms clears MIRROR_OK and raises SAF_CHP. -/
  | mirrorTimeout
  /-- REC_ARM (R392): The ARM bit arms the recorder on a free segment, or puts it in HOLD. -/
  | recArm (src : Src)
  /-- REC_STOP (R392): The STOP bit returns the recorder to IDLE, truncating a record in POST. -/
  | recStop (src : Src)
  /-- REC_TRIG (R394): The TRIG bit gives a software trigger. -/
  | recTrig (src : Src)
  /-- TRIG_IN_EDGE (R394): An edge on TRIG_IN triggers the recorder. -/
  | trigInEdge (rising : Bool) (pos : Nat)
  /-- XTRIG_EDGE (R394): A falling edge on XTRIG triggers the recorder. -/
  | xtrigEdge (fall : Bool) (pos : Nat)
  /-- XTRIG_RELEASE (R396): After XT_W µs the module releases XTRIG. -/
  | xtrigRelease
  /-- REC_SEG_REL (R392): A write frees closed segments, and a recorder in HOLD arms. -/
  | recSegRel (src : Src) (mask : Word)
  /-- REC_CNT_CLR (R402): A write of CLR zeroes the three recorder counters. -/
  | recCntClr (src : Src)
  /-- REFCLK_LOSS (R408): The REFCLK monitor declares loss; both PLLs enter holdover. -/
  | refclkLoss
  /-- REFCLK_GOOD (R409): REFCLK has been free of loss for REF_QUAL ms and the system PLL starts relocking. -/
  | refclkGood
  /-- SYS_PLL_RELOCK (R409): The system PLL relocks, or raises CLK_SYS_UNLOCK if it has not relocked after 1 ms. -/
  | sysPllRelock (ok : Bool)
  /-- SYS_PLL_UNLOCK (R407): The system PLL or, where derived, a derived clock leaves its window. -/
  | sysPllUnlock (derived : Bool)
  /-- SYN_LOCK_LOSS (R416): The SYN loses lock and enters holdover, pausing any running profile. -/
  | synLockLoss
  /-- SYN_REACQUIRE (R417): The SYN reacquires lock, slews WORD and resumes a paused profile. -/
  | synReacquire
  /-- SYNC_PIN_EDGE (R414): A SYNC pin edge restarts the masked output dividers. -/
  | syncPinEdge (rising : Bool) (pos : Nat)
  /-- CLK_SYNC_SW (R414): The SYNC bit gives a software SYNC event. -/
  | clkSyncSw (src : Src)
  /-- CLK_SYNC_ARM (R414): The ARM bit arms a one-shot SYNC. -/
  | clkSyncArm (src : Src)
  /-- CLK_OUT_EN (R413): A write requests output enables or disables, which take effect glitch-free. -/
  | clkOutEn (src : Src) (v : Word)
  /-- RISE_START (R419): A START bit starts a Rise profile, or the start is refused. -/
  | riseStart (src : Src) (p : Fin 4)
  /-- RISE_STOP (R420): A STOP bit stops a Rise profile. -/
  | riseStop (src : Src) (p : Fin 4)
  /-- RISE_SEGMENT_END (R418): A profile segment's DUR elapses; the next segment starts, the profile loops, or it holds its last END. -/
  | riseSegmentEnd (p : Fin 4)
  /-- CLK_CNT_CLR (R422): A write of CLR zeroes the CLK counters. -/
  | clkCntClr (src : Src)
  /-- TIM_SET (R429): The SET bit sets the time base from TIM_SET_*. -/
  | timSet (src : Src)
  /-- TIM_STEP (R429): The STEP bit steps the time base by TIM_STEP_NS. -/
  | timStep (src : Src)
  /-- TIME_READ (R428): A read of TIM_NOW_NS latches the seconds for its reader. -/
  | timeRead (reader : Fin 5)
  /-- PTP_SAMPLE (R436): A write of TIM_SRV_OFFSET feeds a PTP offset sample to the servo, or is discarded. -/
  | ptpSample (src : Src) (v : Word)
  /-- SERVO_HOLDOVER (R438): No sample has been used for HOLD ms, and the servo enters holdover. -/
  | servoHoldover
  /-- TIME_COMPARATOR_MATCH (R442): A comparator matches its target and drives its consumers. -/
  | timeComparatorMatch (k : Fin 8)
  /-- TIM_CMP_ARM (R443): The ARM bit arms a comparator. -/
  | timCmpArm (src : Src) (k : Fin 8)
  /-- TIM_CMP_DISARM (R443): The DISARM bit disarms a comparator. -/
  | timCmpDisarm (src : Src) (k : Fin 8)
  /-- TIM_TXQ_POP (R441): A write of POP removes the oldest transmit stamp. -/
  | timTxqPop (src : Src) (p : Fin 2)
  /-- TIM_CNT_CLR (R445): A write of CLR zeroes the TIM counters. -/
  | timCntClr (src : Src)
  /-- ETH_FRAME_RECEIVE (R451): A received frame is stamped and delivered to a hardware destination or the software ring, or discarded. -/
  | ethFrameReceive (p : Fin 2) (frame : List Byte) (fcsOk : Bool) (bad : Nat) (pos : Nat)
  /-- ETH_FRAME_SENT (R454): A frame leaves the port; a transmit descriptor completes and any requested stamp is queued. -/
  | ethFrameSent (p : Fin 2) (pos : Nat)
  /-- ETH_LINK_UP (R449): The link comes up on PCS sync or on completion of auto-negotiation. -/
  | ethLinkUp (p : Fin 2) (lp : Option Nat)
  /-- ETH_LINK_DOWN (R449): The link goes down. -/
  | ethLinkDown (p : Fin 2)
  /-- TX_START (R454): The TX_START bit starts the transmit ring with HEAD and TAIL at 0. -/
  | txStart (src : Src) (p : Fin 2)
  /-- TX_STOP (R454): The TX_STOP bit stops the transmit ring. -/
  | txStop (src : Src) (p : Fin 2)
  /-- RX_START (R454): The RX_START bit starts the receive ring. -/
  | rxStart (src : Src) (p : Fin 2)
  /-- RX_STOP (R454): The RX_STOP bit stops the receive ring. -/
  | rxStop (src : Src) (p : Fin 2)
  /-- ETH_CNT_CLR (R471): A write of CLR zeroes the port counters. -/
  | ethCntClr (src : Src) (p : Fin 2)
  /-- CAN_FRAME_RECEIVED (R463): A valid frame is stored in a matching empty buffer or lost, and may wake the module. -/
  | canFrameReceived (c : Fin 2) (ide : Bool) (id : Nat) (fdf : Bool) (brs : Bool) (esi : Bool) (rtr : Bool) (dlc : Nat) (data : List Byte) (sof : Nat)
  /-- CAN_FRAME_SENT (R465): A transmission succeeds and the buffer becomes DONE with its SOF stamp. -/
  | canFrameSent (c : Fin 2)
  /-- CAN_ERROR (R469): A bus error or lost arbitration updates the error counters, returns the frame to PENDING and may cause bus-off. -/
  | canError (c : Fin 2) (kind : Nat) (data : Bool) (dt : Nat) (dr : Nat)
  /-- CAN_RECOVER (R469): The RECOVER bit starts recovery from bus-off, or is ignored. -/
  | canRecover (src : Src) (c : Fin 2)
  /-- CAN_RECOVERY_DONE (R469): 128 occurrences of 11 recessive bits end recovery and the controller becomes error active. -/
  | canRecoveryDone (c : Fin 2)
  /-- CAN_START (R470): The START bit makes the controller join the bus after 11 recessive bits. -/
  | canStart (src : Src) (c : Fin 2)
  /-- CAN_STOP (R470): The STOP bit stops the controller. -/
  | canStop (src : Src) (c : Fin 2)
  /-- CAN_TXREQ (R465): A write requests transmit buffers, which become PENDING. -/
  | canTxreq (src : Src) (c : Fin 2) (k : Fin 2) (mask : Word)
  /-- CAN_TXCAN (R468): A write cancels transmit buffers according to their state. -/
  | canTxcan (src : Src) (c : Fin 2) (k : Fin 2) (mask : Word)
  /-- CAN_BUFFER_LOCK (R464): The first read of a FULL buffer locks it. -/
  | canBufferLock (c : Fin 2) (b : Nat)
  /-- CAN_BUFFER_RELEASE (R464): A read of word LASTW makes the buffer EMPTY. -/
  | canBufferRelease (c : Fin 2) (b : Nat)
  /-- TT_COLUMN_START (R466): A matrix column starts; its rows request buffers and the missed requests of the previous column end as MISSED. -/
  | ttColumnStart (c : Fin 2)
  /-- CAN_CNT_CLR (R473): A write of CLR zeroes the CAN counters. -/
  | canCntClr (src : Src) (c : Fin 2)
  /-- ICU_ENTRY (R484): The entry of a delivered interrupt saves context to the level slot and vectors the core. -/
  | icuEntry (n : Fin 4) (pc : Word) (mstatus : Word) (mtvec : Word) (priv : Nat)
  /-- ICU_RETURN (R485): A write to icuret starts the exit, which restores the slot or is abandoned for a higher request. -/
  | icuReturn (n : Fin 4)
  /-- ICU_SWI (R481): The SWI bits fire the software interrupt sources. -/
  | icuSwi (src : Src) (mask : Word)
  /-- ICU_CLR (R496): The CLR bit zeroes ICU_LOST and BADRET. -/
  | icuClr (src : Src)
  /-- CORE_WFI (R487): A core executes WFI and sleeps when DEEP is 1. -/
  | coreWfi (n : Fin 4) (deep : Bool) (pc : Word) (mstatus : Word)
  /-- CORE_WAKE (R487): A pending source with WAKE set wakes a sleeping core. -/
  | coreWake (n : Fin 4)
  /-- LOCKSTEP_MISMATCH (R477): A core and its shadow disagree; both stop and LOCKSTEP is raised. -/
  | lockstepMismatch (n : Fin 4)
  /-- DEBUG_HALT (R492): A debug halt of a core forces the PWM outputs low and pauses its watchdog. -/
  | debugHalt (n : Fin 4) (cause : Nat) (pc : Word)
  /-- DEBUG_RESUME (R492): A halted core resumes and the PWM outputs may return. -/
  | debugResume (n : Fin 4)
  /-- EVC_SNAP (R495): A write snapshots the named counters, with the tick's time and cycle number. -/
  | evcSnap (src : Src) (mask : Word)
  /-- EVC_CLR (R495): A write zeroes the named counters. -/
  | evcClr (src : Src) (mask : Word)
  /-- SYS_MRAM_CLR (R521): A write of CLR zeroes the counts of SYS_MRAM_STAT. -/
  | sysMramClr (src : Src)
  /-- SYS_TEXT_CLR (R521): A write of CLR resets every SYS_TEXTs to 0x8000_7FFF. -/
  | sysTextClr (src : Src)
  /-- LANE_CODE_ERROR (R115): A lane receiver classifies a received code-group as a code error, disparity error or unlisted control code-group, counts it, sets LNK_EVT and adds to the invalid-code score. -/
  | laneCodeError (n : Nat) (group : Nat)
  /-- VERIFY_PENDING_DONE (R79): The up-to-45 ms verification of the PENDING image ends, writing TRU_PND_STAT.RESULT, VERIFIED and TRU_PND_DIG and freeing the command path. -/
  | verifyPendingDone
  /-- BOOT_MRAM_WINDOW_ENTRY (R508): During a boot held for an open journal, the Starter finds the MRAM die inside the write window, completes the journal and lets boot continue. -/
  | bootMramWindowEntry (mramT : Int)
  /-- GV_RELEASE_TIMEOUT (R257): In a golden-vector check cycle, 1.5 µs after the correction ends without both verdicts, the module releases its command frames and the LEAD starts its image. -/
  | gvReleaseTimeout
  /-- PWM_COMPARE_EDGE (R271): Inside a period the group's counter reaches a compare or phase instant and PULSE changes, subject to the minimum-pulse rule, the mask and refresh, and the segment turns the deselected switch off and starts the dead time. -/
  | pwmCompareEdge (h : Fin 6) (u : Nat)
  /-- J3_INPUT_CHANGE (R272): A PULSE or EN pin on J3 changes level and drives its half-bridge when SRC is 1, including the HI and LO inputs of direct mode. -/
  | j3InputChange (h : Fin 6) (pulse : Bool) (en : Bool)
  /-- INTERLOCK_RELEASE (R291): The gate of the other switch has been sensed below +2.0 V for 20 ns, and a switch waiting beyond its dead time turns on. -/
  | interlockRelease (h : Fin 6) (hi : Bool)
  /-- SEG_LINK_RETURN (R308): A gate-drive segment link carries valid symbols again, setting SEG_UP and starting the 1 ms that makes SEG_LOSS clearable. -/
  | segLinkReturn (h : Fin 6)
  /-- GATE_RAIL_RETURN (R297): A gate-drive turn-on rail returns within limits, setting its SUP_OK bit and starting the 1 ms that makes UVLO clearable. -/
  | gateRailReturn (h : Fin 6) (hi : Bool)
  /-- PWM_CLOCK_RETURN (R283): The PWM and time-base clock runs again after a stop, clearing the CLKSTOP condition so that the next START can restore the outputs. -/
  | pwmClockReturn
  /-- ECC_READ_ERROR (R36): A read of an SRAM or MRAM word by the HPI, a core or a window access finds a single-bit error, which it corrects and counts, or a double-bit error, which it delivers, flags and reports to the fault manager. -/
  | eccReadError (addr : Nat) (double : Bool) (core : Option Nat)
  /-- CAN_TX_START (R465): The controller starts a pending transmit buffer on the bus at its SOF, and the buffer becomes ON_BUS. -/
  | canTxStart (c : Fin 2) (pos : Nat)
  /-- DMI_ACCESS (R491): A JTAG DMI access is ignored while debug access is closed, and otherwise performs an abstract command, program-buffer execution or system bus access within the granted SCOPE. -/
  | dmiAccess (scan : JtagScan) (addr : Nat) (v : Word)
  deriving DecidableEq, Repr

end Sys2Proof
end

