-- ==== Sys2Proof/Machine/Bits.lean ====
section
/-!
DEFINITION. Bit-field, byte-order and small integer helpers over natural numbers, used by every block.
-/
namespace Sys2Proof.Machine

/-- Bit i of a number. -/
def bitAt (n i : Nat) : Bool := n / 2 ^ i % 2 == 1

/-- The field [hi:lo] of a number (the manual's NAME[msb:lsb]). -/
def fieldOf (n hi lo : Nat) : Nat := n / 2 ^ lo % 2 ^ (hi + 1 - lo)

/-- The number with its field [hi:lo] replaced by x (x taken modulo the field's width). -/
def putField (n hi lo x : Nat) : Nat :=
  n % 2 ^ lo + x % 2 ^ (hi + 1 - lo) * 2 ^ lo + n / 2 ^ (hi + 1) * 2 ^ (hi + 1)

/-- A flag as a number. -/
def b2n (b : Bool) : Nat := if b then 1 else 0

/-- One more, but not beyond the maximum (every saturating counter of the manual). -/
def satInc (n max : Nat) : Nat := if n < max then n + 1 else max

/-- n as k bytes, least significant first (R5). -/
def leBytes : Nat → Nat → List Byte
  | 0, _ => []
  | k + 1, n => BitVec.ofNat 8 n :: leBytes k (n / 256)

/-- Bytes, least significant first, as a number (R5). -/
def leNat : List Byte → Nat
  | [] => 0
  | b :: bs => b.toNat + 256 * leNat bs

/-- Bytes, most significant first, as a number (network order and the r, s components of R5). -/
def beNat (bs : List Byte) : Nat := bs.foldl (fun n b => n * 256 + b.toNat) 0

/-- n as k bytes, most significant first. -/
def beBytes (k n : Nat) : List Byte := (leBytes k n).reverse

/-- len bytes of a byte string from offset off. -/
def slice (bs : List Byte) (off len : Nat) : List Byte := (bs.drop off).take len

/-- The little-endian field of len bytes at offset off. -/
def leAt (bs : List Byte) (off len : Nat) : Nat := leNat (slice bs off len)

/-- The big-endian field of len bytes at offset off. -/
def beAt (bs : List Byte) (off len : Nat) : Nat := beNat (slice bs off len)

/-- A w-bit number read as two's complement. -/
def signed (w n : Nat) : Int := if n % 2 ^ w < 2 ^ (w - 1) then (n % 2 ^ w : Int) else (n % 2 ^ w : Int) - (2 ^ w : Int)

/-- An integer as a w-bit two's complement number. -/
def unsigned (w : Nat) (i : Int) : Nat := (i % (2 ^ w : Int)).toNat

/-- The integer nearest to i in [lo, hi]. -/
def clampInt (lo hi i : Int) : Int := if i < lo then lo else if hi < i then hi else i

/-- Number of ones among the first w bits. -/
def popCount : Nat → Nat → Nat
  | 0, _ => 0
  | w + 1, n => n % 2 + popCount w (n / 2)

/-- The indices below w whose bit is set, rising. -/
def bitsOf (w n : Nat) : List Nat := (List.range w).filter (bitAt n)

/-- The number whose set bits (below w) are those the predicate names. -/
def maskOf (w : Nat) (p : Nat → Bool) : Nat := (List.range w).foldl (fun m i => if p i then m + 2 ^ i else m) 0

/-- Insertion into an ordered list; before a b says a comes before b. -/
def insertBy {α : Type} (before : α → α → Bool) (x : α) : List α → List α
  | [] => [x]
  | y :: ys => if before y x then y :: insertBy before x ys else x :: y :: ys

/-- Stable insertion sort. -/
def sortBy {α : Type} (before : α → α → Bool) (l : List α) : List α := l.foldr (insertBy (fun a b => before a b)) []

/-- The element at index i, or a default. -/
def nth {α : Type} (d : α) (l : List α) (i : Nat) : α := l.getD i d

/-- The list with element i changed by f (the list itself where i is out of range). -/
def modNth {α : Type} (f : α → α) : Nat → List α → List α
  | _, [] => []
  | 0, x :: xs => f x :: xs
  | i + 1, x :: xs => x :: modNth f i xs

/-- All bytes zero. -/
def allZero (bs : List Byte) : Bool := bs.all (· == 0)

end Sys2Proof.Machine
end

