-- ==== Sys2Proof/Machine/Crc.lean ====
section
/-!
DEFINITION. CRC-32 (IEEE 802.3, R139, R15) and CRC-32C, bit by bit, reflected form.
-/
namespace Sys2Proof.Machine

/-- k shifts of a reflected CRC register by the reflected polynomial. -/
def crcShift (poly : Nat) : Nat → Nat → Nat
  | 0, c => c
  | k + 1, c => crcShift poly k (if c % 2 = 1 then (c / 2) ^^^ poly else c / 2)

def crcStep (poly c : Nat) (b : Byte) : Nat := crcShift poly 8 (c ^^^ b.toNat)

/-- A reflected 32-bit CRC: initial value and final XOR all ones. -/
def crcReflected (poly : Nat) (bs : List Byte) : Nat := (bs.foldl (crcStep poly) 0xFFFFFFFF) ^^^ 0xFFFFFFFF

/-- CRC-32 of IEEE 802.3 over a byte string. -/
def crc32 (bs : List Byte) : Nat := crcReflected 0xEDB88320 bs

/-- CRC-32C (Castagnoli) over a byte string. -/
def crc32c (bs : List Byte) : Nat := crcReflected 0x82F63B78 bs

end Sys2Proof.Machine
end

