-- ==== Sys2Proof/Machine/Sha.lean ====
section
/-!
DEFINITION. SHA-256 and SHA-384 (FIPS 180-4, R15) and HMAC-SHA-256 (FIPS 198-1, R15), over byte strings.
PRESUMED: the constants and the rounds are the standard's, not the spec's own words (log entry 8).
-/
namespace Sys2Proof.Machine

def k256p0 : List Nat := [
  0x428A2F98, 0x71374491, 0xB5C0FBCF, 0xE9B5DBA5, 0x3956C25B, 0x59F111F1, 0x923F82A4, 0xAB1C5ED5,
  0xD807AA98, 0x12835B01, 0x243185BE, 0x550C7DC3, 0x72BE5D74, 0x80DEB1FE, 0x9BDC06A7, 0xC19BF174]
def k256p1 : List Nat := [
  0xE49B69C1, 0xEFBE4786, 0xFC19DC6, 0x240CA1CC, 0x2DE92C6F, 0x4A7484AA, 0x5CB0A9DC, 0x76F988DA,
  0x983E5152, 0xA831C66D, 0xB00327C8, 0xBF597FC7, 0xC6E00BF3, 0xD5A79147, 0x6CA6351, 0x14292967]
def k256p2 : List Nat := [
  0x27B70A85, 0x2E1B2138, 0x4D2C6DFC, 0x53380D13, 0x650A7354, 0x766A0ABB, 0x81C2C92E, 0x92722C85,
  0xA2BFE8A1, 0xA81A664B, 0xC24B8B70, 0xC76C51A3, 0xD192E819, 0xD6990624, 0xF40E3585, 0x106AA070]
def k256p3 : List Nat := [
  0x19A4C116, 0x1E376C08, 0x2748774C, 0x34B0BCB5, 0x391C0CB3, 0x4ED8AA4A, 0x5B9CCA4F, 0x682E6FF3,
  0x748F82EE, 0x78A5636F, 0x84C87814, 0x8CC70208, 0x90BEFFFA, 0xA4506CEB, 0xBEF9A3F7, 0xC67178F2]
/-- The round constants of SHA-256. -/
def k256 : List Nat := k256p0 ++ k256p1 ++ k256p2 ++ k256p3
def k512p0 : List Nat := [
  0x428A2F98D728AE22, 0x7137449123EF65CD, 0xB5C0FBCFEC4D3B2F, 0xE9B5DBA58189DBBC,
  0x3956C25BF348B538, 0x59F111F1B605D019, 0x923F82A4AF194F9B, 0xAB1C5ED5DA6D8118,
  0xD807AA98A3030242, 0x12835B0145706FBE, 0x243185BE4EE4B28C, 0x550C7DC3D5FFB4E2,
  0x72BE5D74F27B896F, 0x80DEB1FE3B1696B1, 0x9BDC06A725C71235, 0xC19BF174CF692694]
def k512p1 : List Nat := [
  0xE49B69C19EF14AD2, 0xEFBE4786384F25E3, 0xFC19DC68B8CD5B5, 0x240CA1CC77AC9C65,
  0x2DE92C6F592B0275, 0x4A7484AA6EA6E483, 0x5CB0A9DCBD41FBD4, 0x76F988DA831153B5,
  0x983E5152EE66DFAB, 0xA831C66D2DB43210, 0xB00327C898FB213F, 0xBF597FC7BEEF0EE4,
  0xC6E00BF33DA88FC2, 0xD5A79147930AA725, 0x6CA6351E003826F, 0x142929670A0E6E70]
def k512p2 : List Nat := [
  0x27B70A8546D22FFC, 0x2E1B21385C26C926, 0x4D2C6DFC5AC42AED, 0x53380D139D95B3DF,
  0x650A73548BAF63DE, 0x766A0ABB3C77B2A8, 0x81C2C92E47EDAEE6, 0x92722C851482353B,
  0xA2BFE8A14CF10364, 0xA81A664BBC423001, 0xC24B8B70D0F89791, 0xC76C51A30654BE30,
  0xD192E819D6EF5218, 0xD69906245565A910, 0xF40E35855771202A, 0x106AA07032BBD1B8]
def k512p3 : List Nat := [
  0x19A4C116B8D2D0C8, 0x1E376C085141AB53, 0x2748774CDF8EEB99, 0x34B0BCB5E19B48A8,
  0x391C0CB3C5C95A63, 0x4ED8AA4AE3418ACB, 0x5B9CCA4F7763E373, 0x682E6FF3D6B2B8A3,
  0x748F82EE5DEFB2FC, 0x78A5636F43172F60, 0x84C87814A1F0AB72, 0x8CC702081A6439EC,
  0x90BEFFFA23631E28, 0xA4506CEBDE82BDE9, 0xBEF9A3F7B2C67915, 0xC67178F2E372532B]
def k512p4 : List Nat := [
  0xCA273ECEEA26619C, 0xD186B8C721C0C207, 0xEADA7DD6CDE0EB1E, 0xF57D4F7FEE6ED178,
  0x6F067AA72176FBA, 0xA637DC5A2C898A6, 0x113F9804BEF90DAE, 0x1B710B35131C471B,
  0x28DB77F523047D84, 0x32CAAB7B40C72493, 0x3C9EBE0A15C9BEBC, 0x431D67C49C100D4C,
  0x4CC5D4BECB3E42B6, 0x597F299CFC657E2A, 0x5FCB6FAB3AD6FAEC, 0x6C44198C4A475817]
/-- The round constants of SHA-384. -/
def k512 : List Nat := k512p0 ++ k512p1 ++ k512p2 ++ k512p3 ++ k512p4
def h256 : List Nat := [0x6A09E667, 0xBB67AE85, 0x3C6EF372, 0xA54FF53A, 0x510E527F, 0x9B05688C, 0x1F83D9AB, 0x5BE0CD19]
def h384 : List Nat := [0xCBBB9D5DC1059ED8, 0x629A292A367CD507, 0x9159015A3070DD17, 0x152FECD8F70E5939, 0x67332667FFC00B31, 0x8EB44A8768581511, 0xDB0C2E0D64F98FA7, 0x47B5481DBEFA4FA4]

/-- The parameters of one SHA-2 function: word width in bits, block bytes, round constants, rotation amounts. -/
structure ShaKind where
  w : Nat
  block : Nat
  ks : List Nat
  h0 : List Nat
  s0 : Nat × Nat × Nat
  s1 : Nat × Nat × Nat
  e0 : Nat × Nat × Nat
  e1 : Nat × Nat × Nat

def sha256Kind : ShaKind := ⟨32, 64, k256, h256, (7, 18, 3), (17, 19, 10), (2, 13, 22), (6, 11, 25)⟩
def sha384Kind : ShaKind := ⟨64, 128, k512, h384, (1, 8, 7), (19, 61, 6), (28, 34, 39), (14, 18, 41)⟩

/-- Rotation right of a w-bit number. -/
def rotr (w n k : Nat) : Nat := n / 2 ^ k + n % 2 ^ k * 2 ^ (w - k)

def shaSmall (w : Nat) (r : Nat × Nat × Nat) (x : Nat) : Nat := rotr w x r.1 ^^^ rotr w x r.2.1 ^^^ (x / 2 ^ r.2.2)
def shaBig (w : Nat) (r : Nat × Nat × Nat) (x : Nat) : Nat := rotr w x r.1 ^^^ rotr w x r.2.1 ^^^ rotr w x r.2.2

/-- The message schedule, newest word first. -/
def shaExtend (k : ShaKind) : Nat → List Nat → List Nat
  | 0, ws => ws
  | n + 1, ws =>
    let g := fun i => ws.getD i 0
    let v := (shaSmall k.w k.s1 (g 1) + g 6 + shaSmall k.w k.s0 (g 14) + g 15) % 2 ^ k.w
    shaExtend k n (v :: ws)

/-- One round on the eight working words. -/
def shaRound (k : ShaKind) (st : List Nat) (kw : Nat × Nat) : List Nat :=
  match st with
  | [a, b, c, d, e, f, g, h] =>
    let m := 2 ^ k.w
    let ch := (e &&& f) ^^^ ((m - 1 - e) &&& g)
    let mj := (a &&& b) ^^^ (a &&& c) ^^^ (b &&& c)
    let t1 := (h + shaBig k.w k.e1 e + ch + kw.1 + kw.2) % m
    let t2 := (shaBig k.w k.e0 a + mj) % m
    [(t1 + t2) % m, a, b, c, (d + t1) % m, e, f, g]
  | _ => st

/-- The bytes cut into big-endian words of n bytes. -/
def beWords (n : Nat) : Nat → List Byte → List Nat
  | 0, _ => []
  | c + 1, bs => beNat (bs.take n) :: beWords n c (bs.drop n)

def shaBlock (k : ShaKind) (h : List Nat) (blk : List Byte) : List Nat :=
  let ws := (shaExtend k (k.ks.length - 16) (beWords (k.w / 8) 16 blk).reverse).reverse
  let r := (k.ks.zip ws).foldl (shaRound k) h
  List.zipWith (fun a b => (a + b) % 2 ^ k.w) h r

def shaBlocks (k : ShaKind) : Nat → List Nat → List Byte → List Nat
  | 0, h, _ => h
  | n + 1, h, bs => shaBlocks k n (shaBlock k h (bs.take k.block)) (bs.drop k.block)

/-- The padded message of FIPS 180-4. -/
def shaPad (k : ShaKind) (bs : List Byte) : List Byte :=
  let l := bs.length
  let f := k.w / 4
  let z := (k.block - (l + 1 + f) % k.block) % k.block
  bs ++ [0x80] ++ List.replicate z 0 ++ beBytes f (8 * l)

def sha (k : ShaKind) (bs : List Byte) : List Byte :=
  let p := shaPad k bs
  (shaBlocks k (p.length / k.block) k.h0 p).flatMap (beBytes (k.w / 8))

/-- SHA-256 as a byte string of 32 bytes. -/
def sha256 (bs : List Byte) : List Byte := sha sha256Kind bs

/-- SHA-384 as a byte string of 48 bytes. -/
def sha384 (bs : List Byte) : List Byte := (sha sha384Kind bs).take 48

/-- HMAC-SHA-256 with a key of at most one block. -/
def hmac256 (key msg : List Byte) : List Byte :=
  let k := key ++ List.replicate (64 - key.length) 0
  sha256 (k.map (· ^^^ 0x5c) ++ sha256 (k.map (· ^^^ 0x36) ++ msg))

end Sys2Proof.Machine
end

