-- ==== Sys2Proof/Machine/Ecdsa.lean ====
section
/-!
DEFINITION. ECDSA P-384 verification and the P-384 group (FIPS 186-5, R15), over natural numbers.
PRESUMED: the curve constants are the standard's, not the spec's own words (log entry 8).
-/
namespace Sys2Proof.Machine

/-- The field prime of P-384. -/
def p384p : Nat := 0xFFFFFFFFFFFFFFFFFFFFFFFFFFFFFFFFFFFFFFFFFFFFFFFFFFFFFFFFFFFFFFFEFFFFFFFF0000000000000000FFFFFFFF
/-- The group order of P-384. -/
def p384n : Nat := 0xFFFFFFFFFFFFFFFFFFFFFFFFFFFFFFFFFFFFFFFFFFFFFFFFC7634D81F4372DDF581A0DB248B0A77AECEC196ACCC52973
def p384b : Nat := 0xB3312FA7E23EE7E4988E056BE3F82D19181D9C6EFE8141120314088F5013875AC656398D8A2ED19D2A85C8EDD3EC2AEF
def p384g : Nat × Nat := (0xAA87CA22BE8B05378EB1C71EF320AD746E1D3B628BA79B9859F741E082542A385502F25DBF55296C3A545E3872760AB7,
  0x3617DE4A96262C6F5D9E98BF9292DC29F8F41DBD289A147CE9DA3113B5F0B8C00A60B1CE1D7E819D7A431D7C90EA0E5F)

/-- Euclid's algorithm on r0 and r1, which are t0 and t1 times the same number modulo m; k bounds its steps. -/
def euclid (m : Nat) : Nat → Nat → Nat → Nat → Nat → Nat
  | 0, _, _, t0, _ => t0
  | k + 1, r0, r1, t0, t1 => if r1 = 0 then t0 else euclid m k r1 (r0 % r1) t1 ((t0 + (m - r0 / r1 % m) * t1) % m)

/-- The inverse modulo a prime of at most 384 bits, 0 of 0. Euclid's algorithm ends there within 600 steps. -/
def invMod (m a : Nat) : Nat := euclid m 600 m (a % m) 0 1

/-- A point in Jacobian coordinates: the affine point is (x / z², y / z³), and z = 0 is the point at infinity. -/
structure EcPoint where
  x : Nat
  y : Nat
  z : Nat

def EcPoint.ofAffine : Option (Nat × Nat) → EcPoint
  | some (x, y) => ⟨x, y, 1⟩
  | none => ⟨1, 1, 0⟩

def EcPoint.affine (a : EcPoint) : Option (Nat × Nat) :=
  if a.z = 0 then none
  else
    let w := invMod p384p a.z
    some (a.x * (w * w) % p384p, a.y * (w * w * w) % p384p)

/-- a - b modulo the field prime. -/
def fpSub (a b : Nat) : Nat := (a + (p384p - b)) % p384p

/-- Twice a point, on a curve with a = -3. -/
def EcPoint.double (a : EcPoint) : EcPoint :=
  let zz := a.z * a.z % p384p
  let yy := a.y * a.y % p384p
  let b := a.x * yy % p384p
  let m := 3 * (fpSub a.x zz * (a.x + zz)) % p384p
  let x := fpSub (m * m % p384p) (8 * b % p384p)
  ⟨x, fpSub (m * fpSub (4 * b % p384p) x % p384p) (8 * (yy * yy) % p384p), 2 * (a.y * a.z) % p384p⟩

/-- The sum of two points. -/
def EcPoint.add (a b : EcPoint) : EcPoint :=
  if a.z = 0 then b
  else if b.z = 0 then a
  else
    let za := a.z * a.z % p384p
    let zb := b.z * b.z % p384p
    let u := a.x * zb % p384p
    let v := a.y * (b.z * zb) % p384p
    let h := fpSub (b.x * za % p384p) u
    let r := fpSub (b.y * (a.z * za) % p384p) v
    if h = 0 then (if r = 0 then a.double else ⟨1, 1, 0⟩)
    else
      let hh := h * h % p384p
      let hc := h * hh % p384p
      let uh := u * hh % p384p
      let x := fpSub (fpSub (r * r % p384p) hc) (2 * uh % p384p)
      ⟨x, fpSub (r * fpSub uh x % p384p) (v * hc % p384p), h * (a.z * b.z) % p384p⟩

/-- k times a point, for k of at most w bits. -/
def EcPoint.mul (q : EcPoint) : Nat → Nat → EcPoint
  | 0, _ => ⟨1, 1, 0⟩
  | w + 1, k =>
    let r := (EcPoint.mul q w (k / 2)).double
    if k % 2 = 1 then r.add q else r

def ecMul (w k : Nat) (q : Option (Nat × Nat)) : Option (Nat × Nat) := ((EcPoint.ofAffine q).mul w k).affine

/-- The point lies on the curve. -/
def onCurve (x y : Nat) : Bool :=
  let p := p384p
  decide (x < p) && decide (y < p) && (y * y % p == (x * x * x + (p - 3) * x + p384b) % p)

/-- The public key (x‖y, 96 bytes, big-endian) verifies r‖s (96 bytes) over the message: ECDSA over SHA-384 (R82). -/
def ecdsaVerify (pub sig msg : List Byte) : Bool :=
  let x := beAt pub 0 48
  let y := beAt pub 48 48
  let r := beAt sig 0 48
  let s := beAt sig 48 48
  let n := p384n
  if onCurve x y && decide (0 < r) && decide (r < n) && decide (0 < s) && decide (s < n) then
    let e := beNat (sha384 msg)
    let w := invMod n s
    match (((EcPoint.ofAffine (some p384g)).mul 384 (e * w % n)).add ((EcPoint.ofAffine (some (x, y))).mul 384 (r * w % n))).affine with
    | none => false
    | some (px, _) => px % n == r
  else false

/-- The ECDSA signature r‖s over SHA-384 of a message with private key d and a nonce in 1 to n - 1 made from k (FIPS 186-5). -/
def ecdsaSign (d k : Nat) (msg : List Byte) : List Byte :=
  let n := p384n
  let k := k % (n - 1) + 1
  let r := match ecMul 384 k (some p384g) with | some (x, _) => x % n | none => 0
  let s := invMod n k * (beNat (sha384 msg) + r * d) % n
  beBytes 48 r ++ beBytes 48 s

/-- KEYID of a public key: bytes 0-3 of SHA-384(x‖y), little-endian (R71). -/
def keyIdOf (pub : List Byte) : Nat := leNat ((sha384 pub).take 4)

end Sys2Proof.Machine
end

