-- ==== Sys2Proof/Config.lean ====
section
/-!
DEFINITION. The values the spec leaves open. They have no body, so nothing can be proved about their values.
-/
namespace Sys2Proof.Config

/-- The k-th free value drawn by a run (log entry 3): nothing constrains it. -/
opaque freeValue : Nat → Word

/-- mvendorid, marchid, mimpid and mconfigptr of the cores, k from 1 to 5: R475 gives none of them (log entry 232). -/
opaque idCsr : Nat → Word

/-- maskmax of the triggers, which R491 does not give (log entry 232). -/
opaque maskMax : BitVec 6

end Sys2Proof.Config
end

