-- ==== Sys2Proof/Machine/Float.lean ====
section
/-!
DEFINITION. IEEE 754-2019 arithmetic (R6, R15, R187-R189): exact values, and one rounding at the end to binary32, binary16 or
the extended format of the accumulator, to nearest with ties to even.
-/
namespace Sys2Proof.Machine

/-- A floating-point value: not a number, an infinity, or (-1)^neg × m × 2^e exactly (m = 0 is a signed zero). -/
inductive Fl where
  | nan
  | inf (neg : Bool)
  | fin (neg : Bool) (m : Nat) (e : Int)
  deriving DecidableEq, Repr

namespace Fl

def zero : Fl := .fin false 0 0

/-- The value of a natural number. -/
def ofNat (n : Nat) : Fl := .fin false n 0

/-- The value of an integer. -/
def ofInt (i : Int) : Fl := .fin (decide (i < 0)) i.natAbs 0

/-- n × 2^e. -/
def ofDyadic (i : Int) (e : Int) : Fl := .fin (decide (i < 0)) i.natAbs e

def isNan : Fl → Bool
  | .nan => true
  | _ => false

def isFinite : Fl → Bool
  | .fin _ _ _ => true
  | _ => false

def isZero : Fl → Bool
  | .fin _ m _ => m == 0
  | _ => false

def isNeg : Fl → Bool
  | .nan => false
  | .inf s => s
  | .fin s _ _ => s

def neg : Fl → Fl
  | .nan => .nan
  | .inf s => .inf (!s)
  | .fin s m e => .fin (!s) m e

def abs : Fl → Fl
  | .nan => .nan
  | .inf _ => .inf false
  | .fin _ m e => .fin false m e

/-- A power of two as a natural number; exponents below zero give 1 (callers scale first). -/
def pow2 (e : Int) : Nat := 2 ^ e.toNat

/-- The exact sum; an exact zero sum of unlike signs is +0 (R189). -/
def add : Fl → Fl → Fl
  | .nan, _ => .nan
  | _, .nan => .nan
  | .inf s, .inf t => if s = t then .inf s else .nan
  | .inf s, _ => .inf s
  | _, .inf t => .inf t
  | .fin s m e, .fin t n f =>
    if m = 0 ∧ n = 0 then .fin (s && t) 0 0
    else
      let g := min e f
      let a : Int := (m * pow2 (e - g) : Nat)
      let b : Int := (n * pow2 (f - g) : Nat)
      let r := (if s then -a else a) + (if t then -b else b)
      .fin (decide (r < 0)) r.natAbs g

def sub (a b : Fl) : Fl := add a (neg b)

/-- The exact product. -/
def mul : Fl → Fl → Fl
  | .nan, _ => .nan
  | _, .nan => .nan
  | .inf s, .inf t => .inf (s != t)
  | .inf s, .fin t n _ => if n = 0 then .nan else .inf (s != t)
  | .fin s m _, .inf t => if m = 0 then .nan else .inf (s != t)
  | .fin s m e, .fin t n f => .fin (s != t) (m * n) (e + f)

/-- Rounding of m × 2^e to p significant bits with least exponent lo, to nearest, ties to even. -/
def roundMag (p : Nat) (lo : Int) (m : Nat) (e : Int) : Nat × Int :=
  if m = 0 then (0, 0)
  else
    let len : Int := (Nat.log2 m + 1 : Nat)
    let q := max (e + len - p) lo
    if q ≤ e then (m, e)
    else
      let k := (q - e).toNat
      let d := m / 2 ^ k
      let r := m % 2 ^ k
      let h := 2 ^ (k - 1)
      ((if h < r ∨ (r = h ∧ d % 2 = 1) then d + 1 else d), q)

/-- Rounding to a format of p bits, least exponent lo, and overflow at 2^hi. -/
def round (p : Nat) (lo : Int) (hi : Nat) : Fl → Fl
  | .fin s m e =>
    let (d, q) := roundMag p lo m e
    if d = 0 then .fin s 0 0
    else if hi < q + (Nat.log2 d + 1 : Nat) then .inf s
    else .fin s d q
  | x => x

/-- Rounding to binary32. -/
def round32 (x : Fl) : Fl := round 24 (-149) 128 x

/-- Rounding to the extended format of R187: 1 sign bit, 11 exponent bits, 60 fraction bits. -/
def roundExt (x : Fl) : Fl := round 61 (-1082) 1024 x

/-- A binary format with eb exponent bits and fb fraction bits, read from its encoding. -/
def decode (eb fb n : Nat) : Fl :=
  let s := bitAt n (eb + fb)
  let x := fieldOf n (eb + fb - 1) fb
  let f := n % 2 ^ fb
  let bias : Int := (2 ^ (eb - 1) - 1 : Nat)
  if x = 2 ^ eb - 1 then (if f = 0 then .inf s else .nan)
  else if x = 0 then .fin s f (1 - bias - fb)
  else .fin s (2 ^ fb + f) ((x : Int) - bias - fb)

/-- The value of a binary32 encoding. -/
def of32 (n : Nat) : Fl := decode 8 23 (n % 2 ^ 32)

/-- The value of a binary16 encoding. -/
def of16 (n : Nat) : Fl := decode 5 10 (n % 2 ^ 16)

/-- The binary32 encoding of the value after rounding; every NaN is 0x7FC0_0000 (R189). -/
def to32 (x : Fl) : Nat :=
  match round32 x with
  | .nan => 0x7FC00000
  | .inf s => (if s then 0xFF800000 else 0x7F800000)
  | .fin s m e =>
    let sg := if s then 2 ^ 31 else 0
    if m = 0 then sg
    else
      let k := 24 - (Nat.log2 m + 1)
      let up := min k (e + 149).toNat
      let m2 := m * 2 ^ up
      let e2 := e - up
      if m2 < 2 ^ 23 then sg + m2
      else
        let drop := Nat.log2 m2 - 23
        sg + (e2 + drop + 150).toNat * 2 ^ 23 + (m2 / 2 ^ drop - 2 ^ 23)

/-- a < b (false where either is not a number). -/
def lt : Fl → Fl → Bool
  | .nan, _ => false
  | _, .nan => false
  | .inf s, .inf t => s && !t
  | .inf s, _ => s
  | _, .inf t => !t
  | .fin s m e, .fin t n f =>
    match add (.fin s m e) (neg (.fin t n f)) with
    | .fin u k _ => u && k != 0
    | _ => false

def le (a b : Fl) : Bool := !a.isNan && !b.isNan && !lt b a

/-- Equal as numbers. -/
def eqv (a b : Fl) : Bool := le a b && le b a

def max2 (a b : Fl) : Fl := if lt a b then b else a
def min2 (a b : Fl) : Fl := if lt b a then b else a

/-- The largest integer not above a finite value (0 for the others). -/
def floor : Fl → Int
  | .fin s m e =>
    let i : Int := if s then -(m : Int) else m
    if 0 ≤ e then i * pow2 e else i / (pow2 (-e) : Int)
  | _ => 0

/-- The nearest integer to a finite value, ties to even (0 for the others). -/
def nearest (x : Fl) : Int :=
  let f := floor x
  let d := sub x (ofInt f)
  let h := ofDyadic 1 (-1)
  if lt d h then f else if lt h d then f + 1 else if f % 2 = 0 then f else f + 1

/-- The integer part towards zero. -/
def trunc (x : Fl) : Int := if x.isNeg then -(floor (neg x)) else floor x

/-- The value is an integer. -/
def isInt (x : Fl) : Bool := x.isFinite && eqv x (ofInt (floor x))

/-- The quotient with at least 64 significant bits and a last bit that is set when it is not exact: rounding it to a format of
at most 62 bits rounds the quotient. -/
def quot : Fl → Fl → Fl
  | .nan, _ => .nan
  | _, .nan => .nan
  | .inf _, .inf _ => .nan
  | .inf s, .fin t _ _ => .inf (s != t)
  | .fin s _ _, .inf t => .fin (s != t) 0 0
  | .fin s m e, .fin t n f =>
    if n = 0 then (if m = 0 then .nan else .inf (s != t))
    else
      let k := 64 + (Nat.log2 n + 1)
      let q := m * 2 ^ k / n
      let r := m * 2 ^ k % n
      .fin (s != t) (2 * q + if r = 0 then 0 else 1) (e - f - k - 1)

/-- The quotient rounded to binary32. -/
def div32 (a b : Fl) : Fl := round32 (quot a b)

/-- The quotient rounded to the extended format. -/
def divExt (a b : Fl) : Fl := roundExt (quot a b)

/-- Integer square root by bits, for numbers below 4^k. -/
def isqrt : Nat → Nat → Nat → Nat
  | 0, _, r => r
  | k + 1, n, r => let c := r + 2 ^ k; isqrt k n (if c * c ≤ n then c else r)

/-- The square root with a last bit that is set when it is not exact: rounding it to a format of at most 62 bits rounds the root. -/
def root : Fl → Fl
  | .nan => .nan
  | .inf s => if s then .nan else .inf false
  | .fin s m e =>
    if m = 0 then .fin s 0 0
    else if s then .nan
    else
      let sh : Nat := if e % 2 = 0 then 128 else 129
      let n := m * 2 ^ sh
      let w := (Nat.log2 n + 1) / 2 + 1
      let r := isqrt w n 0
      .fin false (2 * r + if r * r = n then 0 else 1) ((e - sh) / 2 - 1)

/-- The square root rounded to binary32. -/
def sqrt32 (x : Fl) : Fl := round32 (root x)

end Fl
end Sys2Proof.Machine
end

