-- ==== Sys2Proof/Machine/Coding.lean ====
section
/-!
DEFINITION. The code of the serial lanes (R113-R115) and their test patterns (R123, R124). A code-group is a number below 1024 whose bits, from
the most significant, are abcdei fghj in the order in which they are sent; a running disparity is true where it is positive.
-/
namespace Sys2Proof.Machine

/-! ## Code-groups -/

/-- abcdei of D.x at negative running disparity, x = 0-31 (the 5b/6b table of IEEE 802.3 clause 36). -/
def code6 : List Nat :=
  [0b100111, 0b011101, 0b101101, 0b110001, 0b110101, 0b101001, 0b011001, 0b111000,
   0b111001, 0b100101, 0b010101, 0b110100, 0b001101, 0b101100, 0b011100, 0b010111,
   0b011011, 0b100011, 0b010011, 0b110010, 0b001011, 0b101010, 0b011010, 0b111010,
   0b110011, 0b100110, 0b010110, 0b110110, 0b001110, 0b101110, 0b011110, 0b101011]

/-- fghj of .y at negative running disparity, y = 0-7 (the 3b/4b table). -/
def code4 : List Nat := [0b1011, 0b1001, 0b0101, 0b1100, 0b1101, 0b1010, 0b0110, 0b1110]

/-- Ones among the low n bits. -/
def onesIn (n g : Nat) : Nat := ((List.range n).filter g.testBit).length

/-- Running disparity at the end of a six-bit sub-block. -/
def after6 (rd : Bool) (g : Nat) : Bool :=
  if onesIn 6 g = 3 then (if g = 0b000111 then true else if g = 0b111000 then false else rd) else decide (3 < onesIn 6 g)

/-- Running disparity at the end of a four-bit sub-block. -/
def after4 (rd : Bool) (g : Nat) : Bool :=
  if onesIn 4 g = 2 then (if g = 0b0011 then true else if g = 0b1100 then false else rd) else decide (2 < onesIn 4 g)

/-- Running disparity after a code-group, valid or not. -/
def afterGroup (rd : Bool) (g : Nat) : Bool := after4 (after6 rd (g / 16)) (g % 16)

/-- The six-bit sub-block of D.x: complemented at positive disparity where it is unbalanced, and for D.7. -/
def enc6 (rd : Bool) (x : Nat) : Nat :=
  let c := code6.getD x 0
  if rd && (onesIn 6 c != 3 || x == 7) then 63 - c else c

/-- The four-bit sub-block of .y after D.x, with the alternate code of .7 where five equal bits would stand in a row. -/
def enc4 (rd : Bool) (x y : Nat) : Nat :=
  let alt := y == 7 && (if rd then [11, 13, 14] else [17, 18, 20]).contains x
  let c := if alt then 0b0111 else code4.getD y 0
  if rd && (onesIn 4 c != 2 || y == 3) then 15 - c else c

/-- Control code-groups at negative running disparity, by their byte; at positive disparity every bit is complemented. -/
def controlCodes : List (Nat × Nat) :=
  [(0x1C, 0b0011110100), (0x3C, 0b0011111001), (0x5C, 0b0011110101), (0x7C, 0b0011110011), (0x9C, 0b0011110010), (0xBC, 0b0011111010),
   (0xDC, 0b0011110110), (0xFC, 0b0011111000), (0xF7, 0b1110101000), (0xFB, 0b1101101000), (0xFD, 0b1011101000), (0xFE, 0b0111101000)]

/-- The code-group of a data byte (R113). -/
def encodeData (rd : Bool) (b : Nat) : Nat :=
  let g := enc6 rd (b % 32)
  g * 16 + enc4 (after6 rd g) (b % 32) (b / 32)

/-- The code-group of a control byte (R113). -/
def encodeControl (rd : Bool) (b : Nat) : Nat :=
  match controlCodes.find? fun e => e.1 == b with
  | some (_, g) => if rd then 1023 - g else g
  | none => 0

/-- What a code-group stands for: a control byte or a data byte. -/
structure Sym where
  ctrl : Bool
  byte : Nat
  deriving DecidableEq, Repr

def encode (rd : Bool) (x : Sym) : Nat := if x.ctrl then encodeControl rd x.byte else encodeData rd x.byte

/-- The meaning of a code-group in the column of this running disparity. -/
def decodeAt (rd : Bool) (g : Nat) : Option Sym :=
  let mid := after6 rd (g / 16)
  let data := ((List.range 32).find? fun x => enc6 rd x == g / 16).bind fun x =>
    ((List.range 8).find? fun y => enc4 mid x y == g % 16).map fun y => { ctrl := false, byte := 32 * y + x : Sym }
  match data with
  | some x => some x
  | none => (controlCodes.find? fun e => (if rd then 1023 - e.2 else e.2) == g).map fun e => { ctrl := true, byte := e.1 }

/-- How a receiver classifies a code-group (R115). -/
inductive Heard where
  | valid (x : Sym)
  | disparity
  | invalid
  deriving DecidableEq, Repr

def hear (rd : Bool) (g : Nat) : Heard :=
  match decodeAt rd g with
  | some x => .valid x
  | none => if (decodeAt (!rd) g).isSome then .disparity else .invalid

/-- Running disparity of the receiver after a code-group: after one of the other column, what that column gives (R115). -/
def heardRd (rd : Bool) (g : Nat) : Bool :=
  match hear rd g with
  | .disparity => afterGroup (!rd) g
  | _ => afterGroup rd g

/-- K28.5, K28.1, K27.7, K29.7, D16.2 (R113). -/
def kIdle : Sym := { ctrl := true, byte := 0xBC }
def kBeacon : Sym := { ctrl := true, byte := 0x3C }
def kStart : Sym := { ctrl := true, byte := 0xFB }
def kEnd : Sym := { ctrl := true, byte := 0xFD }
def dIdle : Sym := { ctrl := false, byte := 0x50 }

/-- A control code-group that the list of R113 does not hold. -/
def otherControl (x : Sym) : Bool := x.ctrl && !(List.contains [kIdle, kBeacon, kStart, kEnd] x)

/-- A frame on the line: its first code-group, its bytes, K29.7 (R138). -/
def frameSyms (first : Sym) (f : List Byte) : List Sym := first :: (f.map fun b => { ctrl := false, byte := b.toNat }) ++ [kEnd]

/-! ## Bits on the line -/

def groupBits (g : Nat) : List Bool := (List.range 10).map fun i => g.testBit (9 - i)

def bitsGroup (l : List Bool) : Nat := l.foldl (fun n b => 2 * n + b.toNat) 0

/-- The whole code-groups of a run of bits, on the boundary at its start. -/
def bitsGroups : Nat → List Bool → List Nat
  | 0, _ => []
  | k + 1, l => if l.length < 10 then [] else bitsGroup (l.take 10) :: bitsGroups k (l.drop 10)

/-- One more bit in a window of the last seven, which stand under a leading 1. -/
def winNext (w : Nat) (b : Bool) : Nat :=
  let v := 2 * w + b.toNat
  if v < 256 then v else 128 + v % 128

/-- The seven bits of a full window are a comma. -/
def winComma (w : Nat) : Bool := w == 128 + 0b0011111 || w == 128 + 0b1100000

/-- The window after a code-group, and the commas that end in it off its boundary (R118). -/
def groupCommas (w g : Nat) : Nat × Nat :=
  (List.range 10).foldl (fun (p : Nat × Nat) i =>
    let w := winNext p.1 (g.testBit (9 - i))
    (w, if i != 6 && winComma w then p.2 + 1 else p.2)) (w, 0)

/-- The bits from the first K28.5 on, of either disparity, which fixes the boundary; a K28.1 does not (R118). -/
def fromK285 : Nat → List Bool → Option (List Bool)
  | 0, _ => none
  | k + 1, l =>
    if l.length < 10 then none
    else if bitsGroup (l.take 10) = 0b0011111010 ∨ bitsGroup (l.take 10) = 0b1100000101 then some l
    else fromK285 k (l.drop 1)

/-- One more code-group on the found boundary: the consecutive valid idle pairs so far, in either disparity, and the running disparity after a
K28.5 that may begin the next one (R114, R117). -/
def idleStep (p : Nat × Option Bool) (g : Nat) : Nat × Option Bool :=
  let first := [false, true].find? fun rd => hear rd g == .valid kIdle
  match p.2, first with
  | some rd, _ => if hear rd g == .valid dIdle then (p.1 + 1, none) else (0, first.map fun r => afterGroup r g)
  | none, some r => (p.1, some (afterGroup r g))
  | none, none => (0, none)

/-- Code-groups up to the fourth idle pair, and those that are left (R117). -/
def idlePairs : Nat × Option Bool → List Nat → (Nat × Option Bool) × List Nat
  | p, [] => (p, [])
  | p, g :: gs => if 4 ≤ p.1 then (p, g :: gs) else idlePairs (idleStep p g) gs

/-! ## Test patterns (R123) -/

/-- The two taps of the polynomial that POLY names. -/
def prbsTaps (poly : Nat) : Nat × Nat :=
  match poly with
  | 0 => (7, 6)
  | 1 => (15, 14)
  | 2 => (23, 18)
  | _ => (31, 28)

/-- The next bit of the sequence whose last bits, the newest lowest, are reg. -/
def prbsNext (poly reg : Nat) : Bool := reg.testBit ((prbsTaps poly).1 - 1) != reg.testBit ((prbsTaps poly).2 - 1)

def prbsShift (poly reg : Nat) (b : Bool) : Nat := (2 * reg + b.toNat) % 2 ^ (prbsTaps poly).1

/-- k bits of the sequence, and the register after them. -/
def prbsRun (poly : Nat) : Nat → Nat → List Bool × Nat
  | 0, reg => ([], reg)
  | k + 1, reg =>
    let b := prbsNext poly reg
    let (l, r) := prbsRun poly k (prbsShift poly reg b)
    (b :: l, r)

/-- A pattern checker (R124): its live counters, its lock, its register, the bits it has seeded itself with, the run of error-free bits,
the errors among the last 64 bits, and the locks it has lost since its lane looked. -/
structure Checker where
  err : Nat := 0
  bits : Nat := 0
  locked : Bool := false
  reg : Nat := 0
  seen : Nat := 0
  run : Nat := 0
  win : Nat := 0
  lost : Nat := 0
  deriving DecidableEq, Repr

/-- The checker takes one received bit. -/
def Checker.take (poly : Nat) (c : Checker) (b : Bool) : Checker :=
  let want := prbsNext poly c.reg
  if c.locked then
    let win := (2 * c.win + (b != want).toNat) % 2 ^ 64
    let c := { c with reg := prbsShift poly c.reg want, win, bits := (c.bits + 1) % 2 ^ 64,
                      err := if b = want then c.err else min (c.err + 1) 0xFFFFFFFF }
    if 16 < onesIn 64 win then { c with locked := false, seen := 0, run := 0, win := 0, lost := c.lost + 1 } else c
  else
    let run := if (prbsTaps poly).1 ≤ c.seen ∧ b = want then c.run + 1 else 0
    { c with reg := prbsShift poly c.reg b, seen := min (c.seen + 1) 64, run, locked := decide (64 ≤ run), win := 0 }

def Checker.feed (poly : Nat) (c : Checker) (l : List Bool) : Checker := l.foldl (Checker.take poly) c

/-- The checker takes k bits that are as it expects them. -/
def Checker.pass (poly : Nat) (c : Checker) (k : Nat) : Checker :=
  { c with reg := (prbsRun poly k c.reg).2, bits := (c.bits + k) % 2 ^ 64, win := c.win * 2 ^ k % 2 ^ 64 }

end Sys2Proof.Machine
end

