-- ==== Sys2Proof/Machine/Assoc.lean ====
section
/-!
DEFINITION. Sparse data by numeric key in one canonical form: keys strictly rising, no entry equal to the default.
-/
namespace Sys2Proof.Machine

/-- The value at key a, or the default. -/
def Assoc.get {α : Type} (d : α) : List (Nat × α) → Nat → α
  | [], _ => d
  | (k, v) :: l, a => if k = a then v else Assoc.get d l a

/-- The list without key a. -/
def Assoc.del {α : Type} : List (Nat × α) → Nat → List (Nat × α)
  | [], _ => []
  | (k, v) :: l, a => if k = a then Assoc.del l a else (k, v) :: Assoc.del l a

/-- The list with v at key a, in rising order. -/
def Assoc.ins {α : Type} : List (Nat × α) → Nat → α → List (Nat × α)
  | [], a, v => [(a, v)]
  | (k, w) :: l, a, v =>
    if k = a then (a, v) :: l else if a < k then (a, v) :: (k, w) :: l else (k, w) :: Assoc.ins l a v

/-- The list with the value at key a set to v; d is what key a reads as when unlisted, so v = d removes the entry. -/
def Assoc.set {α : Type} [DecidableEq α] (d : α) (l : List (Nat × α)) (a : Nat) (v : α) : List (Nat × α) :=
  if v = d then Assoc.del l a else Assoc.ins l a v

/-- The canonical form: keys strictly rising and no entry equal to its default. -/
def Assoc.wf {α : Type} [DecidableEq α] (d : Nat → α) : List (Nat × α) → Bool
  | [] => true
  | [(k, v)] => decide (v ≠ d k)
  | (k, v) :: (k2, v2) :: l => decide (v ≠ d k) && decide (k < k2) && Assoc.wf d ((k2, v2) :: l)

/-- The canonical form of a memory whose unlisted bytes read 0 (log entry 2). -/
abbrev Memory.wf (m : List (Nat × Byte)) : Bool := Assoc.wf (fun _ => 0) m

end Sys2Proof.Machine
end

