-- ==== Sys2Proof/Machine/RegMap.lean ====
section
/-!
DEFINITION. The register map of R37: the byte address of every register, and its access type, reset value, writable bits and
whether its write is free (R101), one descriptor per row of the spec's register tables (the rule is named on each).
A per-instance register lies at block base + instance × stride + offset (R8).
-/
namespace Sys2Proof.Machine

/-- The access types of R11. -/
inductive Access where
  | ro | rw | rw1c | wo | rws | rwl | rwb
  deriving DecidableEq, Repr

/-- One row of a register table: base address, the two instance counts and strides, access, reset value, the bits a
write can set (R9: all others ignore writes and read 0), and whether an HPI write needs no commit (R101). -/
structure RegDesc where
  base : Nat
  n1 : Nat
  s1 : Nat
  n2 : Nat
  s2 : Nat
  acc : Access
  reset : Nat
  mask : Nat
  free : Bool
  deriving DecidableEq, Repr

/-- The descriptor covers the address a. -/
def RegDesc.covers (d : RegDesc) (a : Nat) : Bool :=
  decide (d.base ≤ a) && (
    let o := a - d.base
    let i := if d.n1 ≤ 1 then 0 else min (o / d.s1) (d.n1 - 1)
    let r := o - i * d.s1
    if d.n2 ≤ 1 then r == 0 else r % d.s2 == 0 && decide (r / d.s2 < d.n2))


namespace Reg

/-- R3. -/
def SYS_ID : Nat := 0x0
/-- R3. -/
def SYS_ROMVER : Nat := 0x4
/-- R69. -/
def SYS_MODE : Nat := 0x10
/-- R69. -/
def SYS_MODE_REQ : Nat := 0x14
/-- R69. -/
def SYS_MODE_PERM : Nat := 0x18
/-- R69. -/
def SYS_RESET_CAUSE : Nat := 0x20
/-- R69. -/
def SYS_BOOT_STAT : Nat := 0x24
/-- R69. -/
def SYS_BOOT_TIME : Nat := 0x28
/-- R69. -/
def SYS_RESET_REQ : Nat := 0x2C
/-- R69. -/
def SYS_WERR : Nat := 0x30
/-- R69. -/
def SYS_WERR_ADDR : Nat := 0x34
/-- R69. -/
def SYS_STBY_CFG : Nat := 0x40
/-- R69. -/
def SYS_STBY_STAT : Nat := 0x44
/-- R69. -/
def SYS_WDT_CFG (n : Nat) : Nat := 0x50 + n * 0x4
/-- R69. -/
def SYS_WDT_KICK (n : Nat) : Nat := 0x60 + n * 0x4
/-- R109. -/
def TRU_STAT : Nat := 0x10000
/-- R109. -/
def TRU_PND_STAT : Nat := 0x10004
/-- R109. -/
def TRU_UID_LO : Nat := 0x10008
/-- R109. -/
def TRU_UID_HI : Nat := 0x1000C
/-- R109. -/
def TRU_CTR_LO : Nat := 0x10010
/-- R109. -/
def TRU_CTR_HI : Nat := 0x10014
/-- R109. -/
def TRU_RCP_ID : Nat := 0x10018
/-- R109. -/
def TRU_RCP_VER : Nat := 0x1001C
/-- R109. -/
def TRU_DBG_STAT : Nat := 0x10020
/-- R109. -/
def TRU_DBG_LOCK : Nat := 0x10024
/-- R109. -/
def TRU_DEVPUB (n : Nat) : Nat := 0x10100 + n * 0x4
/-- R109. -/
def TRU_OWNHASH (n : Nat) : Nat := 0x10180 + n * 0x4
/-- R109. -/
def TRU_RCP_DIG (n : Nat) : Nat := 0x101C0 + n * 0x4
/-- R109. -/
def TRU_PND_DIG (n : Nat) : Nat := 0x10200 + n * 0x4
/-- R109. -/
def TRU_BANK_DIG (n : Nat) : Nat := 0x10240 + n * 0x4
/-- R109. -/
def TRU_KEYID (n : Nat) : Nat := 0x10300 + n * 0x8
/-- R109. -/
def TRU_KEYPERM (n : Nat) : Nat := 0x10304 + n * 0x8
/-- R109. -/
def TRU_SESS_ID (n : Nat) : Nat := 0x10340 + n * 0x10
/-- R109. -/
def TRU_SESS_KEY (n : Nat) : Nat := 0x10344 + n * 0x10
/-- R109. -/
def TRU_SESS_LEFT (n : Nat) : Nat := 0x10348 + n * 0x10
/-- R109. -/
def TRU_SESS_PERM (n : Nat) : Nat := 0x1034C + n * 0x10
/-- R109. -/
def TRU_SEC_TYPE (n : Nat) : Nat := 0x10400 + n * 0xC
/-- R109. -/
def TRU_SEC_OFF (n : Nat) : Nat := 0x10404 + n * 0xC
/-- R109. -/
def TRU_SEC_LEN (n : Nat) : Nat := 0x10408 + n * 0xC
/-- R109. -/
def TRU_STG_STAT (s : Nat) : Nat := 0x11000 + s * 0x100
/-- R109. -/
def TRU_STG_MLEN (s : Nat) : Nat := 0x11004 + s * 0x100
/-- R109. -/
def TRU_STG_CLR (s : Nat) : Nat := 0x11008 + s * 0x100
/-- R109. -/
def TRU_CMT_PTR (s : Nat) : Nat := 0x1100C + s * 0x100
/-- R109. -/
def TRU_CMT_GO (s : Nat) : Nat := 0x11010 + s * 0x100
/-- R109. -/
def TRU_CMT_STAT (s : Nat) : Nat := 0x11014 + s * 0x100
/-- R109. -/
def LOG_STAT : Nat := 0x20000
/-- R109. -/
def LOG_SEQ : Nat := 0x20004
/-- R109. -/
def LOG_OLDEST : Nat := 0x20008
/-- R109. -/
def LOG_GAPS : Nat := 0x2000C
/-- R109. -/
def LOG_LAST_REFUSED : Nat := 0x20010
/-- R109. -/
def LOG_ATT_GO : Nat := 0x20014
/-- R109. -/
def LOG_ATT_STAT : Nat := 0x20018
/-- R109. -/
def LOG_ATT_SEQ : Nat := 0x2001C
/-- R109. -/
def LOG_HEAD (n : Nat) : Nat := 0x20040 + n * 0x4
/-- R109. -/
def LOG_ATT_NONCE (n : Nat) : Nat := 0x20060 + n * 0x4
/-- R109. -/
def LOG_ATT_SIG (n : Nat) : Nat := 0x20080 + n * 0x4
/-- R131. -/
def LNK_STAT (n : Nat) : Nat := 0x30000 + n * 0x800
/-- R131. -/
def LNK_EVT (n : Nat) : Nat := 0x30004 + n * 0x800
/-- R131. -/
def LNK_PHY_CFG (n : Nat) : Nat := 0x30008 + n * 0x800
/-- R131. -/
def LNK_TEST (n : Nat) : Nat := 0x3000C + n * 0x800
/-- R131. -/
def LNK_CERR (n : Nat) : Nat := 0x30010 + n * 0x800
/-- R131. -/
def LNK_DERR (n : Nat) : Nat := 0x30014 + n * 0x800
/-- R131. -/
def LNK_LOS_CNT (n : Nat) : Nat := 0x30018 + n * 0x800
/-- R131. -/
def LNK_EB_STAT (n : Nat) : Nat := 0x3001C + n * 0x800
/-- R131. -/
def LNK_PRBS_ERR (n : Nat) : Nat := 0x30020 + n * 0x800
/-- R131. -/
def LNK_PRBS_BITS_LO (n : Nat) : Nat := 0x30024 + n * 0x800
/-- R131. -/
def LNK_PRBS_BITS_HI (n : Nat) : Nat := 0x30028 + n * 0x800
/-- R131. -/
def LNK_PRBS_STAT (n : Nat) : Nat := 0x3002C + n * 0x800
/-- R131. -/
def LNK_CNT_CTRL (n : Nat) : Nat := 0x30030 + n * 0x800
/-- R131. -/
def LNK_INJ (n : Nat) : Nat := 0x30034 + n * 0x800
/-- R132. -/
def LNK_UP : Nat := 0x38000
/-- R132. -/
def LNK_EVT_SUM : Nat := 0x38004
/-- R132. -/
def LNK_AUX_CFG : Nat := 0x38008
/-- R132. -/
def LNK_SNAP_ALL : Nat := 0x3800C
/-- R168. -/
def LNK_CH_CFG (n : Nat) : Nat := 0x30040 + n * 0x800
/-- R168. -/
def LNK_CH_STAT (n : Nat) : Nat := 0x30044 + n * 0x800
/-- R168. -/
def LNK_PEER_M (n : Nat) : Nat := 0x30048 + n * 0x800
/-- R168. -/
def LNK_TLM_OK (n : Nat) : Nat := 0x3004C + n * 0x800
/-- R168. -/
def LNK_TLM_LAST (n : Nat) : Nat := 0x30050 + n * 0x800
/-- R168. -/
def LNK_CNT_FRMERR (n : Nat) : Nat := 0x30054 + n * 0x800
/-- R168. -/
def LNK_CNT_MISS (n : Nat) : Nat := 0x30058 + n * 0x800
/-- R168. -/
def LNK_CNT_LATE (n : Nat) : Nat := 0x3005C + n * 0x800
/-- R168. -/
def LNK_CNT_DISC (n : Nat) : Nat := 0x30060 + n * 0x800
/-- R168. -/
def LNK_CNT_DEFER (n : Nat) : Nat := 0x30064 + n * 0x800
/-- R168. -/
def LNK_MBY_CLR (n : Nat) : Nat := 0x30068 + n * 0x800
/-- R168. -/
def LNK_TLM_SNAP (n : Nat) : Nat := 0x3006C + n * 0x800
/-- R168. -/
def LNK_TLM_REC (n : Nat) (k : Nat) : Nat := 0x30070 + n * 0x800 + k * 0x4
/-- R168. -/
def LNK_TLM_RSTAT (n : Nat) : Nat := 0x300A0 + n * 0x800
/-- R169. -/
def LNK_BREAK : Nat := 0x38010
/-- R169. -/
def LNK_GAP_SUM : Nat := 0x38014
/-- R169. -/
def LNK_DEADLINE : Nat := 0x38018
/-- R169. -/
def LNK_BLOCKED (k : Nat) : Nat := 0x38020 + k * 0x4
/-- R206. -/
def KNE_STAT : Nat := 0x50000
/-- R206. -/
def KNE_CTRL : Nat := 0x50004
/-- R206. -/
def KNE_PROG_STAT : Nat := 0x50008
/-- R206. -/
def KNE_SWAP : Nat := 0x5000C
/-- R206. -/
def KNE_CYCLE : Nat := 0x50010
/-- R206. -/
def KNE_TEND : Nat := 0x50014
/-- R206. -/
def KNE_TAB_EN : Nat := 0x50018
/-- R206. -/
def KNE_BIQ_EN : Nat := 0x5001C
/-- R206. -/
def KNE_MISS : Nat := 0x50020
/-- R206. -/
def KNE_EVT : Nat := 0x50024
/-- R206. -/
def KNE_SAT_CNT : Nat := 0x50028
/-- R206. -/
def KNE_ECC_CNT : Nat := 0x5002C
/-- R206. -/
def KNE_VRD_ADDR : Nat := 0x50030
/-- R206. -/
def KNE_VRD_DATA : Nat := 0x50034
/-- R206. -/
def KNE_TPRED (n : Nat) : Nat := 0x50040 + n * 0x4
/-- R206. -/
def KNE_TCORR (n : Nat) : Nat := 0x50050 + n * 0x4
/-- R206. -/
def KNE_REF (k : Nat) : Nat := 0x50080 + k * 0x4
/-- R206. -/
def KNE_YVAL (k : Nat) : Nat := 0x500C0 + k * 0x4
/-- R206. -/
def KNE_SAT (k : Nat) : Nat := 0x50100 + k * 0x4
/-- R236. -/
def MOD_STAT : Nat := 0x60000
/-- R236. -/
def MOD_CTRL : Nat := 0x60004
/-- R236. -/
def MOD_EVT : Nat := 0x60008
/-- R236. -/
def MOD_TIME : Nat := 0x6000C
/-- R236. -/
def MOD_PULSE_CFG : Nat := 0x60010
/-- R236. -/
def MOD_DTC_CFG : Nat := 0x60014
/-- R236. -/
def MOD_ROT_CFG : Nat := 0x60018
/-- R236. -/
def MOD_LFSR_SEED : Nat := 0x6001C
/-- R236. -/
def MOD_LFSR : Nat := 0x60020
/-- R236. -/
def MOD_ROT_STAT : Nat := 0x60024
/-- R236. -/
def MOD_EQ_CFG : Nat := 0x60028
/-- R236. -/
def MOD_EQ_LIM : Nat := 0x6002C
/-- R236. -/
def MOD_DAB_CFG : Nat := 0x60030
/-- R236. -/
def MOD_VNOM : Nat := 0x60034
/-- R236. -/
def MOD_CNT_CLR : Nat := 0x60038
/-- R236. -/
def MOD_SS_STAT : Nat := 0x6003C
/-- R236. -/
def MOD_PH_STAT (p : Nat) : Nat := 0x60040 + p * 0x40
/-- R236. -/
def MOD_PH_VREF (p : Nat) : Nat := 0x60044 + p * 0x40
/-- R236. -/
def MOD_PH_CARRY (p : Nat) : Nat := 0x60048 + p * 0x40
/-- R236. -/
def MOD_PH_DUTY (p : Nat) : Nat := 0x6004C + p * 0x40
/-- R236. -/
def MOD_PH_IARM (p : Nat) : Nat := 0x60050 + p * 0x40
/-- R236. -/
def MOD_PH_SPREAD (p : Nat) : Nat := 0x60054 + p * 0x40
/-- R236. -/
def MOD_PH_SPMAX (p : Nat) : Nat := 0x60058 + p * 0x40
/-- R236. -/
def MOD_PH_EMEAN (p : Nat) : Nat := 0x6005C + p * 0x40
/-- R236. -/
def MOD_PH_CNT_DROP (p : Nat) : Nat := 0x60060 + p * 0x40
/-- R236. -/
def MOD_PH_CNT_FULL (p : Nat) : Nat := 0x60064 + p * 0x40
/-- R236. -/
def MOD_PH_CNT_OVM (p : Nat) : Nat := 0x60068 + p * 0x40
/-- R236. -/
def MOD_PH_CNT_CSAT (p : Nat) : Nat := 0x6006C + p * 0x40
/-- R236. -/
def MOD_OL_AMP (p : Nat) : Nat := 0x60100 + p * 0x4
/-- R236. -/
def MOD_OL_BAL : Nat := 0x6010C
/-- R236. -/
def MOD_OL_ARATE : Nat := 0x60110
/-- R236. -/
def MOD_OL_DAB : Nat := 0x60114
/-- R236. -/
def MOD_OL_CTRL : Nat := 0x60118
/-- R236. -/
def MOD_JOG_CFG : Nat := 0x60120
/-- R236. -/
def MOD_JOG_EDGE (i : Nat) : Nat := 0x60124 + i * 0x4
/-- R236. -/
def MOD_JOG_DAB : Nat := 0x60134
/-- R236. -/
def MOD_IN_ADDR : Nat := 0x60140
/-- R236. -/
def MOD_IN_DATA : Nat := 0x60144
/-- R236. -/
def MOD_SS_ADDR : Nat := 0x60148
/-- R236. -/
def MOD_SS_DATA : Nat := 0x6014C
/-- R236. -/
def MOD_RUNMAP (k : Nat) : Nat := 0x60160 + k * 0x4
/-- R236. -/
def MOD_BYPMAP (k : Nat) : Nat := 0x60180 + k * 0x4
/-- R236. -/
def MOD_DROPMAP (k : Nat) : Nat := 0x601A0 + k * 0x4
/-- R236. -/
def MOD_SLOT (p : Nat) (j : Nat) : Nat := 0x60200 + p * 0x40 + j * 0x4
/-- R237. -/
def MOD_CELL_STAT (c : Nat) : Nat := 0x68000 + c * 0x40
/-- R237. -/
def MOD_CELL_VCAP (c : Nat) : Nat := 0x68004 + c * 0x40
/-- R237. -/
def MOD_CELL_DWELL (c : Nat) : Nat := 0x68008 + c * 0x40
/-- R237. -/
def MOD_CELL_EDGE (c : Nat) (i : Nat) : Nat := 0x6800C + c * 0x40 + i * 0x4
/-- R237. -/
def MOD_CELL_DAB (c : Nat) : Nat := 0x6801C + c * 0x40
/-- R237. -/
def MOD_CELL_DEBT (c : Nat) : Nat := 0x68020 + c * 0x40
/-- R237. -/
def MOD_CELL_SNAP (c : Nat) : Nat := 0x68024 + c * 0x40
/-- R237. -/
def MOD_CELL_ELAST (c : Nat) : Nat := 0x68028 + c * 0x40
/-- R237. -/
def MOD_CELL_CNT_DROP (c : Nat) : Nat := 0x6802C + c * 0x40
/-- R237. -/
def MOD_CELL_CNT_FULL (c : Nat) : Nat := 0x68030 + c * 0x40
/-- R237. -/
def MOD_CELL_KEY (c : Nat) : Nat := 0x68034 + c * 0x40
/-- R237. -/
def MOD_CELL_CRC (c : Nat) : Nat := 0x68038 + c * 0x40
/-- R237. -/
def MOD_CELL_CMDW (c : Nat) : Nat := 0x6803C + c * 0x40
/-- R266. -/
def PTN_CFG : Nat := 0x40000
/-- R266. -/
def PTN_STAT : Nat := 0x40004
/-- R266. -/
def PTN_EVT : Nat := 0x40008
/-- R266. -/
def PTN_TERM : Nat := 0x4000C
/-- R266. -/
def PTN_CTRL : Nat := 0x40010
/-- R266. -/
def PTN_ADC_OWN : Nat := 0x40014
/-- R266. -/
def PTN_PUID_LO : Nat := 0x40018
/-- R266. -/
def PTN_PUID_HI : Nat := 0x4001C
/-- R266. -/
def PTN_BDIG : Nat := 0x40020
/-- R266. -/
def PTN_PBDIG : Nat := 0x40024
/-- R266. -/
def PTN_CNT_COPYMISS : Nat := 0x40028
/-- R266. -/
def PTN_CNT_DIS : Nat := 0x4002C
/-- R266. -/
def PTN_CNT_GV : Nat := 0x40030
/-- R266. -/
def PTN_CNT_RESYNC : Nat := 0x40034
/-- R266. -/
def PTN_CNT_RELAY : Nat := 0x40038
/-- R266. -/
def PTN_CNT_RELAYDROP : Nat := 0x4003C
/-- R266. -/
def PTN_CNT_CLR : Nat := 0x40040
/-- R266. -/
def PTN_NEED (k : Nat) : Nat := 0x40060 + k * 0x4
/-- R266. -/
def PTN_PNEED (k : Nat) : Nat := 0x40080 + k * 0x4
/-- R284. -/
def PWM_STAT : Nat := 0x70000
/-- R284. -/
def PWM_CTRL : Nat := 0x70004
/-- R284. -/
def PWM_EVT : Nat := 0x70008
/-- R284. -/
def PWM_CNT_CLR : Nat := 0x7000C
/-- R284. -/
def PWM_OUT : Nat := 0x70010
/-- R284. -/
def PWM_EXT_IN : Nat := 0x70014
/-- R284. -/
def PWM_HALT_CNT : Nat := 0x70018
/-- R284. -/
def PWM_FORCE_CNT : Nat := 0x7001C
/-- R285. -/
def PWM_G_CFG (g : Nat) : Nat := 0x70100 + g * 0x40
/-- R285. -/
def PWM_G_PERIOD (g : Nat) : Nat := 0x70104 + g * 0x40
/-- R285. -/
def PWM_G_CTRL (g : Nat) : Nat := 0x70108 + g * 0x40
/-- R285. -/
def PWM_G_STAT (g : Nat) : Nat := 0x7010C + g * 0x40
/-- R285. -/
def PWM_G_MSK_CFG (g : Nat) : Nat := 0x70110 + g * 0x40
/-- R285. -/
def PWM_G_MSK_STAT (g : Nat) : Nat := 0x70114 + g * 0x40
/-- R285. -/
def PWM_G_MSK_SW (g : Nat) : Nat := 0x70118 + g * 0x40
/-- R285. -/
def PWM_G_SYNPER (g : Nat) : Nat := 0x7011C + g * 0x40
/-- R286. -/
def PWM_HB_CFG (h : Nat) : Nat := 0x70200 + h * 0x40
/-- R286. -/
def PWM_HB_CMPA (h : Nat) : Nat := 0x70204 + h * 0x40
/-- R286. -/
def PWM_HB_CMPB (h : Nat) : Nat := 0x70208 + h * 0x40
/-- R286. -/
def PWM_HB_PHASE (h : Nat) : Nat := 0x7020C + h * 0x40
/-- R286. -/
def PWM_HB_MINP (h : Nat) : Nat := 0x70210 + h * 0x40
/-- R286. -/
def PWM_HB_RF_CFG (h : Nat) : Nat := 0x70214 + h * 0x40
/-- R286. -/
def PWM_HB_STAT (h : Nat) : Nat := 0x70218 + h * 0x40
/-- R286. -/
def PWM_HB_DUTY (h : Nat) : Nat := 0x7021C + h * 0x40
/-- R286. -/
def PWM_HB_EFF_HI (h : Nat) : Nat := 0x70220 + h * 0x40
/-- R286. -/
def PWM_HB_EFF_LO (h : Nat) : Nat := 0x70224 + h * 0x40
/-- R286. -/
def PWM_HB_CNT_DROP (h : Nat) : Nat := 0x70228 + h * 0x40
/-- R286. -/
def PWM_HB_CNT_STRETCH (h : Nat) : Nat := 0x7022C + h * 0x40
/-- R286. -/
def PWM_HB_CNT_CLAMP (h : Nat) : Nat := 0x70230 + h * 0x40
/-- R286. -/
def PWM_HB_CNT_RFR (h : Nat) : Nat := 0x70234 + h * 0x40
/-- R286. -/
def PWM_HB_CNT_DISC (h : Nat) : Nat := 0x70238 + h * 0x40
/-- R286. -/
def PWM_HB_CNT_MASK (h : Nat) : Nat := 0x7023C + h * 0x40
/-- R287. -/
def PWM_MSK_FORCE (g : Nat) (k : Nat) : Nat := 0x70400 + g * 0x100 + k * 0x8
/-- R287. -/
def PWM_MSK_HOLD (g : Nat) (k : Nat) : Nat := 0x70404 + g * 0x100 + k * 0x8
/-- R311. -/
def GDR_STAT : Nat := 0x78000
/-- R311. -/
def GDR_EVT : Nat := 0x78004
/-- R311. -/
def GDR_CLR : Nat := 0x78008
/-- R311. -/
def GDR_DIRECT : Nat := 0x7800C
/-- R311. -/
def GDR_CNT_CLR : Nat := 0x78010
/-- R311. -/
def GDR_FLT_SUM : Nat := 0x78014
/-- R311. -/
def GDR_FIRST : Nat := 0x78018
/-- R311. -/
def GDR_FIRST_NS : Nat := 0x7801C
/-- R311. -/
def GDR_FIRST_SEC : Nat := 0x78020
/-- R311. -/
def GDR_CNT_SC : Nat := 0x78024
/-- R311. -/
def GDR_PWR_TOT : Nat := 0x78028
/-- R311. -/
def GDR_CNT_SEG : Nat := 0x7802C
/-- R311. -/
def GDR_CNT_CLR_KEPT : Nat := 0x78030
/-- R311. -/
def GDR_SNAP : Nat := 0x78034
/-- R311. -/
def GDR_ID : Nat := 0x78038
/-- R311. -/
def GDR_CNT_UVLO : Nat := 0x7803C
/-- R311. -/
def GDR_TEMP (k : Nat) : Nat := 0x78040 + k * 0x4
/-- R311. -/
def GDR_PWR_MAX : Nat := 0x78058
/-- R311. -/
def GDR_CNT_SOFT : Nat := 0x7805C
/-- R312. -/
def GDR_HB_CFG (h : Nat) : Nat := 0x78100 + h * 0x100
/-- R312. -/
def GDR_HB_STAT (h : Nat) : Nat := 0x78104 + h * 0x100
/-- R312. -/
def GDR_HB_FLT (h : Nat) : Nat := 0x78108 + h * 0x100
/-- R312. -/
def GDR_HB_DT (h : Nat) : Nat := 0x7810C + h * 0x100
/-- R312. -/
def GDR_HB_VGATE (h : Nat) : Nat := 0x78110 + h * 0x100
/-- R312. -/
def GDR_HB_DRIVE (h : Nat) : Nat := 0x78114 + h * 0x100
/-- R312. -/
def GDR_HB_ADAPT (h : Nat) : Nat := 0x78118 + h * 0x100
/-- R312. -/
def GDR_HB_ADAPT_TGT (h : Nat) : Nat := 0x7811C + h * 0x100
/-- R312. -/
def GDR_HB_STEP_LIVE (h : Nat) : Nat := 0x78120 + h * 0x100
/-- R312. -/
def GDR_HB_DESAT (h : Nat) : Nat := 0x78124 + h * 0x100
/-- R312. -/
def GDR_HB_GCM (h : Nat) : Nat := 0x78128 + h * 0x100
/-- R312. -/
def GDR_HB_STOFF (h : Nat) : Nat := 0x7812C + h * 0x100
/-- R312. -/
def GDR_HB_DIRSW (h : Nat) : Nat := 0x78130 + h * 0x100
/-- R312. -/
def GDR_HB_PWR (h : Nat) : Nat := 0x78134 + h * 0x100
/-- R312. -/
def GDR_HB_SWT_H (h : Nat) : Nat := 0x78138 + h * 0x100
/-- R312. -/
def GDR_HB_SWT_L (h : Nat) : Nat := 0x7813C + h * 0x100
/-- R312. -/
def GDR_HB_CNT_SC (h : Nat) : Nat := 0x78140 + h * 0x100
/-- R312. -/
def GDR_HB_CNT_SOFT (h : Nat) : Nat := 0x78144 + h * 0x100
/-- R312. -/
def GDR_HB_CNT_SHORT (h : Nat) : Nat := 0x78148 + h * 0x100
/-- R312. -/
def GDR_HB_CNT_INTLK (h : Nat) : Nat := 0x7814C + h * 0x100
/-- R312. -/
def GDR_HB_CNT_NOMEAS (h : Nat) : Nat := 0x78150 + h * 0x100
/-- R312. -/
def GDR_HB_CNT_ADSAT (h : Nat) : Nat := 0x78154 + h * 0x100
/-- R312. -/
def GDR_HB_CNT_UVLO (h : Nat) : Nat := 0x78158 + h * 0x100
/-- R312. -/
def GDR_HB_VSUP (h : Nat) : Nat := 0x7815C + h * 0x100
/-- R312. -/
def GDR_HB_SWT_HIST (h : Nat) (k : Nat) : Nat := 0x78160 + h * 0x100 + k * 0x4
/-- R337. -/
def ADC_STAT : Nat := 0x80000
/-- R337. -/
def ADC_EVT : Nat := 0x80004
/-- R337. -/
def ADC_PAIR_CFG : Nat := 0x80008
/-- R337. -/
def ADC_XCHK_STAT : Nat := 0x8000C
/-- R337. -/
def ADC_RESYNC : Nat := 0x80010
/-- R337. -/
def ADC_SNAP_ALL : Nat := 0x80014
/-- R337. -/
def ADC_CNT_CLR : Nat := 0x80018
/-- R337. -/
def ADC_MTR_CTRL : Nat := 0x8001C
/-- R337. -/
def ADC_XTOL (k : Nat) : Nat := 0x80020 + k * 0x4
/-- R337. -/
def ADC_MTR_CFG (p : Nat) : Nat := 0x80040 + p * 0x14
/-- R337. -/
def ADC_MTR_EPOS_LO (p : Nat) : Nat := 0x80044 + p * 0x14
/-- R337. -/
def ADC_MTR_EPOS_HI (p : Nat) : Nat := 0x80048 + p * 0x14
/-- R337. -/
def ADC_MTR_ENEG_LO (p : Nat) : Nat := 0x8004C + p * 0x14
/-- R337. -/
def ADC_MTR_ENEG_HI (p : Nat) : Nat := 0x80050 + p * 0x14
/-- R337. -/
def ADC_MTR_GAP : Nat := 0x8007C
/-- R338. -/
def ADC_CH_CFG (c : Nat) : Nat := 0x80100 + c * 0x80
/-- R338. -/
def ADC_CH_OW (c : Nat) : Nat := 0x80104 + c * 0x80
/-- R338. -/
def ADC_CH_GAIN (c : Nat) : Nat := 0x80108 + c * 0x80
/-- R338. -/
def ADC_CH_OFFSET (c : Nat) : Nat := 0x8010C + c * 0x80
/-- R338. -/
def ADC_CH_STAT (c : Nat) : Nat := 0x80110 + c * 0x80
/-- R338. -/
def ADC_CH_DATA (c : Nat) : Nat := 0x80114 + c * 0x80
/-- R338. -/
def ADC_CH_RAW (c : Nat) : Nat := 0x80118 + c * 0x80
/-- R338. -/
def ADC_CH_SEQ (c : Nat) : Nat := 0x8011C + c * 0x80
/-- R338. -/
def ADC_CH_TS_NS (c : Nat) : Nat := 0x80120 + c * 0x80
/-- R338. -/
def ADC_CH_TS_SEC (c : Nat) : Nat := 0x80124 + c * 0x80
/-- R338. -/
def ADC_CH_CNT_CLIP (c : Nat) : Nat := 0x80128 + c * 0x80
/-- R338. -/
def ADC_CH_CNT_SETTLE (c : Nat) : Nat := 0x8012C + c * 0x80
/-- R338. -/
def ADC_CH_CNT_OPEN (c : Nat) : Nat := 0x80130 + c * 0x80
/-- R338. -/
def ADC_CH_EVT (c : Nat) : Nat := 0x80134 + c * 0x80
/-- R338. -/
def ADC_CH_SNAP (c : Nat) : Nat := 0x80138 + c * 0x80
/-- R338. -/
def ADC_CH_S_DATA (c : Nat) : Nat := 0x8013C + c * 0x80
/-- R338. -/
def ADC_CH_S_RAW (c : Nat) : Nat := 0x80140 + c * 0x80
/-- R338. -/
def ADC_CH_S_SEQ (c : Nat) : Nat := 0x80144 + c * 0x80
/-- R338. -/
def ADC_CH_S_NS (c : Nat) : Nat := 0x80148 + c * 0x80
/-- R338. -/
def ADC_CH_S_SEC (c : Nat) : Nat := 0x8014C + c * 0x80
/-- R339. -/
def HKP_STAT : Nat := 0xD0000
/-- R339. -/
def HKP_EVT : Nat := 0xD0004
/-- R339. -/
def HKP_TCFG : Nat := 0xD0008
/-- R339. -/
def HKP_NTC : Nat := 0xD000C
/-- R339. -/
def HKP_DIODE : Nat := 0xD0010
/-- R339. -/
def HKP_URG : Nat := 0xD0014
/-- R339. -/
def HKP_URG_RES : Nat := 0xD0018
/-- R339. -/
def HKP_CNT : Nat := 0xD001C
/-- R339. -/
def HKP_SEQ (k : Nat) : Nat := 0xD0100 + k * 0x4
/-- R339. -/
def HKP_RES (k : Nat) : Nat := 0xD0200 + k * 0x4
/-- R360. -/
def FLT_STAT : Nat := 0x88000
/-- R360. -/
def FLT_EVT : Nat := 0x88004
/-- R360. -/
def FLT_Q_STAT : Nat := 0x88008
/-- R360. -/
def FLT_Q_POP : Nat := 0x8800C
/-- R360. -/
def FLT_Q_LOST : Nat := 0x88010
/-- R360. -/
def FLT_CLR : Nat := 0x88014
/-- R360. -/
def FLT_SW : Nat := 0x88018
/-- R360. -/
def FLT_FIRST : Nat := 0x8801C
/-- R360. -/
def FLT_FIRST_NS : Nat := 0x88020
/-- R360. -/
def FLT_FIRST_SEC : Nat := 0x88024
/-- R360. -/
def FLT_SRC_SEL : Nat := 0x88028
/-- R360. -/
def FLT_SRC_INFO : Nat := 0x8802C
/-- R360. -/
def FLT_SRC_CNT : Nat := 0x88030
/-- R360. -/
def FLT_SRC_LAST_NS : Nat := 0x88034
/-- R360. -/
def FLT_SRC_LAST_SEC : Nat := 0x88038
/-- R360. -/
def FLT_CNT_CLR : Nat := 0x8803C
/-- R360. -/
def FLT_Q_HEAD (k : Nat) : Nat := 0x88040 + k * 0x4
/-- R360. -/
def FLT_GF_STAT : Nat := 0x88060
/-- R360. -/
def FLT_GF_AMP : Nat := 0x88064
/-- R360. -/
def FLT_THR (k : Nat) : Nat := 0x88080 + k * 0x4
/-- R360. -/
def FLT_LATCH (k : Nat) : Nat := 0x88100 + k * 0x4
/-- R360. -/
def FLT_ACTIVE (k : Nat) : Nat := 0x88120 + k * 0x4
/-- R360. -/
def FLT_PAIR (k : Nat) : Nat := 0x88140 + k * 0x4
/-- R360. -/
def FLT_RTRG (k : Nat) : Nat := 0x88160 + k * 0x4
/-- R360. -/
def FLT_CLASS (k : Nat) : Nat := 0x88180 + k * 0x4
/-- R360. -/
def FLT_CNT (k : Nat) : Nat := 0x88200 + k * 0x4
/-- R360. -/
def FLT_ADC_LO (c : Nat) : Nat := 0x88300 + c * 0x8
/-- R360. -/
def FLT_ADC_HI (c : Nat) : Nat := 0x88304 + c * 0x8
/-- R360. -/
def FLT_THW (s : Nat) : Nat := 0x88380 + s * 0x8
/-- R360. -/
def FLT_THS (s : Nat) : Nat := 0x88384 + s * 0x8
/-- R386. -/
def SAF_STAT : Nat := 0x90000
/-- R386. -/
def SAF_OUT : Nat := 0x90004
/-- R386. -/
def SAF_IN : Nat := 0x90008
/-- R386. -/
def SAF_DEMAND : Nat := 0x9000C
/-- R386. -/
def SAF_LATCH : Nat := 0x90010
/-- R386. -/
def SAF_TEST : Nat := 0x90014
/-- R386. -/
def SAF_TEST_CNT : Nat := 0x90018
/-- R386. -/
def SAF_SD_STAT : Nat := 0x9001C
/-- R386. -/
def SAF_SD_SEQ0 : Nat := 0x90020
/-- R386. -/
def SAF_SD_SEQ1 : Nat := 0x90024
/-- R386. -/
def SAF_SD_CNT_CRC : Nat := 0x90028
/-- R386. -/
def SAF_SD_CNT_LATE : Nat := 0x9002C
/-- R386. -/
def SAF_SD_CNT_DIFF : Nat := 0x90030
/-- R386. -/
def SAF_SD_CMD : Nat := 0x90034
/-- R386. -/
def SAF_SPS_ID : Nat := 0x90038
/-- R386. -/
def SAF_SPS_REM : Nat := 0x9003C
/-- R386. -/
def SAF_RDBK_A : Nat := 0x90040
/-- R386. -/
def SAF_RDBK_B : Nat := 0x90044
/-- R386. -/
def SAF_ILOAD : Nat := 0x90048
/-- R386. -/
def SAF_VSUP : Nat := 0x9004C
/-- R386. -/
def SAF_TIME : Nat := 0x90050
/-- R386. -/
def SAF_MSEQ : Nat := 0x90054
/-- R386. -/
def SAF_DEM_CNT : Nat := 0x90058
/-- R386. -/
def SAF_VER : Nat := 0x9005C
/-- R386. -/
def SAF_DIAG : Nat := 0x90060
/-- R386. -/
def SAF_PEEL : Nat := 0x90064
/-- R386. -/
def SAF_SD_RX0 : Nat := 0x90068
/-- R386. -/
def SAF_SD_RX1 : Nat := 0x9006C
/-- R386. -/
def SAF_SPS (k : Nat) : Nat := 0x90080 + k * 0x4
/-- R386. -/
def SAF_HIST_C (k : Nat) : Nat := 0x900C0 + k * 0x8
/-- R386. -/
def SAF_HIST_T (k : Nat) : Nat := 0x900C4 + k * 0x8
/-- R386. -/
def SAF_SW (k : Nat) : Nat := 0x90100 + k * 0x4
/-- R402. -/
def REC_STAT : Nat := 0x98000
/-- R402. -/
def REC_CTRL : Nat := 0x98004
/-- R402. -/
def REC_EVT : Nat := 0x98008
/-- R402. -/
def REC_CFG : Nat := 0x9800C
/-- R402. -/
def REC_DIV : Nat := 0x98010
/-- R402. -/
def REC_POST : Nat := 0x98014
/-- R402. -/
def REC_TRIGCFG : Nat := 0x98018
/-- R402. -/
def REC_LF : Nat := 0x9801C
/-- R402. -/
def REC_SEG_REL : Nat := 0x98020
/-- R402. -/
def REC_GEOM : Nat := 0x98024
/-- R402. -/
def REC_CAP : Nat := 0x98028
/-- R402. -/
def REC_CNT_TRIG : Nat := 0x9802C
/-- R402. -/
def REC_CNT_RETRIG : Nat := 0x98030
/-- R402. -/
def REC_CNT_LOST : Nat := 0x98034
/-- R402. -/
def REC_CNT_CLR : Nat := 0x98038
/-- R402. -/
def REC_WPTR : Nat := 0x9803C
/-- R402. -/
def REC_SEG_STAT (s : Nat) : Nat := 0x98100 + s * 0x20
/-- R402. -/
def REC_SEG_TSEC (s : Nat) : Nat := 0x98104 + s * 0x20
/-- R402. -/
def REC_SEG_TNS (s : Nat) : Nat := 0x98108 + s * 0x20
/-- R402. -/
def REC_SEG_FIRST (s : Nat) : Nat := 0x9810C + s * 0x20
/-- R402. -/
def REC_SEG_NFRM (s : Nat) : Nat := 0x98110 + s * 0x20
/-- R402. -/
def REC_SIG (k : Nat) : Nat := 0x98200 + k * 0x4
/-- R422. -/
def CLK_STAT : Nat := 0xA0000
/-- R422. -/
def CLK_EVT : Nat := 0xA0004
/-- R422. -/
def CLK_MON_CFG : Nat := 0xA0008
/-- R422. -/
def CLK_REF_PPB : Nat := 0xA000C
/-- R422. -/
def CLK_SYN_CFG : Nat := 0xA0010
/-- R422. -/
def CLK_SYN_BASE : Nat := 0xA0014
/-- R422. -/
def CLK_SYN_WORD : Nat := 0xA0018
/-- R422. -/
def CLK_SYN_HOLDT : Nat := 0xA001C
/-- R422. -/
def CLK_SYNC_CFG : Nat := 0xA0020
/-- R422. -/
def CLK_SYNC_SW : Nat := 0xA0024
/-- R422. -/
def CLK_SYNC_STAT : Nat := 0xA0028
/-- R422. -/
def CLK_SYNC_NS : Nat := 0xA002C
/-- R422. -/
def CLK_SYNC_SEC : Nat := 0xA0030
/-- R422. -/
def CLK_OUT_EN : Nat := 0xA0034
/-- R422. -/
def CLK_RISE_CTRL : Nat := 0xA0038
/-- R422. -/
def CLK_RISE_STAT : Nat := 0xA003C
/-- R422. -/
def CLK_SEG_ADDR : Nat := 0xA0040
/-- R422. -/
def CLK_SEG_DUR : Nat := 0xA0044
/-- R422. -/
def CLK_SEG_END : Nat := 0xA0048
/-- R422. -/
def CLK_CNT_REF : Nat := 0xA004C
/-- R422. -/
def CLK_CNT_SYSUL : Nat := 0xA0050
/-- R422. -/
def CLK_CNT_HOLD : Nat := 0xA0054
/-- R422. -/
def CLK_CNT_SYNC : Nat := 0xA0058
/-- R422. -/
def CLK_CNT_CLR : Nat := 0xA005C
/-- R423. -/
def CLK_OUTN_CFG (n : Nat) : Nat := 0xA0100 + n * 0x10
/-- R423. -/
def CLK_OUTN_DLY (n : Nat) : Nat := 0xA0104 + n * 0x10
/-- R423. -/
def CLK_OUTN_STAT (n : Nat) : Nat := 0xA0108 + n * 0x10
/-- R423. -/
def CLK_OUTN_FREQ (n : Nat) : Nat := 0xA010C + n * 0x10
/-- R424. -/
def CLK_RISEP_CFG (p : Nat) : Nat := 0xA0200 + p * 0x40
/-- R424. -/
def CLK_RISEP_V0 (p : Nat) : Nat := 0xA0204 + p * 0x40
/-- R424. -/
def CLK_RISEP_STAT (p : Nat) : Nat := 0xA0208 + p * 0x40
/-- R424. -/
def CLK_RISEP_VAL (p : Nat) : Nat := 0xA020C + p * 0x40
/-- R424. -/
def CLK_RISEP_ELAPSED (p : Nat) : Nat := 0xA0210 + p * 0x40
/-- R424. -/
def CLK_RISEP_TOTAL (p : Nat) : Nat := 0xA0214 + p * 0x40
/-- R424. -/
def CLK_RISEP_TS_NS (p : Nat) : Nat := 0xA0218 + p * 0x40
/-- R424. -/
def CLK_RISEP_TS_SEC (p : Nat) : Nat := 0xA021C + p * 0x40
/-- R424. -/
def CLK_RISEP_CNT (p : Nat) : Nat := 0xA0220 + p * 0x40
/-- R424. -/
def CLK_RISEP_HOLDT (p : Nat) : Nat := 0xA0224 + p * 0x40
/-- R445. -/
def TIM_STAT : Nat := 0xA8000
/-- R445. -/
def TIM_EVT : Nat := 0xA8004
/-- R445. -/
def TIM_NOW_NS : Nat := 0xA8008
/-- R445. -/
def TIM_NOW_SEC : Nat := 0xA800C
/-- R445. -/
def TIM_NOW_SECH : Nat := 0xA8010
/-- R445. -/
def TIM_CYCLE : Nat := 0xA8014
/-- R445. -/
def TIM_PERIOD : Nat := 0xA8018
/-- R445. -/
def TIM_ADDEND : Nat := 0xA801C
/-- R445. -/
def TIM_SET_NS : Nat := 0xA8020
/-- R445. -/
def TIM_SET_SEC : Nat := 0xA8024
/-- R445. -/
def TIM_SET_SECH : Nat := 0xA8028
/-- R445. -/
def TIM_STEP_NS : Nat := 0xA802C
/-- R445. -/
def TIM_CTRL : Nat := 0xA8030
/-- R445. -/
def TIM_UTC : Nat := 0xA8034
/-- R445. -/
def TIM_SRV_CFG : Nat := 0xA8040
/-- R445. -/
def TIM_SRV_THR : Nat := 0xA8044
/-- R445. -/
def TIM_SRV_HOLD : Nat := 0xA8048
/-- R445. -/
def TIM_SRV_KP0 : Nat := 0xA804C
/-- R445. -/
def TIM_SRV_KI0 : Nat := 0xA8050
/-- R445. -/
def TIM_SRV_KP1 : Nat := 0xA8054
/-- R445. -/
def TIM_SRV_KI1 : Nat := 0xA8058
/-- R445. -/
def TIM_SRV_OFFSET : Nat := 0xA805C
/-- R445. -/
def TIM_SRV_LAST : Nat := 0xA8060
/-- R445. -/
def TIM_SRV_INTEG : Nat := 0xA8064
/-- R445. -/
def TIM_PTN_OFF : Nat := 0xA8068
/-- R445. -/
def TIM_CNT_STEP : Nat := 0xA806C
/-- R445. -/
def TIM_CNT_SAMPLE : Nat := 0xA8070
/-- R445. -/
def TIM_CNT_CLR : Nat := 0xA8074
/-- R447. -/
def TIM_TXQ_STAT (p : Nat) : Nat := 0xA8100 + p * 0x20
/-- R447. -/
def TIM_TXQ_ID (p : Nat) : Nat := 0xA8104 + p * 0x20
/-- R447. -/
def TIM_TXQ_SEC (p : Nat) : Nat := 0xA8108 + p * 0x20
/-- R447. -/
def TIM_TXQ_NS (p : Nat) : Nat := 0xA810C + p * 0x20
/-- R447. -/
def TIM_TXQ_POP (p : Nat) : Nat := 0xA8110 + p * 0x20
/-- R447. -/
def TIM_ETH_CFG (p : Nat) : Nat := 0xA8114 + p * 0x20
/-- R448. -/
def TIM_CMP_LO (k : Nat) : Nat := 0xA8200 + k * 0x20
/-- R448. -/
def TIM_CMP_HI (k : Nat) : Nat := 0xA8204 + k * 0x20
/-- R448. -/
def TIM_CMP_PER (k : Nat) : Nat := 0xA8208 + k * 0x20
/-- R448. -/
def TIM_CMP_CTRL (k : Nat) : Nat := 0xA820C + k * 0x20
/-- R448. -/
def TIM_CMP_STAT (k : Nat) : Nat := 0xA8210 + k * 0x20
/-- R448. -/
def TIM_CMP_CNT (k : Nat) : Nat := 0xA8214 + k * 0x20
/-- R471. -/
def ETH_STAT (p : Nat) : Nat := 0xB0000 + p * 0x1000
/-- R471. -/
def ETH_EVT (p : Nat) : Nat := 0xB0004 + p * 0x1000
/-- R471. -/
def ETH_CFG (p : Nat) : Nat := 0xB0008 + p * 0x1000
/-- R471. -/
def ETH_AN_LP (p : Nat) : Nat := 0xB000C + p * 0x1000
/-- R471. -/
def ETH_MAC_LO (p : Nat) : Nat := 0xB0010 + p * 0x1000
/-- R471. -/
def ETH_MAC_HI (p : Nat) : Nat := 0xB0014 + p * 0x1000
/-- R471. -/
def ETH_IP4 (p : Nat) : Nat := 0xB0018 + p * 0x1000
/-- R471. -/
def ETH_IP4_PLEN (p : Nat) : Nat := 0xB001C + p * 0x1000
/-- R471. -/
def ETH_IP6 (p : Nat) (k : Nat) : Nat := 0xB0020 + p * 0x1000 + k * 0x4
/-- R471. -/
def ETH_TXR_BASE (p : Nat) : Nat := 0xB0030 + p * 0x1000
/-- R471. -/
def ETH_TXR_CFG (p : Nat) : Nat := 0xB0034 + p * 0x1000
/-- R471. -/
def ETH_TXR_TAIL (p : Nat) : Nat := 0xB0038 + p * 0x1000
/-- R471. -/
def ETH_TXR_HEAD (p : Nat) : Nat := 0xB003C + p * 0x1000
/-- R471. -/
def ETH_RXR_BASE (p : Nat) : Nat := 0xB0040 + p * 0x1000
/-- R471. -/
def ETH_RXR_CFG (p : Nat) : Nat := 0xB0044 + p * 0x1000
/-- R471. -/
def ETH_RXR_TAIL (p : Nat) : Nat := 0xB0048 + p * 0x1000
/-- R471. -/
def ETH_RXR_HEAD (p : Nat) : Nat := 0xB004C + p * 0x1000
/-- R471. -/
def ETH_RING_CTRL (p : Nat) : Nat := 0xB0050 + p * 0x1000
/-- R471. -/
def ETH_RX_FILT (p : Nat) : Nat := 0xB0054 + p * 0x1000
/-- R471. -/
def ETH_MCHASH (p : Nat) (k : Nat) : Nat := 0xB0058 + p * 0x1000 + k * 0x4
/-- R471. -/
def ETH_UZ_STAT (p : Nat) : Nat := 0xB0060 + p * 0x1000
/-- R471. -/
def ETH_DENY_FAM (p : Nat) : Nat := 0xB0064 + p * 0x1000
/-- R471. -/
def ETH_DENY_ADDR (p : Nat) (k : Nat) : Nat := 0xB0068 + p * 0x1000 + k * 0x4
/-- R471. -/
def ETH_SD_MAC_LO (p : Nat) : Nat := 0xB0078 + p * 0x1000
/-- R471. -/
def ETH_SD_MAC_HI (p : Nat) : Nat := 0xB007C + p * 0x1000
/-- R471. -/
def ETH_SD_ADDR (p : Nat) (k : Nat) : Nat := 0xB0080 + p * 0x1000 + k * 0x4
/-- R471. -/
def ETH_SD_FAM (p : Nat) : Nat := 0xB0090 + p * 0x1000
/-- R471. -/
def ETH_CNT_CLR (p : Nat) : Nat := 0xB0094 + p * 0x1000
/-- R471. -/
def ETH_CNT (p : Nat) (k : Nat) : Nat := 0xB00A0 + p * 0x1000 + k * 0x4
/-- R471. -/
def ETH_UZA (p : Nat) (q : Nat) (w : Nat) : Nat := 0xB0100 + p * 0x1000 + q * 0x20 + w * 0x4
/-- R473. -/
def CAN_STAT (c : Nat) : Nat := 0xB8000 + c * 0x2000
/-- R473. -/
def CAN_EVT (c : Nat) : Nat := 0xB8004 + c * 0x2000
/-- R473. -/
def CAN_CTRL (c : Nat) : Nat := 0xB8008 + c * 0x2000
/-- R473. -/
def CAN_CFG (c : Nat) : Nat := 0xB800C + c * 0x2000
/-- R473. -/
def CAN_NBT (c : Nat) : Nat := 0xB8010 + c * 0x2000
/-- R473. -/
def CAN_DBT (c : Nat) : Nat := 0xB8014 + c * 0x2000
/-- R473. -/
def CAN_TDC (c : Nat) : Nat := 0xB8018 + c * 0x2000
/-- R473. -/
def CAN_ERR (c : Nat) : Nat := 0xB801C + c * 0x2000
/-- R473. -/
def CAN_LEC (c : Nat) : Nat := 0xB8020 + c * 0x2000
/-- R473. -/
def CAN_TT_CFG (c : Nat) : Nat := 0xB8024 + c * 0x2000
/-- R473. -/
def CAN_TT_STAT (c : Nat) : Nat := 0xB8028 + c * 0x2000
/-- R473. -/
def CAN_WAKE_ID (c : Nat) : Nat := 0xB802C + c * 0x2000
/-- R473. -/
def CAN_WAKE_MASK (c : Nat) : Nat := 0xB8030 + c * 0x2000
/-- R473. -/
def CAN_TXREQ (c : Nat) (k : Nat) : Nat := 0xB8034 + c * 0x2000 + k * 0x4
/-- R473. -/
def CAN_TXCAN (c : Nat) (k : Nat) : Nat := 0xB803C + c * 0x2000 + k * 0x4
/-- R473. -/
def CAN_TXPEND (c : Nat) (k : Nat) : Nat := 0xB8044 + c * 0x2000 + k * 0x4
/-- R473. -/
def CAN_TXDONE (c : Nat) (k : Nat) : Nat := 0xB804C + c * 0x2000 + k * 0x4
/-- R473. -/
def CAN_RXFULL (c : Nat) (k : Nat) : Nat := 0xB8054 + c * 0x2000 + k * 0x4
/-- R473. -/
def CAN_RXLOCK (c : Nat) (k : Nat) : Nat := 0xB805C + c * 0x2000 + k * 0x4
/-- R473. -/
def CAN_IRQ_EN (c : Nat) (k : Nat) : Nat := 0xB8064 + c * 0x2000 + k * 0x4
/-- R473. -/
def CAN_RXSEQ (c : Nat) : Nat := 0xB806C + c * 0x2000
/-- R473. -/
def CAN_BO_NS (c : Nat) : Nat := 0xB8070 + c * 0x2000
/-- R473. -/
def CAN_BO_SEC (c : Nat) : Nat := 0xB8074 + c * 0x2000
/-- R473. -/
def CAN_CNT_CLR (c : Nat) : Nat := 0xB8078 + c * 0x2000
/-- R473. -/
def CAN_IRQ_CFG (c : Nat) : Nat := 0xB807C + c * 0x2000
/-- R473. -/
def CAN_CNT (c : Nat) (k : Nat) : Nat := 0xB8080 + c * 0x2000 + k * 0x4
/-- R496. -/
def ICU_TGT_STAT : Nat := 0xC0000
/-- R496. -/
def ICU_STAT : Nat := 0xC0004
/-- R496. -/
def ICU_LOST : Nat := 0xC0008
/-- R496. -/
def ICU_CTRL : Nat := 0xC000C
/-- R496. -/
def ICU_PEND (k : Nat) : Nat := 0xC0010 + k * 0x4
/-- R496. -/
def ICU_ACT (k : Nat) : Nat := 0xC0040 + k * 0x4
/-- R496. -/
def ICU_SRCCFG (k : Nat) : Nat := 0xC0100 + k * 0x4
/-- R497. -/
def EVC_STAT : Nat := 0xC8000
/-- R497. -/
def EVC_GATE : Nat := 0xC8004
/-- R497. -/
def EVC_OVF : Nat := 0xC8008
/-- R497. -/
def EVC_SNAP : Nat := 0xC800C
/-- R497. -/
def EVC_CLR : Nat := 0xC8010
/-- R497. -/
def EVC_SNAP_NS : Nat := 0xC8014
/-- R497. -/
def EVC_SNAP_SEC : Nat := 0xC8018
/-- R497. -/
def EVC_SNAP_CYC : Nat := 0xC801C
/-- R497. -/
def EVC_CFG (k : Nat) : Nat := 0xC8100 + k * 0x10
/-- R497. -/
def EVC_LIVE (k : Nat) : Nat := 0xC8104 + k * 0x10
/-- R497. -/
def EVC_SNAP_LO (k : Nat) : Nat := 0xC8108 + k * 0x10
/-- R497. -/
def EVC_SNAP_HI (k : Nat) : Nat := 0xC810C + k * 0x10
/-- R521. -/
def SYS_THERM_STAT : Nat := 0x100
/-- R521. -/
def SYS_THERM_LVL : Nat := 0x104
/-- R521. -/
def SYS_THERM_OPEN : Nat := 0x108
/-- R521. -/
def SYS_RAIL_STAT : Nat := 0x10C
/-- R521. -/
def SYS_MRAM_STAT : Nat := 0x110
/-- R521. -/
def SYS_MRAM_CLR : Nat := 0x114
/-- R521. -/
def SYS_TEXT_CLR : Nat := 0x118
/-- R521. -/
def SYS_TEXT (s : Nat) : Nat := 0x140 + s * 0x4

end Reg

def regSys0 : List RegDesc := [
  ⟨0x0, 1, 0x0, 1, 0x0, .ro, 0x14431C0, 0x0, false⟩,  -- SYS_ID, R3
  ⟨0x4, 1, 0x0, 1, 0x0, .ro, 0x201, 0x0, false⟩,  -- SYS_ROMVER, R3
  ⟨0x10, 1, 0x0, 1, 0x0, .ro, 0x1, 0x0, false⟩,  -- SYS_MODE, R69
  ⟨0x14, 1, 0x0, 1, 0x0, .rws, 0x0, 0x7, false⟩,  -- SYS_MODE_REQ, R69
  ⟨0x18, 1, 0x0, 1, 0x0, .ro, 0x7, 0x0, false⟩,  -- SYS_MODE_PERM, R69
  ⟨0x20, 1, 0x0, 1, 0x0, .rw1c, 0x1, 0x3F7, true⟩,  -- SYS_RESET_CAUSE, R69
  ⟨0x24, 1, 0x0, 1, 0x0, .ro, 0x0, 0x0, false⟩,  -- SYS_BOOT_STAT, R69
  ⟨0x28, 1, 0x0, 1, 0x0, .ro, 0x0, 0x0, false⟩,  -- SYS_BOOT_TIME, R69
  ⟨0x2C, 1, 0x0, 1, 0x0, .rws, 0x0, 0xFFFF, false⟩,  -- SYS_RESET_REQ, R69
  ⟨0x30, 1, 0x0, 1, 0x0, .rw1c, 0x0, 0x80000000, true⟩,  -- SYS_WERR, R69
  ⟨0x34, 1, 0x0, 1, 0x0, .ro, 0x0, 0x0, false⟩,  -- SYS_WERR_ADDR, R69
  ⟨0x40, 1, 0x0, 1, 0x0, .rws, 0x0, 0xF, false⟩,  -- SYS_STBY_CFG, R69
  ⟨0x44, 1, 0x0, 1, 0x0, .rw1c, 0x0, 0x100, true⟩,  -- SYS_STBY_STAT, R69
  ⟨0x50, 4, 0x4, 1, 0x0, .rws, 0x0, 0xFFFF, false⟩,  -- SYS_WDT_CFG, R69
  ⟨0x60, 4, 0x4, 1, 0x0, .wo, 0x0, 0xFFFF, true⟩,  -- SYS_WDT_KICK, R69
  ⟨0x100, 1, 0x0, 1, 0x0, .ro, 0x0, 0x0, false⟩,  -- SYS_THERM_STAT, R521
  ⟨0x104, 1, 0x0, 1, 0x0, .ro, 0x0, 0x0, false⟩,  -- SYS_THERM_LVL, R521
  ⟨0x108, 1, 0x0, 1, 0x0, .ro, 0x0, 0x0, false⟩,  -- SYS_THERM_OPEN, R521
  ⟨0x10C, 1, 0x0, 1, 0x0, .ro, 0x7F, 0x0, false⟩,  -- SYS_RAIL_STAT, R521
  ⟨0x110, 1, 0x0, 1, 0x0, .ro, 0x0, 0x0, false⟩,  -- SYS_MRAM_STAT, R521
  ⟨0x114, 1, 0x0, 1, 0x0, .wo, 0x0, 0x1, true⟩,  -- SYS_MRAM_CLR, R521
  ⟨0x118, 1, 0x0, 1, 0x0, .wo, 0x0, 0x1, true⟩,  -- SYS_TEXT_CLR, R521
  ⟨0x140, 16, 0x4, 1, 0x0, .ro, 0x80007FFF, 0x0, false⟩]  -- SYS_TEXT, R521
/-- The registers of block SYS (R37). -/
def regSys : List RegDesc := regSys0

def regTru0 : List RegDesc := [
  ⟨0x10000, 1, 0x0, 1, 0x0, .ro, 0x0, 0x0, false⟩,  -- TRU_STAT, R109
  ⟨0x10004, 1, 0x0, 1, 0x0, .ro, 0x0, 0x0, false⟩,  -- TRU_PND_STAT, R109
  ⟨0x10008, 1, 0x0, 1, 0x0, .ro, 0x0, 0x0, false⟩,  -- TRU_UID_LO, R109
  ⟨0x1000C, 1, 0x0, 1, 0x0, .ro, 0x0, 0x0, false⟩,  -- TRU_UID_HI, R109
  ⟨0x10010, 1, 0x0, 1, 0x0, .ro, 0x0, 0x0, false⟩,  -- TRU_CTR_LO, R109
  ⟨0x10014, 1, 0x0, 1, 0x0, .ro, 0x0, 0x0, false⟩,  -- TRU_CTR_HI, R109
  ⟨0x10018, 1, 0x0, 1, 0x0, .ro, 0x0, 0x0, false⟩,  -- TRU_RCP_ID, R109
  ⟨0x1001C, 1, 0x0, 1, 0x0, .ro, 0x0, 0x0, false⟩,  -- TRU_RCP_VER, R109
  ⟨0x10020, 1, 0x0, 1, 0x0, .ro, 0x0, 0x0, false⟩,  -- TRU_DBG_STAT, R109
  ⟨0x10024, 1, 0x0, 1, 0x0, .wo, 0x0, 0x1, true⟩,  -- TRU_DBG_LOCK, R109
  ⟨0x10100, 24, 0x4, 1, 0x0, .ro, 0x0, 0x0, false⟩,  -- TRU_DEVPUB, R109
  ⟨0x10180, 12, 0x4, 1, 0x0, .ro, 0x0, 0x0, false⟩,  -- TRU_OWNHASH, R109
  ⟨0x101C0, 12, 0x4, 1, 0x0, .ro, 0x0, 0x0, false⟩,  -- TRU_RCP_DIG, R109
  ⟨0x10200, 12, 0x4, 1, 0x0, .ro, 0x0, 0x0, false⟩,  -- TRU_PND_DIG, R109
  ⟨0x10240, 12, 0x4, 1, 0x0, .ro, 0x0, 0x0, false⟩,  -- TRU_BANK_DIG, R109
  ⟨0x10300, 8, 0x8, 1, 0x0, .ro, 0x0, 0x0, false⟩,  -- TRU_KEYID, R109
  ⟨0x10304, 8, 0x8, 1, 0x0, .ro, 0x0, 0x0, false⟩,  -- TRU_KEYPERM, R109
  ⟨0x10340, 4, 0x10, 1, 0x0, .ro, 0x0, 0x0, false⟩,  -- TRU_SESS_ID, R109
  ⟨0x10344, 4, 0x10, 1, 0x0, .ro, 0x0, 0x0, false⟩,  -- TRU_SESS_KEY, R109
  ⟨0x10348, 4, 0x10, 1, 0x0, .ro, 0x0, 0x0, false⟩,  -- TRU_SESS_LEFT, R109
  ⟨0x1034C, 4, 0x10, 1, 0x0, .ro, 0x0, 0x0, false⟩,  -- TRU_SESS_PERM, R109
  ⟨0x10400, 32, 0xC, 1, 0x0, .ro, 0x0, 0x0, false⟩,  -- TRU_SEC_TYPE, R109
  ⟨0x10404, 32, 0xC, 1, 0x0, .ro, 0x0, 0x0, false⟩,  -- TRU_SEC_OFF, R109
  ⟨0x10408, 32, 0xC, 1, 0x0, .ro, 0x0, 0x0, false⟩]  -- TRU_SEC_LEN, R109
def regTru1 : List RegDesc := [
  ⟨0x11000, 5, 0x100, 1, 0x0, .ro, 0x0, 0x0, false⟩,  -- TRU_STG_STAT, R109
  ⟨0x11004, 5, 0x100, 1, 0x0, .ro, 0x0, 0x0, false⟩,  -- TRU_STG_MLEN, R109
  ⟨0x11008, 5, 0x100, 1, 0x0, .wo, 0x0, 0x1, true⟩,  -- TRU_STG_CLR, R109
  ⟨0x1100C, 5, 0x100, 1, 0x0, .rw, 0x0, 0xFFFFFFFF, true⟩,  -- TRU_CMT_PTR, R109
  ⟨0x11010, 5, 0x100, 1, 0x0, .wo, 0x0, 0x1, true⟩,  -- TRU_CMT_GO, R109
  ⟨0x11014, 5, 0x100, 1, 0x0, .rw1c, 0x0, 0x10000, true⟩]  -- TRU_CMT_STAT, R109: RO but for DONE
/-- The registers of block TRU (R37). -/
def regTru : List RegDesc := regTru0 ++ regTru1

def regLog0 : List RegDesc := [
  ⟨0x20000, 1, 0x0, 1, 0x0, .ro, 0x0, 0x0, false⟩,  -- LOG_STAT, R109
  ⟨0x20004, 1, 0x0, 1, 0x0, .ro, 0x0, 0x0, false⟩,  -- LOG_SEQ, R109
  ⟨0x20008, 1, 0x0, 1, 0x0, .ro, 0x0, 0x0, false⟩,  -- LOG_OLDEST, R109
  ⟨0x2000C, 1, 0x0, 1, 0x0, .ro, 0x0, 0x0, false⟩,  -- LOG_GAPS, R109
  ⟨0x20010, 1, 0x0, 1, 0x0, .ro, 0x0, 0x0, false⟩,  -- LOG_LAST_REFUSED, R109
  ⟨0x20014, 1, 0x0, 1, 0x0, .wo, 0x0, 0x1, true⟩,  -- LOG_ATT_GO, R109
  ⟨0x20018, 1, 0x0, 1, 0x0, .ro, 0x0, 0x0, false⟩,  -- LOG_ATT_STAT, R109
  ⟨0x2001C, 1, 0x0, 1, 0x0, .ro, 0x0, 0x0, false⟩,  -- LOG_ATT_SEQ, R109
  ⟨0x20040, 8, 0x4, 1, 0x0, .ro, 0x0, 0x0, false⟩,  -- LOG_HEAD, R109
  ⟨0x20060, 8, 0x4, 1, 0x0, .rw, 0x0, 0xFFFFFFFF, true⟩,  -- LOG_ATT_NONCE, R109
  ⟨0x20080, 24, 0x4, 1, 0x0, .ro, 0x0, 0x0, false⟩]  -- LOG_ATT_SIG, R109
/-- The registers of block LOG (R37). -/
def regLog : List RegDesc := regLog0

def regLnk0 : List RegDesc := [
  ⟨0x30000, 16, 0x800, 1, 0x0, .ro, 0x2, 0x0, false⟩,  -- LNK_STAT, R131
  ⟨0x30004, 16, 0x800, 1, 0x0, .rw1c, 0x0, 0xFF, true⟩,  -- LNK_EVT, R131
  ⟨0x30008, 16, 0x800, 1, 0x0, .rwl, 0x628, 0x3F7F, false⟩,  -- LNK_PHY_CFG, R131
  ⟨0x3000C, 16, 0x800, 1, 0x0, .rwl, 0x0, 0x1F7, false⟩,  -- LNK_TEST, R131
  ⟨0x30010, 16, 0x800, 1, 0x0, .ro, 0x0, 0x0, false⟩,  -- LNK_CERR, R131
  ⟨0x30014, 16, 0x800, 1, 0x0, .ro, 0x0, 0x0, false⟩,  -- LNK_DERR, R131
  ⟨0x30018, 16, 0x800, 1, 0x0, .ro, 0x0, 0x0, false⟩,  -- LNK_LOS_CNT, R131
  ⟨0x3001C, 16, 0x800, 1, 0x0, .ro, 0x0, 0x0, false⟩,  -- LNK_EB_STAT, R131
  ⟨0x30020, 16, 0x800, 1, 0x0, .ro, 0x0, 0x0, false⟩,  -- LNK_PRBS_ERR, R131
  ⟨0x30024, 16, 0x800, 1, 0x0, .ro, 0x0, 0x0, false⟩,  -- LNK_PRBS_BITS_LO, R131
  ⟨0x30028, 16, 0x800, 1, 0x0, .ro, 0x0, 0x0, false⟩,  -- LNK_PRBS_BITS_HI, R131
  ⟨0x3002C, 16, 0x800, 1, 0x0, .ro, 0x0, 0x0, false⟩,  -- LNK_PRBS_STAT, R131
  ⟨0x30030, 16, 0x800, 1, 0x0, .wo, 0x0, 0x7, true⟩,  -- LNK_CNT_CTRL, R131
  ⟨0x30034, 16, 0x800, 1, 0x0, .wo, 0x0, 0x1, false⟩,  -- LNK_INJ, R131
  ⟨0x38000, 1, 0x0, 1, 0x0, .ro, 0x0, 0x0, false⟩,  -- LNK_UP, R132
  ⟨0x38004, 1, 0x0, 1, 0x0, .ro, 0x0, 0x0, false⟩,  -- LNK_EVT_SUM, R132
  ⟨0x38008, 1, 0x0, 1, 0x0, .rw, 0x0, 0x1F1F, false⟩,  -- LNK_AUX_CFG, R132
  ⟨0x3800C, 1, 0x0, 1, 0x0, .wo, 0x0, 0x1, true⟩,  -- LNK_SNAP_ALL, R132
  ⟨0x30040, 12, 0x800, 1, 0x0, .ro, 0x0, 0x0, false⟩,  -- LNK_CH_CFG, R168
  ⟨0x30044, 12, 0x800, 1, 0x0, .ro, 0x0, 0x0, false⟩,  -- LNK_CH_STAT, R168
  ⟨0x30048, 12, 0x800, 1, 0x0, .ro, 0xFFFFFFFF, 0x0, false⟩,  -- LNK_PEER_M, R168
  ⟨0x3004C, 12, 0x800, 1, 0x0, .ro, 0x0, 0x0, false⟩,  -- LNK_TLM_OK, R168
  ⟨0x30050, 12, 0x800, 1, 0x0, .ro, 0x0, 0x0, false⟩,  -- LNK_TLM_LAST, R168
  ⟨0x30054, 12, 0x800, 1, 0x0, .ro, 0x0, 0x0, false⟩]  -- LNK_CNT_FRMERR, R168
def regLnk1 : List RegDesc := [
  ⟨0x30058, 12, 0x800, 1, 0x0, .ro, 0x0, 0x0, false⟩,  -- LNK_CNT_MISS, R168
  ⟨0x3005C, 12, 0x800, 1, 0x0, .ro, 0x0, 0x0, false⟩,  -- LNK_CNT_LATE, R168
  ⟨0x30060, 12, 0x800, 1, 0x0, .ro, 0x0, 0x0, false⟩,  -- LNK_CNT_DISC, R168
  ⟨0x30064, 12, 0x800, 1, 0x0, .ro, 0x0, 0x0, false⟩,  -- LNK_CNT_DEFER, R168
  ⟨0x30068, 12, 0x800, 1, 0x0, .wo, 0x0, 0x1, true⟩,  -- LNK_MBY_CLR, R168
  ⟨0x3006C, 12, 0x800, 1, 0x0, .wo, 0x0, 0xF, true⟩,  -- LNK_TLM_SNAP, R168
  ⟨0x30070, 12, 0x800, 12, 0x4, .ro, 0x0, 0x0, false⟩,  -- LNK_TLM_REC, R168
  ⟨0x300A0, 12, 0x800, 1, 0x0, .ro, 0x0, 0x0, false⟩,  -- LNK_TLM_RSTAT, R168
  ⟨0x38010, 1, 0x0, 1, 0x0, .ro, 0x0, 0x0, false⟩,  -- LNK_BREAK, R169
  ⟨0x38014, 1, 0x0, 1, 0x0, .ro, 0x0, 0x0, false⟩,  -- LNK_GAP_SUM, R169
  ⟨0x38018, 1, 0x0, 1, 0x0, .ro, 0x6D6, 0x0, false⟩,  -- LNK_DEADLINE, R169
  ⟨0x38020, 5, 0x4, 1, 0x0, .ro, 0x0, 0x0, false⟩]  -- LNK_BLOCKED, R169
/-- The registers of block LNK (R37). -/
def regLnk : List RegDesc := regLnk0 ++ regLnk1

def regPtn0 : List RegDesc := [
  ⟨0x40000, 1, 0x0, 1, 0x0, .rwl, 0x1, 0x101, false⟩,  -- PTN_CFG, R266
  ⟨0x40004, 1, 0x0, 1, 0x0, .ro, 0x0, 0x0, false⟩,  -- PTN_STAT, R266
  ⟨0x40008, 1, 0x0, 1, 0x0, .rw1c, 0x0, 0xFFF, true⟩,  -- PTN_EVT, R266
  ⟨0x4000C, 1, 0x0, 1, 0x0, .ro, 0x0, 0x0, false⟩,  -- PTN_TERM, R266
  ⟨0x40010, 1, 0x0, 1, 0x0, .rws, 0x0, 0x3, false⟩,  -- PTN_CTRL, R266
  ⟨0x40014, 1, 0x0, 1, 0x0, .rwl, 0x0, 0xFFFF, false⟩,  -- PTN_ADC_OWN, R266
  ⟨0x40018, 1, 0x0, 1, 0x0, .ro, 0x0, 0x0, false⟩,  -- PTN_PUID_LO, R266
  ⟨0x4001C, 1, 0x0, 1, 0x0, .ro, 0x0, 0x0, false⟩,  -- PTN_PUID_HI, R266
  ⟨0x40020, 1, 0x0, 1, 0x0, .ro, 0x0, 0x0, false⟩,  -- PTN_BDIG, R266
  ⟨0x40024, 1, 0x0, 1, 0x0, .ro, 0x0, 0x0, false⟩,  -- PTN_PBDIG, R266
  ⟨0x40028, 1, 0x0, 1, 0x0, .ro, 0x0, 0x0, false⟩,  -- PTN_CNT_COPYMISS, R266
  ⟨0x4002C, 1, 0x0, 1, 0x0, .ro, 0x0, 0x0, false⟩,  -- PTN_CNT_DIS, R266
  ⟨0x40030, 1, 0x0, 1, 0x0, .ro, 0x0, 0x0, false⟩,  -- PTN_CNT_GV, R266
  ⟨0x40034, 1, 0x0, 1, 0x0, .ro, 0x0, 0x0, false⟩,  -- PTN_CNT_RESYNC, R266
  ⟨0x40038, 1, 0x0, 1, 0x0, .ro, 0x0, 0x0, false⟩,  -- PTN_CNT_RELAY, R266
  ⟨0x4003C, 1, 0x0, 1, 0x0, .ro, 0x0, 0x0, false⟩,  -- PTN_CNT_RELAYDROP, R266
  ⟨0x40040, 1, 0x0, 1, 0x0, .wo, 0x0, 0x1, true⟩,  -- PTN_CNT_CLR, R266
  ⟨0x40060, 5, 0x4, 1, 0x0, .ro, 0x0, 0x0, false⟩,  -- PTN_NEED, R266
  ⟨0x40080, 5, 0x4, 1, 0x0, .ro, 0x0, 0x0, false⟩]  -- PTN_PNEED, R266
/-- The registers of block PTN (R37). -/
def regPtn : List RegDesc := regPtn0

def regKne0 : List RegDesc := [
  ⟨0x50000, 1, 0x0, 1, 0x0, .ro, 0x0, 0x0, false⟩,  -- KNE_STAT, R206
  ⟨0x50004, 1, 0x0, 1, 0x0, .rwl, 0x1, 0x1, false⟩,  -- KNE_CTRL, R206
  ⟨0x50008, 1, 0x0, 1, 0x0, .ro, 0x0, 0x0, false⟩,  -- KNE_PROG_STAT, R206
  ⟨0x5000C, 1, 0x0, 1, 0x0, .ro, 0x0, 0x0, false⟩,  -- KNE_SWAP, R206
  ⟨0x50010, 1, 0x0, 1, 0x0, .ro, 0x0, 0x0, false⟩,  -- KNE_CYCLE, R206
  ⟨0x50014, 1, 0x0, 1, 0x0, .ro, 0x0, 0x0, false⟩,  -- KNE_TEND, R206
  ⟨0x50018, 1, 0x0, 1, 0x0, .rwb, 0xFFFF, 0xFFFF, false⟩,  -- KNE_TAB_EN, R206
  ⟨0x5001C, 1, 0x0, 1, 0x0, .rwb, 0xFFFFFF, 0xFFFFFF, false⟩,  -- KNE_BIQ_EN, R206
  ⟨0x50020, 1, 0x0, 1, 0x0, .ro, 0x0, 0x0, false⟩,  -- KNE_MISS, R206
  ⟨0x50024, 1, 0x0, 1, 0x0, .rw1c, 0x0, 0xF, true⟩,  -- KNE_EVT, R206
  ⟨0x50028, 1, 0x0, 1, 0x0, .ro, 0x0, 0x0, false⟩,  -- KNE_SAT_CNT, R206
  ⟨0x5002C, 1, 0x0, 1, 0x0, .ro, 0x0, 0x0, false⟩,  -- KNE_ECC_CNT, R206
  ⟨0x50030, 1, 0x0, 1, 0x0, .rw, 0x0, 0x3FFF, true⟩,  -- KNE_VRD_ADDR, R206
  ⟨0x50034, 1, 0x0, 1, 0x0, .ro, 0x0, 0x0, false⟩,  -- KNE_VRD_DATA, R206
  ⟨0x50040, 4, 0x4, 1, 0x0, .ro, 0x0, 0x0, false⟩,  -- KNE_TPRED, R206
  ⟨0x50050, 4, 0x4, 1, 0x0, .ro, 0x0, 0x0, false⟩,  -- KNE_TCORR, R206
  ⟨0x50080, 16, 0x4, 1, 0x0, .rwb, 0x0, 0xFFFFFFFF, false⟩,  -- KNE_REF, R206
  ⟨0x500C0, 12, 0x4, 1, 0x0, .ro, 0x0, 0x0, false⟩,  -- KNE_YVAL, R206
  ⟨0x50100, 10, 0x4, 1, 0x0, .ro, 0x0, 0x0, false⟩]  -- KNE_SAT, R206
/-- The registers of block KNE (R37). -/
def regKne : List RegDesc := regKne0

def regMod0 : List RegDesc := [
  ⟨0x60000, 1, 0x0, 1, 0x0, .ro, 0x0, 0x0, false⟩,  -- MOD_STAT, R236
  ⟨0x60004, 1, 0x0, 1, 0x0, .rwl, 0x7, 0x7, false⟩,  -- MOD_CTRL, R236
  ⟨0x60008, 1, 0x0, 1, 0x0, .rw1c, 0x0, 0x7F, true⟩,  -- MOD_EVT, R236
  ⟨0x6000C, 1, 0x0, 1, 0x0, .ro, 0x0, 0x0, false⟩,  -- MOD_TIME, R236
  ⟨0x60010, 1, 0x0, 1, 0x0, .rwl, 0x32007D0, 0xFFFFFFFF, false⟩,  -- MOD_PULSE_CFG, R236
  ⟨0x60014, 1, 0x0, 1, 0x0, .rwl, 0x40000000, 0xFFFFFFFF, false⟩,  -- MOD_DTC_CFG, R236
  ⟨0x60018, 1, 0x0, 1, 0x0, .rwl, 0x3200C8, 0xFFFFFFFF, false⟩,  -- MOD_ROT_CFG, R236
  ⟨0x6001C, 1, 0x0, 1, 0x0, .rwl, 0x1, 0x7FFFFFFF, false⟩,  -- MOD_LFSR_SEED, R236
  ⟨0x60020, 1, 0x0, 1, 0x0, .ro, 0x0, 0x0, false⟩,  -- MOD_LFSR, R236
  ⟨0x60024, 1, 0x0, 1, 0x0, .ro, 0x0, 0x0, false⟩,  -- MOD_ROT_STAT, R236
  ⟨0x60028, 1, 0x0, 1, 0x0, .rwl, 0x64, 0xFFFF, false⟩,  -- MOD_EQ_CFG, R236
  ⟨0x6002C, 1, 0x0, 1, 0x0, .rwl, 0x186A0, 0x7FFFFFFF, false⟩,  -- MOD_EQ_LIM, R236
  ⟨0x60030, 1, 0x0, 1, 0x0, .rwl, 0x5414, 0xFFFF, false⟩,  -- MOD_DAB_CFG, R236
  ⟨0x60034, 1, 0x0, 1, 0x0, .rwl, 0x447A0000, 0xFFFFFFFF, false⟩,  -- MOD_VNOM, R236
  ⟨0x60038, 1, 0x0, 1, 0x0, .wo, 0x0, 0x1, true⟩,  -- MOD_CNT_CLR, R236
  ⟨0x6003C, 1, 0x0, 1, 0x0, .ro, 0x0, 0x0, false⟩,  -- MOD_SS_STAT, R236
  ⟨0x60040, 3, 0x40, 1, 0x0, .ro, 0x0, 0x0, false⟩,  -- MOD_PH_STAT, R236
  ⟨0x60044, 3, 0x40, 1, 0x0, .ro, 0x0, 0x0, false⟩,  -- MOD_PH_VREF, R236
  ⟨0x60048, 3, 0x40, 1, 0x0, .ro, 0x0, 0x0, false⟩,  -- MOD_PH_CARRY, R236
  ⟨0x6004C, 3, 0x40, 1, 0x0, .ro, 0x0, 0x0, false⟩,  -- MOD_PH_DUTY, R236
  ⟨0x60050, 3, 0x40, 1, 0x0, .ro, 0x0, 0x0, false⟩,  -- MOD_PH_IARM, R236
  ⟨0x60054, 3, 0x40, 1, 0x0, .ro, 0x0, 0x0, false⟩,  -- MOD_PH_SPREAD, R236
  ⟨0x60058, 3, 0x40, 1, 0x0, .ro, 0x0, 0x0, false⟩,  -- MOD_PH_SPMAX, R236
  ⟨0x6005C, 3, 0x40, 1, 0x0, .ro, 0x0, 0x0, false⟩]  -- MOD_PH_EMEAN, R236
def regMod1 : List RegDesc := [
  ⟨0x60060, 3, 0x40, 1, 0x0, .ro, 0x0, 0x0, false⟩,  -- MOD_PH_CNT_DROP, R236
  ⟨0x60064, 3, 0x40, 1, 0x0, .ro, 0x0, 0x0, false⟩,  -- MOD_PH_CNT_FULL, R236
  ⟨0x60068, 3, 0x40, 1, 0x0, .ro, 0x0, 0x0, false⟩,  -- MOD_PH_CNT_OVM, R236
  ⟨0x6006C, 3, 0x40, 1, 0x0, .ro, 0x0, 0x0, false⟩,  -- MOD_PH_CNT_CSAT, R236
  ⟨0x60100, 3, 0x4, 1, 0x0, .rwb, 0x0, 0xFFFFFFFF, false⟩,  -- MOD_OL_AMP, R236
  ⟨0x6010C, 1, 0x0, 1, 0x0, .rwb, 0x0, 0xFFFFFFFF, false⟩,  -- MOD_OL_BAL, R236
  ⟨0x60110, 1, 0x0, 1, 0x0, .rwb, 0x0, 0xFFFFFFFF, false⟩,  -- MOD_OL_ARATE, R236
  ⟨0x60114, 1, 0x0, 1, 0x0, .rwb, 0x0, 0xFFFFFFFF, false⟩,  -- MOD_OL_DAB, R236
  ⟨0x60118, 1, 0x0, 1, 0x0, .rwb, 0x0, 0x3, false⟩,  -- MOD_OL_CTRL, R236
  ⟨0x60120, 1, 0x0, 1, 0x0, .rwb, 0x0, 0xFFFF, false⟩,  -- MOD_JOG_CFG, R236
  ⟨0x60124, 4, 0x4, 1, 0x0, .rwb, 0x0, 0xFFFFFFFF, false⟩,  -- MOD_JOG_EDGE, R236
  ⟨0x60134, 1, 0x0, 1, 0x0, .rwb, 0x0, 0xFFFFFF, false⟩,  -- MOD_JOG_DAB, R236
  ⟨0x60140, 1, 0x0, 1, 0x0, .rw, 0x0, 0x1FF, true⟩,  -- MOD_IN_ADDR, R236
  ⟨0x60144, 1, 0x0, 1, 0x0, .ro, 0x0, 0x0, false⟩,  -- MOD_IN_DATA, R236
  ⟨0x60148, 1, 0x0, 1, 0x0, .rw, 0x0, 0x1FF, true⟩,  -- MOD_SS_ADDR, R236
  ⟨0x6014C, 1, 0x0, 1, 0x0, .ro, 0x0, 0x0, false⟩,  -- MOD_SS_DATA, R236
  ⟨0x60160, 5, 0x4, 1, 0x0, .ro, 0x0, 0x0, false⟩,  -- MOD_RUNMAP, R236
  ⟨0x60180, 5, 0x4, 1, 0x0, .ro, 0x0, 0x0, false⟩,  -- MOD_BYPMAP, R236
  ⟨0x601A0, 5, 0x4, 1, 0x0, .ro, 0x0, 0x0, false⟩,  -- MOD_DROPMAP, R236
  ⟨0x60200, 3, 0x40, 12, 0x4, .ro, 0xFFFFFFFF, 0x0, false⟩,  -- MOD_SLOT, R236
  ⟨0x68000, 144, 0x40, 1, 0x0, .ro, 0xFF00, 0x0, false⟩,  -- MOD_CELL_STAT, R237
  ⟨0x68004, 144, 0x40, 1, 0x0, .ro, 0x0, 0x0, false⟩,  -- MOD_CELL_VCAP, R237
  ⟨0x68008, 144, 0x40, 1, 0x0, .ro, 0x0, 0x0, false⟩,  -- MOD_CELL_DWELL, R237
  ⟨0x6800C, 144, 0x40, 4, 0x4, .ro, 0x0, 0x0, false⟩]  -- MOD_CELL_EDGE, R237
def regMod2 : List RegDesc := [
  ⟨0x6801C, 144, 0x40, 1, 0x0, .ro, 0x0, 0x0, false⟩,  -- MOD_CELL_DAB, R237
  ⟨0x68020, 144, 0x40, 1, 0x0, .ro, 0x0, 0x0, false⟩,  -- MOD_CELL_DEBT, R237
  ⟨0x68024, 144, 0x40, 1, 0x0, .ro, 0x0, 0x0, false⟩,  -- MOD_CELL_SNAP, R237
  ⟨0x68028, 144, 0x40, 1, 0x0, .ro, 0xFFFFFFFF, 0x0, false⟩,  -- MOD_CELL_ELAST, R237
  ⟨0x6802C, 144, 0x40, 1, 0x0, .ro, 0x0, 0x0, false⟩,  -- MOD_CELL_CNT_DROP, R237
  ⟨0x68030, 144, 0x40, 1, 0x0, .ro, 0x0, 0x0, false⟩,  -- MOD_CELL_CNT_FULL, R237
  ⟨0x68034, 144, 0x40, 1, 0x0, .ro, 0x0, 0x0, false⟩,  -- MOD_CELL_KEY, R237
  ⟨0x68038, 144, 0x40, 1, 0x0, .ro, 0x0, 0x0, false⟩,  -- MOD_CELL_CRC, R237
  ⟨0x6803C, 144, 0x40, 1, 0x0, .ro, 0x0, 0x0, false⟩]  -- MOD_CELL_CMDW, R237
/-- The registers of block MOD (R37). -/
def regMod : List RegDesc := regMod0 ++ regMod1 ++ regMod2

def regPwm0 : List RegDesc := [
  ⟨0x70000, 1, 0x0, 1, 0x0, .ro, 0x0, 0x0, false⟩,  -- PWM_STAT, R284
  ⟨0x70004, 1, 0x0, 1, 0x0, .rwl, 0xF, 0x10F, false⟩,  -- PWM_CTRL, R284
  ⟨0x70008, 1, 0x0, 1, 0x0, .rw1c, 0x0, 0x1FFF, true⟩,  -- PWM_EVT, R284
  ⟨0x7000C, 1, 0x0, 1, 0x0, .wo, 0x0, 0x1, true⟩,  -- PWM_CNT_CLR, R284
  ⟨0x70010, 1, 0x0, 1, 0x0, .ro, 0x0, 0x0, false⟩,  -- PWM_OUT, R284
  ⟨0x70014, 1, 0x0, 1, 0x0, .ro, 0x0, 0x0, false⟩,  -- PWM_EXT_IN, R284
  ⟨0x70018, 1, 0x0, 1, 0x0, .ro, 0x0, 0x0, false⟩,  -- PWM_HALT_CNT, R284
  ⟨0x7001C, 1, 0x0, 1, 0x0, .ro, 0x0, 0x0, false⟩,  -- PWM_FORCE_CNT, R284
  ⟨0x70100, 2, 0x40, 1, 0x0, .rwl, 0x8, 0xF003C, false⟩,  -- PWM_G_CFG, R285
  ⟨0x70104, 2, 0x40, 1, 0x0, .rwb, 0x9C40, 0xFFFFFF, false⟩,  -- PWM_G_PERIOD, R285
  ⟨0x70108, 2, 0x40, 1, 0x0, .wo, 0x0, 0x7, false⟩,  -- PWM_G_CTRL, R285
  ⟨0x7010C, 2, 0x40, 1, 0x0, .ro, 0x0, 0x0, false⟩,  -- PWM_G_STAT, R285
  ⟨0x70110, 2, 0x40, 1, 0x0, .rwl, 0x0, 0xF07F3, false⟩,  -- PWM_G_MSK_CFG, R285
  ⟨0x70114, 2, 0x40, 1, 0x0, .ro, 0x0, 0x0, false⟩,  -- PWM_G_MSK_STAT, R285
  ⟨0x70118, 2, 0x40, 1, 0x0, .wo, 0x0, 0x1, false⟩,  -- PWM_G_MSK_SW, R285
  ⟨0x7011C, 2, 0x40, 1, 0x0, .ro, 0x0, 0x0, false⟩,  -- PWM_G_SYNPER, R285
  ⟨0x70200, 6, 0x40, 1, 0x0, .rwl, 0x0, 0x135, false⟩,  -- PWM_HB_CFG, R286
  ⟨0x70204, 6, 0x40, 1, 0x0, .rwb, 0x0, 0xFFFFFF, false⟩,  -- PWM_HB_CMPA, R286
  ⟨0x70208, 6, 0x40, 1, 0x0, .rwb, 0x0, 0xFFFFFF, false⟩,  -- PWM_HB_CMPB, R286
  ⟨0x7020C, 6, 0x40, 1, 0x0, .rwb, 0x0, 0xFFFFFF, false⟩,  -- PWM_HB_PHASE, R286
  ⟨0x70210, 6, 0x40, 1, 0x0, .rwl, 0x7D0, 0xFFFF, false⟩,  -- PWM_HB_MINP, R286
  ⟨0x70214, 6, 0x40, 1, 0x0, .rwl, 0x6407D0, 0xFFFFFFFF, false⟩,  -- PWM_HB_RF_CFG, R286
  ⟨0x70218, 6, 0x40, 1, 0x0, .ro, 0x0, 0x0, false⟩,  -- PWM_HB_STAT, R286
  ⟨0x7021C, 6, 0x40, 1, 0x0, .ro, 0x0, 0x0, false⟩]  -- PWM_HB_DUTY, R286
def regPwm1 : List RegDesc := [
  ⟨0x70220, 6, 0x40, 1, 0x0, .ro, 0x0, 0x0, false⟩,  -- PWM_HB_EFF_HI, R286
  ⟨0x70224, 6, 0x40, 1, 0x0, .ro, 0x0, 0x0, false⟩,  -- PWM_HB_EFF_LO, R286
  ⟨0x70228, 6, 0x40, 1, 0x0, .ro, 0x0, 0x0, false⟩,  -- PWM_HB_CNT_DROP, R286
  ⟨0x7022C, 6, 0x40, 1, 0x0, .ro, 0x0, 0x0, false⟩,  -- PWM_HB_CNT_STRETCH, R286
  ⟨0x70230, 6, 0x40, 1, 0x0, .ro, 0x0, 0x0, false⟩,  -- PWM_HB_CNT_CLAMP, R286
  ⟨0x70234, 6, 0x40, 1, 0x0, .ro, 0x0, 0x0, false⟩,  -- PWM_HB_CNT_RFR, R286
  ⟨0x70238, 6, 0x40, 1, 0x0, .ro, 0x0, 0x0, false⟩,  -- PWM_HB_CNT_DISC, R286
  ⟨0x7023C, 6, 0x40, 1, 0x0, .ro, 0x0, 0x0, false⟩,  -- PWM_HB_CNT_MASK, R286
  ⟨0x70400, 16, 0x8, 1, 0x0, .rwl, 0x4444, 0x7777, false⟩,  -- PWM_MSK_FORCE, R287
  ⟨0x70500, 16, 0x8, 1, 0x0, .rwl, 0x44, 0x0077, false⟩,  -- PWM_MSK_FORCE, R287
  ⟨0x70404, 2, 0x100, 1, 0x0, .rwl, 0x10000, 0xFFFFF, false⟩,  -- PWM_MSK_HOLD, R287
  ⟨0x7040C, 2, 0x100, 1, 0x0, .rwl, 0x20000, 0xFFFFF, false⟩,  -- PWM_MSK_HOLD, R287
  ⟨0x70414, 2, 0x100, 1, 0x0, .rwl, 0x30000, 0xFFFFF, false⟩,  -- PWM_MSK_HOLD, R287
  ⟨0x7041C, 2, 0x100, 1, 0x0, .rwl, 0x40000, 0xFFFFF, false⟩,  -- PWM_MSK_HOLD, R287
  ⟨0x70424, 2, 0x100, 1, 0x0, .rwl, 0x50000, 0xFFFFF, false⟩,  -- PWM_MSK_HOLD, R287
  ⟨0x7042C, 2, 0x100, 1, 0x0, .rwl, 0x60000, 0xFFFFF, false⟩,  -- PWM_MSK_HOLD, R287
  ⟨0x70434, 2, 0x100, 1, 0x0, .rwl, 0x70000, 0xFFFFF, false⟩,  -- PWM_MSK_HOLD, R287
  ⟨0x7043C, 2, 0x100, 1, 0x0, .rwl, 0x80000, 0xFFFFF, false⟩,  -- PWM_MSK_HOLD, R287
  ⟨0x70444, 2, 0x100, 1, 0x0, .rwl, 0x90000, 0xFFFFF, false⟩,  -- PWM_MSK_HOLD, R287
  ⟨0x7044C, 2, 0x100, 1, 0x0, .rwl, 0xA0000, 0xFFFFF, false⟩,  -- PWM_MSK_HOLD, R287
  ⟨0x70454, 2, 0x100, 1, 0x0, .rwl, 0xB0000, 0xFFFFF, false⟩,  -- PWM_MSK_HOLD, R287
  ⟨0x7045C, 2, 0x100, 1, 0x0, .rwl, 0xC0000, 0xFFFFF, false⟩,  -- PWM_MSK_HOLD, R287
  ⟨0x70464, 2, 0x100, 1, 0x0, .rwl, 0xD0000, 0xFFFFF, false⟩,  -- PWM_MSK_HOLD, R287
  ⟨0x7046C, 2, 0x100, 1, 0x0, .rwl, 0xE0000, 0xFFFFF, false⟩]  -- PWM_MSK_HOLD, R287
def regPwm2 : List RegDesc := [
  ⟨0x70474, 2, 0x100, 1, 0x0, .rwl, 0xF0000, 0xFFFFF, false⟩,  -- PWM_MSK_HOLD, R287
  ⟨0x7047C, 2, 0x100, 1, 0x0, .rwl, 0x0, 0xFFFFF, false⟩]  -- PWM_MSK_HOLD, R287
/-- The registers of block PWM (R37). -/
def regPwm : List RegDesc := regPwm0 ++ regPwm1 ++ regPwm2

def regGdr0 : List RegDesc := [
  ⟨0x78000, 1, 0x0, 1, 0x0, .ro, 0x0, 0x0, false⟩,  -- GDR_STAT, R311
  ⟨0x78004, 1, 0x0, 1, 0x0, .rw1c, 0x0, 0x3FF, true⟩,  -- GDR_EVT, R311
  ⟨0x78008, 1, 0x0, 1, 0x0, .rws, 0x0, 0xFFFF003F, false⟩,  -- GDR_CLR, R311
  ⟨0x7800C, 1, 0x0, 1, 0x0, .rwl, 0x0, 0x3F, false⟩,  -- GDR_DIRECT, R311
  ⟨0x78010, 1, 0x0, 1, 0x0, .wo, 0x0, 0x1, true⟩,  -- GDR_CNT_CLR, R311
  ⟨0x78014, 1, 0x0, 1, 0x0, .ro, 0x0, 0x0, false⟩,  -- GDR_FLT_SUM, R311
  ⟨0x78018, 1, 0x0, 1, 0x0, .ro, 0x0, 0x0, false⟩,  -- GDR_FIRST, R311
  ⟨0x7801C, 1, 0x0, 1, 0x0, .ro, 0x0, 0x0, false⟩,  -- GDR_FIRST_NS, R311
  ⟨0x78020, 1, 0x0, 1, 0x0, .ro, 0x0, 0x0, false⟩,  -- GDR_FIRST_SEC, R311
  ⟨0x78024, 1, 0x0, 1, 0x0, .ro, 0x0, 0x0, false⟩,  -- GDR_CNT_SC, R311
  ⟨0x78028, 1, 0x0, 1, 0x0, .ro, 0x0, 0x0, false⟩,  -- GDR_PWR_TOT, R311
  ⟨0x7802C, 1, 0x0, 1, 0x0, .ro, 0x0, 0x0, false⟩,  -- GDR_CNT_SEG, R311
  ⟨0x78030, 1, 0x0, 1, 0x0, .ro, 0x0, 0x0, false⟩,  -- GDR_CNT_CLR_KEPT, R311
  ⟨0x78034, 1, 0x0, 1, 0x0, .wo, 0x0, 0x1, true⟩,  -- GDR_SNAP, R311
  ⟨0x78038, 1, 0x0, 1, 0x0, .ro, 0x306, 0x0, false⟩,  -- GDR_ID, R311
  ⟨0x7803C, 1, 0x0, 1, 0x0, .ro, 0x0, 0x0, false⟩,  -- GDR_CNT_UVLO, R311
  ⟨0x78040, 6, 0x4, 1, 0x0, .ro, 0x0, 0x0, false⟩,  -- GDR_TEMP, R311
  ⟨0x78058, 1, 0x0, 1, 0x0, .ro, 0x0, 0x0, false⟩,  -- GDR_PWR_MAX, R311
  ⟨0x7805C, 1, 0x0, 1, 0x0, .ro, 0x0, 0x0, false⟩,  -- GDR_CNT_SOFT, R311
  ⟨0x78100, 6, 0x100, 1, 0x0, .rwl, 0x0, 0x1, false⟩,  -- GDR_HB_CFG, R312
  ⟨0x78104, 6, 0x100, 1, 0x0, .ro, 0x0, 0x0, false⟩,  -- GDR_HB_STAT, R312
  ⟨0x78108, 6, 0x100, 1, 0x0, .ro, 0x0, 0x0, false⟩,  -- GDR_HB_FLT, R312
  ⟨0x7810C, 6, 0x100, 1, 0x0, .rwb, 0x5A, 0x3FF, false⟩,  -- GDR_HB_DT, R312
  ⟨0x78110, 6, 0x100, 1, 0x0, .rwl, 0x606, 0xF0F, false⟩]  -- GDR_HB_VGATE, R312
def regGdr1 : List RegDesc := [
  ⟨0x78114, 6, 0x100, 1, 0x0, .rwb, 0x1F1F, 0x3F3F, false⟩,  -- GDR_HB_DRIVE, R312
  ⟨0x78118, 6, 0x100, 1, 0x0, .rwl, 0x3F0720, 0x3F3FF3, false⟩,  -- GDR_HB_ADAPT, R312
  ⟨0x7811C, 6, 0x100, 1, 0x0, .rwb, 0x140014, 0x7F007F, false⟩,  -- GDR_HB_ADAPT_TGT, R312
  ⟨0x78120, 6, 0x100, 1, 0x0, .ro, 0x1F1F1F1F, 0x0, false⟩,  -- GDR_HB_STEP_LIVE, R312
  ⟨0x78124, 6, 0x100, 1, 0x0, .rwl, 0x100014, 0x3F003F, false⟩,  -- GDR_HB_DESAT, R312
  ⟨0x78128, 6, 0x100, 1, 0x0, .rwl, 0x1E, 0xFF, false⟩,  -- GDR_HB_GCM, R312
  ⟨0x7812C, 6, 0x100, 1, 0x0, .rwl, 0xF0003, 0x7F003F, false⟩,  -- GDR_HB_STOFF, R312
  ⟨0x78130, 6, 0x100, 1, 0x0, .rw, 0x0, 0x3, false⟩,  -- GDR_HB_DIRSW, R312
  ⟨0x78134, 6, 0x100, 1, 0x0, .ro, 0x0, 0x0, false⟩,  -- GDR_HB_PWR, R312
  ⟨0x78138, 6, 0x100, 1, 0x0, .ro, 0xFFFFFFFF, 0x0, false⟩,  -- GDR_HB_SWT_H, R312
  ⟨0x7813C, 6, 0x100, 1, 0x0, .ro, 0xFFFFFFFF, 0x0, false⟩,  -- GDR_HB_SWT_L, R312
  ⟨0x78140, 6, 0x100, 1, 0x0, .ro, 0x0, 0x0, false⟩,  -- GDR_HB_CNT_SC, R312
  ⟨0x78144, 6, 0x100, 1, 0x0, .ro, 0x0, 0x0, false⟩,  -- GDR_HB_CNT_SOFT, R312
  ⟨0x78148, 6, 0x100, 1, 0x0, .ro, 0x0, 0x0, false⟩,  -- GDR_HB_CNT_SHORT, R312
  ⟨0x7814C, 6, 0x100, 1, 0x0, .ro, 0x0, 0x0, false⟩,  -- GDR_HB_CNT_INTLK, R312
  ⟨0x78150, 6, 0x100, 1, 0x0, .ro, 0x0, 0x0, false⟩,  -- GDR_HB_CNT_NOMEAS, R312
  ⟨0x78154, 6, 0x100, 1, 0x0, .ro, 0x0, 0x0, false⟩,  -- GDR_HB_CNT_ADSAT, R312
  ⟨0x78158, 6, 0x100, 1, 0x0, .ro, 0x0, 0x0, false⟩,  -- GDR_HB_CNT_UVLO, R312
  ⟨0x7815C, 6, 0x100, 1, 0x0, .ro, 0x0, 0x0, false⟩,  -- GDR_HB_VSUP, R312
  ⟨0x78160, 6, 0x100, 16, 0x4, .ro, 0x0, 0x0, false⟩]  -- GDR_HB_SWT_HIST, R312
/-- The registers of block GDR (R37). -/
def regGdr : List RegDesc := regGdr0 ++ regGdr1

def regAdc0 : List RegDesc := [
  ⟨0x80000, 1, 0x0, 1, 0x0, .ro, 0x0, 0x0, false⟩,  -- ADC_STAT, R337
  ⟨0x80004, 1, 0x0, 1, 0x0, .rw1c, 0x0, 0x1FF, true⟩,  -- ADC_EVT, R337
  ⟨0x80008, 1, 0x0, 1, 0x0, .ro, 0x0, 0x0, false⟩,  -- ADC_PAIR_CFG, R337
  ⟨0x8000C, 1, 0x0, 1, 0x0, .ro, 0x0, 0x0, false⟩,  -- ADC_XCHK_STAT, R337
  ⟨0x80010, 1, 0x0, 1, 0x0, .wo, 0x0, 0xFFFF, false⟩,  -- ADC_RESYNC, R337
  ⟨0x80014, 1, 0x0, 1, 0x0, .wo, 0x0, 0x1, true⟩,  -- ADC_SNAP_ALL, R337
  ⟨0x80018, 1, 0x0, 1, 0x0, .wo, 0x0, 0x1, true⟩,  -- ADC_CNT_CLR, R337
  ⟨0x8001C, 1, 0x0, 1, 0x0, .wo, 0x0, 0x3, false⟩,  -- ADC_MTR_CTRL, R337
  ⟨0x80020, 8, 0x4, 1, 0x0, .rwb, 0x3C23D70A, 0xFFFFFFFF, false⟩,  -- ADC_XTOL, R337
  ⟨0x80040, 3, 0x14, 1, 0x0, .rwb, 0x0, 0x80000F0F, false⟩,  -- ADC_MTR_CFG, R337
  ⟨0x80044, 3, 0x14, 1, 0x0, .ro, 0x0, 0x0, false⟩,  -- ADC_MTR_EPOS_LO, R337
  ⟨0x80048, 3, 0x14, 1, 0x0, .ro, 0x0, 0x0, false⟩,  -- ADC_MTR_EPOS_HI, R337
  ⟨0x8004C, 3, 0x14, 1, 0x0, .ro, 0x0, 0x0, false⟩,  -- ADC_MTR_ENEG_LO, R337
  ⟨0x80050, 3, 0x14, 1, 0x0, .ro, 0x0, 0x0, false⟩,  -- ADC_MTR_ENEG_HI, R337
  ⟨0x8007C, 1, 0x0, 1, 0x0, .ro, 0x0, 0x0, false⟩,  -- ADC_MTR_GAP, R337
  ⟨0x80100, 16, 0x80, 1, 0x0, .rwb, 0x80000006, 0x800D010F, false⟩,  -- ADC_CH_CFG, R338
  ⟨0x80104, 16, 0x80, 1, 0x0, .rwb, 0xF00400, 0xFF0F0F, false⟩,  -- ADC_CH_OW, R338
  ⟨0x80108, 16, 0x80, 1, 0x0, .rwb, 0x3F800000, 0xFFFFFFFF, false⟩,  -- ADC_CH_GAIN, R338
  ⟨0x8010C, 16, 0x80, 1, 0x0, .rwb, 0x0, 0xFFFFFFFF, false⟩,  -- ADC_CH_OFFSET, R338
  ⟨0x80110, 16, 0x80, 1, 0x0, .ro, 0x0, 0x0, false⟩,  -- ADC_CH_STAT, R338
  ⟨0x80114, 16, 0x80, 1, 0x0, .ro, 0x0, 0x0, false⟩,  -- ADC_CH_DATA, R338
  ⟨0x80118, 16, 0x80, 1, 0x0, .ro, 0x0, 0x0, false⟩,  -- ADC_CH_RAW, R338
  ⟨0x8011C, 16, 0x80, 1, 0x0, .ro, 0x0, 0x0, false⟩,  -- ADC_CH_SEQ, R338
  ⟨0x80120, 16, 0x80, 1, 0x0, .ro, 0x0, 0x0, false⟩]  -- ADC_CH_TS_NS, R338
def regAdc1 : List RegDesc := [
  ⟨0x80124, 16, 0x80, 1, 0x0, .ro, 0x0, 0x0, false⟩,  -- ADC_CH_TS_SEC, R338
  ⟨0x80128, 16, 0x80, 1, 0x0, .ro, 0x0, 0x0, false⟩,  -- ADC_CH_CNT_CLIP, R338
  ⟨0x8012C, 16, 0x80, 1, 0x0, .ro, 0x0, 0x0, false⟩,  -- ADC_CH_CNT_SETTLE, R338
  ⟨0x80130, 16, 0x80, 1, 0x0, .ro, 0x0, 0x0, false⟩,  -- ADC_CH_CNT_OPEN, R338
  ⟨0x80134, 16, 0x80, 1, 0x0, .rw1c, 0x0, 0xF, true⟩,  -- ADC_CH_EVT, R338
  ⟨0x80138, 16, 0x80, 1, 0x0, .wo, 0x0, 0x1, true⟩,  -- ADC_CH_SNAP, R338
  ⟨0x8013C, 16, 0x80, 1, 0x0, .ro, 0x0, 0x0, false⟩,  -- ADC_CH_S_DATA, R338
  ⟨0x80140, 16, 0x80, 1, 0x0, .ro, 0x0, 0x0, false⟩,  -- ADC_CH_S_RAW, R338
  ⟨0x80144, 16, 0x80, 1, 0x0, .ro, 0x0, 0x0, false⟩,  -- ADC_CH_S_SEQ, R338
  ⟨0x80148, 16, 0x80, 1, 0x0, .ro, 0x0, 0x0, false⟩,  -- ADC_CH_S_NS, R338
  ⟨0x8014C, 16, 0x80, 1, 0x0, .ro, 0x0, 0x0, false⟩]  -- ADC_CH_S_SEC, R338
/-- The registers of block ADC (R37). -/
def regAdc : List RegDesc := regAdc0 ++ regAdc1

def regFlt0 : List RegDesc := [
  ⟨0x88000, 1, 0x0, 1, 0x0, .ro, 0x0, 0x0, false⟩,  -- FLT_STAT, R360
  ⟨0x88004, 1, 0x0, 1, 0x0, .rw1c, 0x0, 0x3F, true⟩,  -- FLT_EVT, R360
  ⟨0x88008, 1, 0x0, 1, 0x0, .ro, 0x0, 0x0, false⟩,  -- FLT_Q_STAT, R360
  ⟨0x8800C, 1, 0x0, 1, 0x0, .wo, 0x0, 0x1, false⟩,  -- FLT_Q_POP, R360
  ⟨0x88010, 1, 0x0, 1, 0x0, .ro, 0x0, 0x0, false⟩,  -- FLT_Q_LOST, R360
  ⟨0x88014, 1, 0x0, 1, 0x0, .rws, 0x0, 0xFFFF01FF, false⟩,  -- FLT_CLR, R360
  ⟨0x88018, 1, 0x0, 1, 0x0, .wo, 0x0, 0x300FFFF, false⟩,  -- FLT_SW, R360
  ⟨0x8801C, 1, 0x0, 1, 0x0, .ro, 0x0, 0x0, false⟩,  -- FLT_FIRST, R360
  ⟨0x88020, 1, 0x0, 1, 0x0, .ro, 0x0, 0x0, false⟩,  -- FLT_FIRST_NS, R360
  ⟨0x88024, 1, 0x0, 1, 0x0, .ro, 0x0, 0x0, false⟩,  -- FLT_FIRST_SEC, R360
  ⟨0x88028, 1, 0x0, 1, 0x0, .rw, 0x0, 0xFF, true⟩,  -- FLT_SRC_SEL, R360
  ⟨0x8802C, 1, 0x0, 1, 0x0, .ro, 0xFFFF, 0x0, false⟩,  -- FLT_SRC_INFO, R360
  ⟨0x88030, 1, 0x0, 1, 0x0, .ro, 0x0, 0x0, false⟩,  -- FLT_SRC_CNT, R360
  ⟨0x88034, 1, 0x0, 1, 0x0, .ro, 0x0, 0x0, false⟩,  -- FLT_SRC_LAST_NS, R360
  ⟨0x88038, 1, 0x0, 1, 0x0, .ro, 0x0, 0x0, false⟩,  -- FLT_SRC_LAST_SEC, R360
  ⟨0x8803C, 1, 0x0, 1, 0x0, .wo, 0x0, 0x1, true⟩,  -- FLT_CNT_CLR, R360
  ⟨0x88040, 8, 0x4, 1, 0x0, .ro, 0x0, 0x0, false⟩,  -- FLT_Q_HEAD, R360
  ⟨0x88060, 1, 0x0, 1, 0x0, .ro, 0x0, 0x0, false⟩,  -- FLT_GF_STAT, R360
  ⟨0x88064, 1, 0x0, 1, 0x0, .ro, 0x0, 0x0, false⟩,  -- FLT_GF_AMP, R360
  ⟨0x88080, 12, 0x4, 1, 0x0, .ro, 0x0, 0x0, false⟩,  -- FLT_THR, R360
  ⟨0x88100, 8, 0x4, 1, 0x0, .ro, 0x0, 0x0, false⟩,  -- FLT_LATCH, R360
  ⟨0x88120, 8, 0x4, 1, 0x0, .ro, 0x0, 0x0, false⟩,  -- FLT_ACTIVE, R360
  ⟨0x88140, 1, 0x0, 1, 0x0, .ro, 0xF, 0x0, false⟩,  -- FLT_PAIR, R360
  ⟨0x88144, 1, 0x0, 1, 0x0, .ro, 0xFF0000, 0x0, false⟩]  -- FLT_PAIR, R360
def regFlt1 : List RegDesc := [
  ⟨0x88148, 1, 0x0, 1, 0x0, .ro, 0x10000, 0x0, false⟩,  -- FLT_PAIR, R360
  ⟨0x8814C, 1, 0x0, 1, 0x0, .ro, 0x0, 0x0, false⟩,  -- FLT_PAIR, R360
  ⟨0x88150, 1, 0x0, 1, 0x0, .ro, 0x0, 0x0, false⟩,  -- FLT_PAIR, R360
  ⟨0x88154, 1, 0x0, 1, 0x0, .ro, 0x0, 0x0, false⟩,  -- FLT_PAIR, R360
  ⟨0x88158, 1, 0x0, 1, 0x0, .ro, 0x0, 0x0, false⟩,  -- FLT_PAIR, R360
  ⟨0x8815C, 1, 0x0, 1, 0x0, .ro, 0x0, 0x0, false⟩,  -- FLT_PAIR, R360
  ⟨0x88160, 8, 0x4, 1, 0x0, .ro, 0x0, 0x0, false⟩,  -- FLT_RTRG, R360
  ⟨0x88180, 1, 0x0, 1, 0x0, .ro, 0xFFFF00BF, 0x0, false⟩,  -- FLT_CLASS, R360
  ⟨0x88184, 1, 0x0, 1, 0x0, .ro, 0xAABFFFFF, 0x0, false⟩,  -- FLT_CLASS, R360
  ⟨0x88188, 1, 0x0, 1, 0x0, .ro, 0x2AAAA, 0x0, false⟩,  -- FLT_CLASS, R360
  ⟨0x8818C, 1, 0x0, 1, 0x0, .ro, 0xAAAAAAAA, 0x0, false⟩,  -- FLT_CLASS, R360
  ⟨0x88190, 1, 0x0, 1, 0x0, .ro, 0xAAAA, 0x0, false⟩,  -- FLT_CLASS, R360
  ⟨0x88194, 1, 0x0, 1, 0x0, .ro, 0x5555005A, 0x0, false⟩,  -- FLT_CLASS, R360
  ⟨0x88198, 1, 0x0, 1, 0x0, .ro, 0x55555555, 0x0, false⟩,  -- FLT_CLASS, R360
  ⟨0x8819C, 1, 0x0, 1, 0x0, .ro, 0x55, 0x0, false⟩,  -- FLT_CLASS, R360
  ⟨0x881A0, 1, 0x0, 1, 0x0, .ro, 0x9A16AAA6, 0x0, false⟩,  -- FLT_CLASS, R360
  ⟨0x881A4, 1, 0x0, 1, 0x0, .ro, 0xAAA0095, 0x0, false⟩,  -- FLT_CLASS, R360
  ⟨0x881A8, 1, 0x0, 1, 0x0, .ro, 0x5550AAA, 0x0, false⟩,  -- FLT_CLASS, R360
  ⟨0x881AC, 1, 0x0, 1, 0x0, .ro, 0x0, 0x0, false⟩,  -- FLT_CLASS, R360
  ⟨0x881B0, 1, 0x0, 1, 0x0, .ro, 0x55555555, 0x0, false⟩,  -- FLT_CLASS, R360
  ⟨0x881B4, 1, 0x0, 1, 0x0, .ro, 0x55555555, 0x0, false⟩,  -- FLT_CLASS, R360
  ⟨0x881B8, 1, 0x0, 1, 0x0, .ro, 0x55555555, 0x0, false⟩,  -- FLT_CLASS, R360
  ⟨0x881BC, 1, 0x0, 1, 0x0, .ro, 0x1555, 0x0, false⟩,  -- FLT_CLASS, R360
  ⟨0x88200, 64, 0x4, 1, 0x0, .ro, 0x0, 0x0, false⟩]  -- FLT_CNT, R360
def regFlt2 : List RegDesc := [
  ⟨0x88300, 16, 0x8, 1, 0x0, .ro, 0xFF800000, 0x0, false⟩,  -- FLT_ADC_LO, R360
  ⟨0x88304, 16, 0x8, 1, 0x0, .ro, 0x7F800000, 0x0, false⟩,  -- FLT_ADC_HI, R360
  ⟨0x88380, 16, 0x8, 1, 0x0, .ro, 0x87007D0, 0x0, false⟩,  -- FLT_THW, R360
  ⟨0x88384, 16, 0x8, 1, 0x0, .ro, 0x960, 0x0, false⟩]  -- FLT_THS, R360
/-- The registers of block FLT (R37). -/
def regFlt : List RegDesc := regFlt0 ++ regFlt1 ++ regFlt2

def regSaf0 : List RegDesc := [
  ⟨0x90000, 1, 0x0, 1, 0x0, .ro, 0x0, 0x0, false⟩,  -- SAF_STAT, R386
  ⟨0x90004, 1, 0x0, 1, 0x0, .ro, 0x0, 0x0, false⟩,  -- SAF_OUT, R386
  ⟨0x90008, 1, 0x0, 1, 0x0, .ro, 0x0, 0x0, false⟩,  -- SAF_IN, R386
  ⟨0x9000C, 1, 0x0, 1, 0x0, .ro, 0x0, 0x0, false⟩,  -- SAF_DEMAND, R386
  ⟨0x90010, 1, 0x0, 1, 0x0, .ro, 0x0, 0x0, false⟩,  -- SAF_LATCH, R386
  ⟨0x90014, 1, 0x0, 1, 0x0, .ro, 0x0, 0x0, false⟩,  -- SAF_TEST, R386
  ⟨0x90018, 1, 0x0, 1, 0x0, .ro, 0x0, 0x0, false⟩,  -- SAF_TEST_CNT, R386
  ⟨0x9001C, 1, 0x0, 1, 0x0, .ro, 0x0, 0x0, false⟩,  -- SAF_SD_STAT, R386
  ⟨0x90020, 1, 0x0, 1, 0x0, .ro, 0x0, 0x0, false⟩,  -- SAF_SD_SEQ0, R386
  ⟨0x90024, 1, 0x0, 1, 0x0, .ro, 0x0, 0x0, false⟩,  -- SAF_SD_SEQ1, R386
  ⟨0x90028, 1, 0x0, 1, 0x0, .ro, 0x0, 0x0, false⟩,  -- SAF_SD_CNT_CRC, R386
  ⟨0x9002C, 1, 0x0, 1, 0x0, .ro, 0x0, 0x0, false⟩,  -- SAF_SD_CNT_LATE, R386
  ⟨0x90030, 1, 0x0, 1, 0x0, .ro, 0x0, 0x0, false⟩,  -- SAF_SD_CNT_DIFF, R386
  ⟨0x90034, 1, 0x0, 1, 0x0, .ro, 0x0, 0x0, false⟩,  -- SAF_SD_CMD, R386
  ⟨0x90038, 1, 0x0, 1, 0x0, .ro, 0x0, 0x0, false⟩,  -- SAF_SPS_ID, R386
  ⟨0x9003C, 1, 0x0, 1, 0x0, .ro, 0x0, 0x0, false⟩,  -- SAF_SPS_REM, R386
  ⟨0x90040, 1, 0x0, 1, 0x0, .ro, 0x0, 0x0, false⟩,  -- SAF_RDBK_A, R386
  ⟨0x90044, 1, 0x0, 1, 0x0, .ro, 0x0, 0x0, false⟩,  -- SAF_RDBK_B, R386
  ⟨0x90048, 1, 0x0, 1, 0x0, .ro, 0x0, 0x0, false⟩,  -- SAF_ILOAD, R386
  ⟨0x9004C, 1, 0x0, 1, 0x0, .ro, 0x0, 0x0, false⟩,  -- SAF_VSUP, R386
  ⟨0x90050, 1, 0x0, 1, 0x0, .ro, 0x0, 0x0, false⟩,  -- SAF_TIME, R386
  ⟨0x90054, 1, 0x0, 1, 0x0, .ro, 0x0, 0x0, false⟩,  -- SAF_MSEQ, R386
  ⟨0x90058, 1, 0x0, 1, 0x0, .ro, 0x0, 0x0, false⟩,  -- SAF_DEM_CNT, R386
  ⟨0x9005C, 1, 0x0, 1, 0x0, .ro, 0x1050301, 0x0, false⟩]  -- SAF_VER, R386
def regSaf1 : List RegDesc := [
  ⟨0x90060, 1, 0x0, 1, 0x0, .ro, 0x0, 0x0, false⟩,  -- SAF_DIAG, R386
  ⟨0x90064, 1, 0x0, 1, 0x0, .ro, 0x0, 0x0, false⟩,  -- SAF_PEEL, R386
  ⟨0x90068, 1, 0x0, 1, 0x0, .ro, 0x0, 0x0, false⟩,  -- SAF_SD_RX0, R386
  ⟨0x9006C, 1, 0x0, 1, 0x0, .ro, 0x0, 0x0, false⟩,  -- SAF_SD_RX1, R386
  ⟨0x90080, 16, 0x4, 1, 0x0, .ro, 0x0, 0x0, false⟩,  -- SAF_SPS, R386
  ⟨0x900C0, 8, 0x8, 1, 0x0, .ro, 0x0, 0x0, false⟩,  -- SAF_HIST_C, R386
  ⟨0x900C4, 8, 0x8, 1, 0x0, .ro, 0x0, 0x0, false⟩,  -- SAF_HIST_T, R386
  ⟨0x90100, 4, 0x4, 1, 0x0, .ro, 0x0, 0x0, false⟩]  -- SAF_SW, R386
/-- The registers of block SAF (R37). -/
def regSaf : List RegDesc := regSaf0 ++ regSaf1

def regRec0 : List RegDesc := [
  ⟨0x98000, 1, 0x0, 1, 0x0, .ro, 0x0, 0x0, false⟩,  -- REC_STAT, R402
  ⟨0x98004, 1, 0x0, 1, 0x0, .wo, 0x0, 0x7, false⟩,  -- REC_CTRL, R402
  ⟨0x98008, 1, 0x0, 1, 0x0, .rw1c, 0x0, 0x7F, true⟩,  -- REC_EVT, R402
  ⟨0x9800C, 1, 0x0, 1, 0x0, .rwl, 0x101, 0x70F7F, false⟩,  -- REC_CFG, R402
  ⟨0x98010, 1, 0x0, 1, 0x0, .rwl, 0x1, 0x7FF, false⟩,  -- REC_DIV, R402
  ⟨0x98014, 1, 0x0, 1, 0x0, .rwl, 0x0, 0x3FFFF, false⟩,  -- REC_POST, R402
  ⟨0x98018, 1, 0x0, 1, 0x0, .rwl, 0xA00, 0xFF1F, false⟩,  -- REC_TRIGCFG, R402
  ⟨0x9801C, 1, 0x0, 1, 0x0, .rwl, 0x32, 0x1FF, false⟩,  -- REC_LF, R402
  ⟨0x98020, 1, 0x0, 1, 0x0, .wo, 0x0, 0xFF, true⟩,  -- REC_SEG_REL, R402
  ⟨0x98024, 1, 0x0, 1, 0x0, .ro, 0x1C, 0x0, false⟩,  -- REC_GEOM, R402
  ⟨0x98028, 1, 0x0, 1, 0x0, .ro, 0x36D5B, 0x0, false⟩,  -- REC_CAP, R402
  ⟨0x9802C, 1, 0x0, 1, 0x0, .ro, 0x0, 0x0, false⟩,  -- REC_CNT_TRIG, R402
  ⟨0x98030, 1, 0x0, 1, 0x0, .ro, 0x0, 0x0, false⟩,  -- REC_CNT_RETRIG, R402
  ⟨0x98034, 1, 0x0, 1, 0x0, .ro, 0x0, 0x0, false⟩,  -- REC_CNT_LOST, R402
  ⟨0x98038, 1, 0x0, 1, 0x0, .wo, 0x0, 0x1, true⟩,  -- REC_CNT_CLR, R402
  ⟨0x9803C, 1, 0x0, 1, 0x0, .ro, 0x0, 0x0, false⟩,  -- REC_WPTR, R402
  ⟨0x98100, 8, 0x20, 1, 0x0, .ro, 0x0, 0x0, false⟩,  -- REC_SEG_STAT, R402
  ⟨0x98104, 8, 0x20, 1, 0x0, .ro, 0x0, 0x0, false⟩,  -- REC_SEG_TSEC, R402
  ⟨0x98108, 8, 0x20, 1, 0x0, .ro, 0x0, 0x0, false⟩,  -- REC_SEG_TNS, R402
  ⟨0x9810C, 8, 0x20, 1, 0x0, .ro, 0x0, 0x0, false⟩,  -- REC_SEG_FIRST, R402
  ⟨0x98110, 8, 0x20, 1, 0x0, .ro, 0x0, 0x0, false⟩,  -- REC_SEG_NFRM, R402
  ⟨0x98200, 64, 0x4, 1, 0x0, .rwl, 0x0, 0xFFFF7FFF, false⟩]  -- REC_SIG, R402
/-- The registers of block REC (R37). -/
def regRec : List RegDesc := regRec0

def regClk0 : List RegDesc := [
  ⟨0xA0000, 1, 0x0, 1, 0x0, .ro, 0x0, 0x0, false⟩,  -- CLK_STAT, R422
  ⟨0xA0004, 1, 0x0, 1, 0x0, .rw1c, 0x0, 0x3F, true⟩,  -- CLK_EVT, R422
  ⟨0xA0008, 1, 0x0, 1, 0x0, .rwl, 0xA, 0xFF, false⟩,  -- CLK_MON_CFG, R422
  ⟨0xA000C, 1, 0x0, 1, 0x0, .ro, 0x0, 0x0, false⟩,  -- CLK_REF_PPB, R422
  ⟨0xA0010, 1, 0x0, 1, 0x0, .rwl, 0x3, 0x3, false⟩,  -- CLK_SYN_CFG, R422
  ⟨0xA0014, 1, 0x0, 1, 0x0, .rwl, 0xC8000000, 0xFFFFFFFF, false⟩,  -- CLK_SYN_BASE, R422
  ⟨0xA0018, 1, 0x0, 1, 0x0, .ro, 0xC8000000, 0x0, false⟩,  -- CLK_SYN_WORD, R422
  ⟨0xA001C, 1, 0x0, 1, 0x0, .ro, 0x0, 0x0, false⟩,  -- CLK_SYN_HOLDT, R422
  ⟨0xA0020, 1, 0x0, 1, 0x0, .rwl, 0xFF0000, 0xFF070F, false⟩,  -- CLK_SYNC_CFG, R422
  ⟨0xA0024, 1, 0x0, 1, 0x0, .wo, 0x0, 0x3, false⟩,  -- CLK_SYNC_SW, R422
  ⟨0xA0028, 1, 0x0, 1, 0x0, .ro, 0x0, 0x0, false⟩,  -- CLK_SYNC_STAT, R422
  ⟨0xA002C, 1, 0x0, 1, 0x0, .ro, 0x0, 0x0, false⟩,  -- CLK_SYNC_NS, R422
  ⟨0xA0030, 1, 0x0, 1, 0x0, .ro, 0x0, 0x0, false⟩,  -- CLK_SYNC_SEC, R422
  ⟨0xA0034, 1, 0x0, 1, 0x0, .rw, 0x0, 0xFF, false⟩,  -- CLK_OUT_EN, R422
  ⟨0xA0038, 1, 0x0, 1, 0x0, .wo, 0x0, 0xFF, false⟩,  -- CLK_RISE_CTRL, R422
  ⟨0xA003C, 1, 0x0, 1, 0x0, .ro, 0x0, 0x0, false⟩,  -- CLK_RISE_STAT, R422
  ⟨0xA0040, 1, 0x0, 1, 0x0, .rw, 0x0, 0x3F, true⟩,  -- CLK_SEG_ADDR, R422
  ⟨0xA0044, 1, 0x0, 1, 0x0, .rwl, 0x0, 0xFFFFFF, false⟩,  -- CLK_SEG_DUR, R422
  ⟨0xA0048, 1, 0x0, 1, 0x0, .rwl, 0x0, 0xFFFFFFFF, false⟩,  -- CLK_SEG_END, R422
  ⟨0xA004C, 1, 0x0, 1, 0x0, .ro, 0x0, 0x0, false⟩,  -- CLK_CNT_REF, R422
  ⟨0xA0050, 1, 0x0, 1, 0x0, .ro, 0x0, 0x0, false⟩,  -- CLK_CNT_SYSUL, R422
  ⟨0xA0054, 1, 0x0, 1, 0x0, .ro, 0x0, 0x0, false⟩,  -- CLK_CNT_HOLD, R422
  ⟨0xA0058, 1, 0x0, 1, 0x0, .ro, 0x0, 0x0, false⟩,  -- CLK_CNT_SYNC, R422
  ⟨0xA005C, 1, 0x0, 1, 0x0, .wo, 0x0, 0x1, true⟩]  -- CLK_CNT_CLR, R422
def regClk1 : List RegDesc := [
  ⟨0xA0100, 8, 0x10, 1, 0x0, .rwl, 0x32, 0x1FFFF, false⟩,  -- CLK_OUTN_CFG, R423
  ⟨0xA0104, 8, 0x10, 1, 0x0, .rwl, 0x0, 0xFF, false⟩,  -- CLK_OUTN_DLY, R423
  ⟨0xA0108, 8, 0x10, 1, 0x0, .ro, 0x0, 0x0, false⟩,  -- CLK_OUTN_STAT, R423
  ⟨0xA010C, 8, 0x10, 1, 0x0, .ro, 0x0, 0x0, false⟩,  -- CLK_OUTN_FREQ, R423
  ⟨0xA0200, 4, 0x40, 1, 0x0, .rwl, 0x0, 0x787F1, false⟩,  -- CLK_RISEP_CFG, R424
  ⟨0xA0204, 4, 0x40, 1, 0x0, .rwl, 0x0, 0xFFFFFFFF, false⟩,  -- CLK_RISEP_V0, R424
  ⟨0xA0208, 4, 0x40, 1, 0x0, .ro, 0x0, 0x0, false⟩,  -- CLK_RISEP_STAT, R424
  ⟨0xA020C, 4, 0x40, 1, 0x0, .ro, 0x0, 0x0, false⟩,  -- CLK_RISEP_VAL, R424
  ⟨0xA0210, 4, 0x40, 1, 0x0, .ro, 0x0, 0x0, false⟩,  -- CLK_RISEP_ELAPSED, R424
  ⟨0xA0214, 4, 0x40, 1, 0x0, .ro, 0x0, 0x0, false⟩,  -- CLK_RISEP_TOTAL, R424
  ⟨0xA0218, 4, 0x40, 1, 0x0, .ro, 0x0, 0x0, false⟩,  -- CLK_RISEP_TS_NS, R424
  ⟨0xA021C, 4, 0x40, 1, 0x0, .ro, 0x0, 0x0, false⟩,  -- CLK_RISEP_TS_SEC, R424
  ⟨0xA0220, 4, 0x40, 1, 0x0, .ro, 0x0, 0x0, false⟩,  -- CLK_RISEP_CNT, R424
  ⟨0xA0224, 4, 0x40, 1, 0x0, .ro, 0x0, 0x0, false⟩]  -- CLK_RISEP_HOLDT, R424
/-- The registers of block CLK (R37). -/
def regClk : List RegDesc := regClk0 ++ regClk1

def regTim0 : List RegDesc := [
  ⟨0xA8000, 1, 0x0, 1, 0x0, .ro, 0x0, 0x0, false⟩,  -- TIM_STAT, R445
  ⟨0xA8004, 1, 0x0, 1, 0x0, .rw1c, 0x0, 0x7F, true⟩,  -- TIM_EVT, R445
  ⟨0xA8008, 1, 0x0, 1, 0x0, .ro, 0x0, 0x0, false⟩,  -- TIM_NOW_NS, R445
  ⟨0xA800C, 1, 0x0, 1, 0x0, .ro, 0x0, 0x0, false⟩,  -- TIM_NOW_SEC, R445
  ⟨0xA8010, 1, 0x0, 1, 0x0, .ro, 0x0, 0x0, false⟩,  -- TIM_NOW_SECH, R445
  ⟨0xA8014, 1, 0x0, 1, 0x0, .ro, 0x0, 0x0, false⟩,  -- TIM_CYCLE, R445
  ⟨0xA8018, 1, 0x0, 1, 0x0, .ro, 0x4E2, 0x0, false⟩,  -- TIM_PERIOD, R445
  ⟨0xA801C, 1, 0x0, 1, 0x0, .ro, 0x0, 0x0, false⟩,  -- TIM_ADDEND, R445
  ⟨0xA8020, 1, 0x0, 1, 0x0, .rwl, 0x0, 0x3FFFFFFF, false⟩,  -- TIM_SET_NS, R445
  ⟨0xA8024, 1, 0x0, 1, 0x0, .rwl, 0x0, 0xFFFFFFFF, false⟩,  -- TIM_SET_SEC, R445
  ⟨0xA8028, 1, 0x0, 1, 0x0, .rwl, 0x0, 0xFFFF, false⟩,  -- TIM_SET_SECH, R445
  ⟨0xA802C, 1, 0x0, 1, 0x0, .rwl, 0x0, 0xFFFFFFFF, false⟩,  -- TIM_STEP_NS, R445
  ⟨0xA8030, 1, 0x0, 1, 0x0, .rwl, 0x0, 0x3, false⟩,  -- TIM_CTRL, R445
  ⟨0xA8034, 1, 0x0, 1, 0x0, .rw, 0x0, 0x1FFFF, false⟩,  -- TIM_UTC, R445
  ⟨0xA8040, 1, 0x0, 1, 0x0, .rwl, 0x640013, 0x1FF0013, false⟩,  -- TIM_SRV_CFG, R445
  ⟨0xA8044, 1, 0x0, 1, 0x0, .rwl, 0x640008, 0xFFFFFFFF, false⟩,  -- TIM_SRV_THR, R445
  ⟨0xA8048, 1, 0x0, 1, 0x0, .rwl, 0x3E8, 0xFFFF, false⟩,  -- TIM_SRV_HOLD, R445
  ⟨0xA804C, 1, 0x0, 1, 0x0, .rwl, 0x40000000, 0xFFFFFFFF, false⟩,  -- TIM_SRV_KP0, R445
  ⟨0xA8050, 1, 0x0, 1, 0x0, .rwl, 0x3E800000, 0xFFFFFFFF, false⟩,  -- TIM_SRV_KI0, R445
  ⟨0xA8054, 1, 0x0, 1, 0x0, .rwl, 0x447A0000, 0xFFFFFFFF, false⟩,  -- TIM_SRV_KP1, R445
  ⟨0xA8058, 1, 0x0, 1, 0x0, .rwl, 0x40A00000, 0xFFFFFFFF, false⟩,  -- TIM_SRV_KI1, R445
  ⟨0xA805C, 1, 0x0, 1, 0x0, .wo, 0x0, 0xFFFFFFFF, false⟩,  -- TIM_SRV_OFFSET, R445
  ⟨0xA8060, 1, 0x0, 1, 0x0, .ro, 0x0, 0x0, false⟩,  -- TIM_SRV_LAST, R445
  ⟨0xA8064, 1, 0x0, 1, 0x0, .ro, 0x0, 0x0, false⟩]  -- TIM_SRV_INTEG, R445
def regTim1 : List RegDesc := [
  ⟨0xA8068, 1, 0x0, 1, 0x0, .ro, 0x0, 0x0, false⟩,  -- TIM_PTN_OFF, R445
  ⟨0xA806C, 1, 0x0, 1, 0x0, .ro, 0x0, 0x0, false⟩,  -- TIM_CNT_STEP, R445
  ⟨0xA8070, 1, 0x0, 1, 0x0, .ro, 0x0, 0x0, false⟩,  -- TIM_CNT_SAMPLE, R445
  ⟨0xA8074, 1, 0x0, 1, 0x0, .wo, 0x0, 0x1, true⟩,  -- TIM_CNT_CLR, R445
  ⟨0xA8100, 2, 0x20, 1, 0x0, .rw1c, 0x0, 0x100, true⟩,  -- TIM_TXQ_STAT, R447: RO but for OVERFLOW
  ⟨0xA8104, 2, 0x20, 1, 0x0, .ro, 0x0, 0x0, false⟩,  -- TIM_TXQ_ID, R447
  ⟨0xA8108, 2, 0x20, 1, 0x0, .ro, 0x0, 0x0, false⟩,  -- TIM_TXQ_SEC, R447
  ⟨0xA810C, 2, 0x20, 1, 0x0, .ro, 0x0, 0x0, false⟩,  -- TIM_TXQ_NS, R447
  ⟨0xA8110, 2, 0x20, 1, 0x0, .wo, 0x0, 0x1, false⟩,  -- TIM_TXQ_POP, R447
  ⟨0xA8114, 2, 0x20, 1, 0x0, .rwl, 0x73, 0x73, false⟩,  -- TIM_ETH_CFG, R447
  ⟨0xA8200, 8, 0x20, 1, 0x0, .rwl, 0x0, 0xFFFFFFFF, false⟩,  -- TIM_CMP_LO, R448
  ⟨0xA8204, 8, 0x20, 1, 0x0, .rwl, 0x0, 0xFFFFFFFF, false⟩,  -- TIM_CMP_HI, R448
  ⟨0xA8208, 8, 0x20, 1, 0x0, .rwl, 0x0, 0xFFFFFFFF, false⟩,  -- TIM_CMP_PER, R448
  ⟨0xA820C, 8, 0x20, 1, 0x0, .wo, 0x0, 0x3, false⟩,  -- TIM_CMP_CTRL, R448
  ⟨0xA8210, 8, 0x20, 1, 0x0, .rw1c, 0x0, 0x2, true⟩,  -- TIM_CMP_STAT, R448: RO but for MATCH
  ⟨0xA8214, 8, 0x20, 1, 0x0, .ro, 0x0, 0x0, false⟩]  -- TIM_CMP_CNT, R448
/-- The registers of block TIM (R37). -/
def regTim : List RegDesc := regTim0 ++ regTim1

def regEth0 : List RegDesc := [
  ⟨0xB0000, 2, 0x1000, 1, 0x0, .ro, 0x0, 0x0, false⟩,  -- ETH_STAT, R471
  ⟨0xB0004, 2, 0x1000, 1, 0x0, .rw1c, 0x0, 0xFF, true⟩,  -- ETH_EVT, R471
  ⟨0xB0008, 2, 0x1000, 1, 0x0, .ro, 0x0, 0x0, false⟩,  -- ETH_CFG, R471
  ⟨0xB000C, 2, 0x1000, 1, 0x0, .ro, 0x0, 0x0, false⟩,  -- ETH_AN_LP, R471
  ⟨0xB0010, 2, 0x1000, 1, 0x0, .ro, 0x0, 0x0, false⟩,  -- ETH_MAC_LO, R471
  ⟨0xB0014, 2, 0x1000, 1, 0x0, .ro, 0x0, 0x0, false⟩,  -- ETH_MAC_HI, R471
  ⟨0xB0018, 2, 0x1000, 1, 0x0, .ro, 0x0, 0x0, false⟩,  -- ETH_IP4, R471
  ⟨0xB001C, 2, 0x1000, 1, 0x0, .ro, 0x0, 0x0, false⟩,  -- ETH_IP4_PLEN, R471
  ⟨0xB0020, 2, 0x1000, 4, 0x4, .ro, 0x0, 0x0, false⟩,  -- ETH_IP6, R471
  ⟨0xB0030, 2, 0x1000, 1, 0x0, .rwl, 0x2000000, 0xFFFFFFFF, false⟩,  -- ETH_TXR_BASE, R471
  ⟨0xB0034, 2, 0x1000, 1, 0x0, .rwl, 0x40, 0x7FF, false⟩,  -- ETH_TXR_CFG, R471
  ⟨0xB0038, 2, 0x1000, 1, 0x0, .rw, 0x0, 0x3FF, false⟩,  -- ETH_TXR_TAIL, R471
  ⟨0xB003C, 2, 0x1000, 1, 0x0, .ro, 0x0, 0x0, false⟩,  -- ETH_TXR_HEAD, R471
  ⟨0xB0040, 2, 0x1000, 1, 0x0, .rwl, 0x2000000, 0xFFFFFFFF, false⟩,  -- ETH_RXR_BASE, R471
  ⟨0xB0044, 2, 0x1000, 1, 0x0, .rwl, 0x40, 0x7FF, false⟩,  -- ETH_RXR_CFG, R471
  ⟨0xB0048, 2, 0x1000, 1, 0x0, .rw, 0x0, 0x3FF, false⟩,  -- ETH_RXR_TAIL, R471
  ⟨0xB004C, 2, 0x1000, 1, 0x0, .ro, 0x0, 0x0, false⟩,  -- ETH_RXR_HEAD, R471
  ⟨0xB0050, 2, 0x1000, 1, 0x0, .wo, 0x0, 0xF, false⟩,  -- ETH_RING_CTRL, R471
  ⟨0xB0054, 2, 0x1000, 1, 0x0, .rwl, 0x5, 0x1F, false⟩,  -- ETH_RX_FILT, R471
  ⟨0xB0058, 2, 0x1000, 2, 0x4, .rwl, 0x0, 0xFFFFFFFF, false⟩,  -- ETH_MCHASH, R471
  ⟨0xB0060, 2, 0x1000, 1, 0x0, .ro, 0x0, 0x0, false⟩,  -- ETH_UZ_STAT, R471
  ⟨0xB0064, 2, 0x1000, 1, 0x0, .ro, 0x0, 0x0, false⟩,  -- ETH_DENY_FAM, R471
  ⟨0xB0068, 2, 0x1000, 4, 0x4, .ro, 0x0, 0x0, false⟩,  -- ETH_DENY_ADDR, R471
  ⟨0xB0078, 2, 0x1000, 1, 0x0, .ro, 0x0, 0x0, false⟩]  -- ETH_SD_MAC_LO, R471
def regEth1 : List RegDesc := [
  ⟨0xB007C, 2, 0x1000, 1, 0x0, .ro, 0x0, 0x0, false⟩,  -- ETH_SD_MAC_HI, R471
  ⟨0xB0080, 2, 0x1000, 4, 0x4, .ro, 0x0, 0x0, false⟩,  -- ETH_SD_ADDR, R471
  ⟨0xB0090, 2, 0x1000, 1, 0x0, .ro, 0x0, 0x0, false⟩,  -- ETH_SD_FAM, R471
  ⟨0xB0094, 2, 0x1000, 1, 0x0, .wo, 0x0, 0x1, true⟩,  -- ETH_CNT_CLR, R471
  ⟨0xB00A0, 2, 0x1000, 18, 0x4, .ro, 0x0, 0x0, false⟩,  -- ETH_CNT, R471
  ⟨0xB0100, 2, 0x1000, 8, 0x20, .ro, 0x0, 0x0, false⟩,  -- ETH_UZA, R471
  ⟨0xB0104, 2, 0x1000, 8, 0x20, .ro, 0x0, 0x0, false⟩,  -- ETH_UZA, R471
  ⟨0xB0108, 2, 0x1000, 8, 0x20, .ro, 0x0, 0x0, false⟩,  -- ETH_UZA, R471
  ⟨0xB010C, 2, 0x1000, 8, 0x20, .ro, 0x0, 0x0, false⟩,  -- ETH_UZA, R471
  ⟨0xB0110, 2, 0x1000, 8, 0x20, .ro, 0x0, 0x0, false⟩]  -- ETH_UZA, R471
/-- The registers of block ETH (R37). -/
def regEth : List RegDesc := regEth0 ++ regEth1

def regCan0 : List RegDesc := [
  ⟨0xB8000, 2, 0x2000, 1, 0x0, .ro, 0x10, 0x0, false⟩,  -- CAN_STAT, R473
  ⟨0xB8004, 2, 0x2000, 1, 0x0, .rw1c, 0x0, 0x3F, true⟩,  -- CAN_EVT, R473
  ⟨0xB8008, 2, 0x2000, 1, 0x0, .wo, 0x0, 0x7, false⟩,  -- CAN_CTRL, R473
  ⟨0xB800C, 2, 0x2000, 1, 0x0, .rwl, 0x30, 0x33, false⟩,  -- CAN_CFG, R473
  ⟨0xB8010, 2, 0x2000, 1, 0x0, .rwl, 0x264E2609, 0xFFFFFFFF, false⟩,  -- CAN_NBT, R473
  ⟨0xB8014, 2, 0x2000, 1, 0x0, .rwl, 0x9120404, 0x1F1F0F0F, false⟩,  -- CAN_DBT, R473
  ⟨0xB8018, 2, 0x2000, 1, 0x0, .rwl, 0x0, 0x807F, false⟩,  -- CAN_TDC, R473
  ⟨0xB801C, 2, 0x2000, 1, 0x0, .ro, 0x0, 0x0, false⟩,  -- CAN_ERR, R473
  ⟨0xB8020, 2, 0x2000, 1, 0x0, .ro, 0x0, 0x0, false⟩,  -- CAN_LEC, R473
  ⟨0xB8024, 2, 0x2000, 1, 0x0, .rwl, 0x3E8, 0x8000FFFF, false⟩,  -- CAN_TT_CFG, R473
  ⟨0xB8028, 2, 0x2000, 1, 0x0, .ro, 0x0, 0x0, false⟩,  -- CAN_TT_STAT, R473
  ⟨0xB802C, 2, 0x2000, 1, 0x0, .rwl, 0x0, 0x3FFFFFFF, false⟩,  -- CAN_WAKE_ID, R473
  ⟨0xB8030, 2, 0x2000, 1, 0x0, .rwl, 0x3FFFFFFF, 0x3FFFFFFF, false⟩,  -- CAN_WAKE_MASK, R473
  ⟨0xB8034, 2, 0x2000, 2, 0x4, .wo, 0x0, 0xFFFFFFFF, false⟩,  -- CAN_TXREQ, R473
  ⟨0xB803C, 2, 0x2000, 2, 0x4, .wo, 0x0, 0xFFFFFFFF, false⟩,  -- CAN_TXCAN, R473
  ⟨0xB8044, 2, 0x2000, 2, 0x4, .ro, 0x0, 0x0, false⟩,  -- CAN_TXPEND, R473
  ⟨0xB804C, 2, 0x2000, 2, 0x4, .rw1c, 0x0, 0xFFFFFFFF, true⟩,  -- CAN_TXDONE, R473
  ⟨0xB8054, 2, 0x2000, 2, 0x4, .ro, 0x0, 0x0, false⟩,  -- CAN_RXFULL, R473
  ⟨0xB805C, 2, 0x2000, 2, 0x4, .ro, 0x0, 0x0, false⟩,  -- CAN_RXLOCK, R473
  ⟨0xB8064, 2, 0x2000, 2, 0x4, .rw, 0x0, 0xFFFFFFFF, false⟩,  -- CAN_IRQ_EN, R473
  ⟨0xB806C, 2, 0x2000, 1, 0x0, .ro, 0x0, 0x0, false⟩,  -- CAN_RXSEQ, R473
  ⟨0xB8070, 2, 0x2000, 1, 0x0, .ro, 0x0, 0x0, false⟩,  -- CAN_BO_NS, R473
  ⟨0xB8074, 2, 0x2000, 1, 0x0, .ro, 0x0, 0x0, false⟩,  -- CAN_BO_SEC, R473
  ⟨0xB8078, 2, 0x2000, 1, 0x0, .wo, 0x0, 0x1, true⟩]  -- CAN_CNT_CLR, R473
def regCan1 : List RegDesc := [
  ⟨0xB807C, 2, 0x2000, 1, 0x0, .rw, 0x7, 0x7, false⟩,  -- CAN_IRQ_CFG, R473
  ⟨0xB8080, 2, 0x2000, 8, 0x4, .ro, 0x0, 0x0, false⟩]  -- CAN_CNT, R473
/-- The registers of block CAN (R37). -/
def regCan : List RegDesc := regCan0 ++ regCan1

def regIcu0 : List RegDesc := [
  ⟨0xC0000, 1, 0x0, 1, 0x0, .ro, 0x10101010, 0x0, false⟩,  -- ICU_TGT_STAT, R496
  ⟨0xC0004, 1, 0x0, 1, 0x0, .ro, 0x0, 0x0, false⟩,  -- ICU_STAT, R496
  ⟨0xC0008, 1, 0x0, 1, 0x0, .ro, 0x0, 0x0, false⟩,  -- ICU_LOST, R496
  ⟨0xC000C, 1, 0x0, 1, 0x0, .wo, 0x0, 0xFF01, false⟩,  -- ICU_CTRL, R496
  ⟨0xC0010, 10, 0x4, 1, 0x0, .ro, 0x0, 0x0, false⟩,  -- ICU_PEND, R496
  ⟨0xC0040, 10, 0x4, 1, 0x0, .ro, 0x0, 0x0, false⟩,  -- ICU_ACT, R496
  ⟨0xC0100, 80, 0x4, 1, 0x0, .rw, 0x0, 0xFFFFFFFF, false⟩]  -- ICU_SRCCFG, R496
/-- The registers of block ICU (R37). -/
def regIcu : List RegDesc := regIcu0

def regEvc0 : List RegDesc := [
  ⟨0xC8000, 1, 0x0, 1, 0x0, .ro, 0x0, 0x0, false⟩,  -- EVC_STAT, R497
  ⟨0xC8004, 1, 0x0, 1, 0x0, .ro, 0x0, 0x0, false⟩,  -- EVC_GATE, R497
  ⟨0xC8008, 1, 0x0, 1, 0x0, .rw1c, 0x0, 0xFFFFFFFF, true⟩,  -- EVC_OVF, R497
  ⟨0xC800C, 1, 0x0, 1, 0x0, .wo, 0x0, 0xFFFFFFFF, true⟩,  -- EVC_SNAP, R497
  ⟨0xC8010, 1, 0x0, 1, 0x0, .wo, 0x0, 0xFFFFFFFF, true⟩,  -- EVC_CLR, R497
  ⟨0xC8014, 1, 0x0, 1, 0x0, .ro, 0x0, 0x0, false⟩,  -- EVC_SNAP_NS, R497
  ⟨0xC8018, 1, 0x0, 1, 0x0, .ro, 0x0, 0x0, false⟩,  -- EVC_SNAP_SEC, R497
  ⟨0xC801C, 1, 0x0, 1, 0x0, .ro, 0x0, 0x0, false⟩,  -- EVC_SNAP_CYC, R497
  ⟨0xC8100, 32, 0x10, 1, 0x0, .rwl, 0x0, 0x800373FF, false⟩,  -- EVC_CFG, R497
  ⟨0xC8104, 32, 0x10, 1, 0x0, .ro, 0x0, 0x0, false⟩,  -- EVC_LIVE, R497
  ⟨0xC8108, 32, 0x10, 1, 0x0, .ro, 0x0, 0x0, false⟩,  -- EVC_SNAP_LO, R497
  ⟨0xC810C, 32, 0x10, 1, 0x0, .ro, 0x0, 0x0, false⟩]  -- EVC_SNAP_HI, R497
/-- The registers of block EVC (R37). -/
def regEvc : List RegDesc := regEvc0

def regHkp0 : List RegDesc := [
  ⟨0xD0000, 1, 0x0, 1, 0x0, .ro, 0x0, 0x0, false⟩,  -- HKP_STAT, R339
  ⟨0xD0004, 1, 0x0, 1, 0x0, .rw1c, 0x0, 0xF, true⟩,  -- HKP_EVT, R339
  ⟨0xD0008, 1, 0x0, 1, 0x0, .rwb, 0x0, 0xFFFF, false⟩,  -- HKP_TCFG, R339
  ⟨0xD000C, 1, 0x0, 1, 0x0, .rwb, 0xD6B, 0xFFFF, false⟩,  -- HKP_NTC, R339
  ⟨0xD0010, 1, 0x0, 1, 0x0, .rwb, 0x20C, 0xFFFF, false⟩,  -- HKP_DIODE, R339
  ⟨0xD0014, 1, 0x0, 1, 0x0, .wo, 0x0, 0xFF, false⟩,  -- HKP_URG, R339
  ⟨0xD0018, 1, 0x0, 1, 0x0, .ro, 0x0, 0x0, false⟩,  -- HKP_URG_RES, R339
  ⟨0xD001C, 1, 0x0, 1, 0x0, .ro, 0x0, 0x0, false⟩,  -- HKP_CNT, R339
  ⟨0xD0100, 1, 0x0, 1, 0x0, .rwb, 0x10, 0xFF, false⟩,  -- HKP_SEQ, R339
  ⟨0xD0104, 1, 0x0, 1, 0x0, .rwb, 0x11, 0xFF, false⟩,  -- HKP_SEQ, R339
  ⟨0xD0108, 1, 0x0, 1, 0x0, .rwb, 0x12, 0xFF, false⟩,  -- HKP_SEQ, R339
  ⟨0xD010C, 1, 0x0, 1, 0x0, .rwb, 0x13, 0xFF, false⟩,  -- HKP_SEQ, R339
  ⟨0xD0110, 1, 0x0, 1, 0x0, .rwb, 0x14, 0xFF, false⟩,  -- HKP_SEQ, R339
  ⟨0xD0114, 1, 0x0, 1, 0x0, .rwb, 0x15, 0xFF, false⟩,  -- HKP_SEQ, R339
  ⟨0xD0118, 1, 0x0, 1, 0x0, .rwb, 0x16, 0xFF, false⟩,  -- HKP_SEQ, R339
  ⟨0xD011C, 1, 0x0, 1, 0x0, .rwb, 0x17, 0xFF, false⟩,  -- HKP_SEQ, R339
  ⟨0xD0120, 1, 0x0, 1, 0x0, .rwb, 0x20, 0xFF, false⟩,  -- HKP_SEQ, R339
  ⟨0xD0124, 1, 0x0, 1, 0x0, .rwb, 0x21, 0xFF, false⟩,  -- HKP_SEQ, R339
  ⟨0xD0128, 1, 0x0, 1, 0x0, .rwb, 0x30, 0xFF, false⟩,  -- HKP_SEQ, R339
  ⟨0xD012C, 1, 0x0, 1, 0x0, .rwb, 0x31, 0xFF, false⟩,  -- HKP_SEQ, R339
  ⟨0xD0130, 1, 0x0, 1, 0x0, .rwb, 0x32, 0xFF, false⟩,  -- HKP_SEQ, R339
  ⟨0xD0134, 1, 0x0, 1, 0x0, .rwb, 0x33, 0xFF, false⟩,  -- HKP_SEQ, R339
  ⟨0xD0138, 1, 0x0, 1, 0x0, .rwb, 0x34, 0xFF, false⟩,  -- HKP_SEQ, R339
  ⟨0xD013C, 1, 0x0, 1, 0x0, .rwb, 0x35, 0xFF, false⟩]  -- HKP_SEQ, R339
def regHkp1 : List RegDesc := [
  ⟨0xD0140, 1, 0x0, 1, 0x0, .rwb, 0x40, 0xFF, false⟩,  -- HKP_SEQ, R339
  ⟨0xD0144, 1, 0x0, 1, 0x0, .rwb, 0x41, 0xFF, false⟩,  -- HKP_SEQ, R339
  ⟨0xD0148, 1, 0x0, 1, 0x0, .rwb, 0x42, 0xFF, false⟩,  -- HKP_SEQ, R339
  ⟨0xD014C, 1, 0x0, 1, 0x0, .rwb, 0x43, 0xFF, false⟩,  -- HKP_SEQ, R339
  ⟨0xD0150, 1, 0x0, 1, 0x0, .rwb, 0x44, 0xFF, false⟩,  -- HKP_SEQ, R339
  ⟨0xD0154, 1, 0x0, 1, 0x0, .rwb, 0x45, 0xFF, false⟩,  -- HKP_SEQ, R339
  ⟨0xD0158, 1, 0x0, 1, 0x0, .rwb, 0x46, 0xFF, false⟩,  -- HKP_SEQ, R339
  ⟨0xD015C, 1, 0x0, 1, 0x0, .rwb, 0x47, 0xFF, false⟩,  -- HKP_SEQ, R339
  ⟨0xD0160, 1, 0x0, 1, 0x0, .rwb, 0x70, 0xFF, false⟩,  -- HKP_SEQ, R339
  ⟨0xD0164, 1, 0x0, 1, 0x0, .rwb, 0x71, 0xFF, false⟩,  -- HKP_SEQ, R339
  ⟨0xD0168, 1, 0x0, 1, 0x0, .rwb, 0x72, 0xFF, false⟩,  -- HKP_SEQ, R339
  ⟨0xD016C, 1, 0x0, 1, 0x0, .rwb, 0x73, 0xFF, false⟩,  -- HKP_SEQ, R339
  ⟨0xD0170, 1, 0x0, 1, 0x0, .rwb, 0x0, 0xFF, false⟩,  -- HKP_SEQ, R339
  ⟨0xD0174, 1, 0x0, 1, 0x0, .rwb, 0x0, 0xFF, false⟩,  -- HKP_SEQ, R339
  ⟨0xD0178, 1, 0x0, 1, 0x0, .rwb, 0x0, 0xFF, false⟩,  -- HKP_SEQ, R339
  ⟨0xD017C, 1, 0x0, 1, 0x0, .rwb, 0x0, 0xFF, false⟩,  -- HKP_SEQ, R339
  ⟨0xD0200, 32, 0x4, 1, 0x0, .ro, 0x40000000, 0x0, false⟩]  -- HKP_RES, R339
/-- The registers of block HKP (R37). -/
def regHkp : List RegDesc := regHkp0 ++ regHkp1

/-- The register descriptors of the block that holds the address (the block ranges of R37); none outside every block. -/
def blockRegs (a : Nat) : List RegDesc :=
  if a < 0x10000 then regSys else
  if a < 0x20000 then regTru else
  if a < 0x30000 then regLog else
  if a < 0x40000 then regLnk else
  if a < 0x50000 then regPtn else
  if a < 0x60000 then regKne else
  if a < 0x70000 then regMod else
  if a < 0x78000 then regPwm else
  if a < 0x80000 then regGdr else
  if a < 0x88000 then regAdc else
  if a < 0x90000 then regFlt else
  if a < 0x98000 then regSaf else
  if a < 0xA0000 then regRec else
  if a < 0xA8000 then regClk else
  if a < 0xB0000 then regTim else
  if a < 0xB8000 then regEth else
  if a < 0xC0000 then regCan else
  if a < 0xC8000 then regIcu else
  if a < 0xD0000 then regEvc else
  if a < 0xD8000 then regHkp else
  []

/-- The address lies in the range of a block (R37). -/
def inBlock (a : Nat) : Bool := decide (a < 0xD8000)

/-- The descriptor of the register at byte address a, if the part holds one there. -/
def regDesc? (a : Nat) : Option RegDesc := (blockRegs a).find? (·.covers a)

/-- The reset value of the register at byte address a (0 where there is none). -/
def resetOf (a : Nat) : Word := match regDesc? a with
  | some d => BitVec.ofNat 32 d.reset
  | none => 0

end Sys2Proof.Machine
end

