-- ==== Sys2Proof/Machine/State.lean ====
section
/-!
DEFINITION. The state of the module as plain data: the register map, the memories, the internal state that the rules of each
block name, and the queue of waiting commands. State.reset is the machine right after power-on (R53, R54).
-/
namespace Sys2Proof.Machine

/-- Why a step can stop. No meaning of this model answers with a fault; the type is there for the interface. -/
inductive Fault where
  /-- Raised by nothing: every command of the table has an effect or leaves the module unchanged. Safe. -/
  | none
  deriving DecidableEq, Repr

/-- Why a command can be refused. -/
inductive Refusal where
  /-- Raised by exec for a command that has no meaning in the model yet. Safe: the run stops. -/
  | notModelled (mnemonic : String)
  deriving DecidableEq, Repr

/-- The ordering code (R1). -/
inductive Variant where
  | t | h
  deriving DecidableEq, Repr

/-- Where the module stands between power-on and running (R53-R62). -/
inductive Phase where
  /-- A reset source holds the module. -/
  | inReset
  /-- The Starter runs. -/
  | boot
  /-- The Starter has handed over. -/
  | run
  deriving DecidableEq, Repr

/-- The fuses and the device key (R70, R71, R77). Reset values DESIGN CHOICE (log entry 4): an unprovisioned part. -/
structure Fuses where
  uid : Nat := 0
  ownerHash : Option (List Byte) := none
  secver : Nat := 0
  devPriv : Nat := 0
  devPub : List Byte := List.replicate 96 0
  deriving DecidableEq, Repr

/-- A boundary transition that waits (R46, R49). -/
structure PendTrans where
  target : Nat
  reason : Nat
  /-- The cycle number of the boundary at which it takes effect. -/
  atCycle : Nat
  /-- KEYID and COUNTER of the request, for its MODE record. -/
  keyid : Nat
  counter : Nat
  deriving DecidableEq, Repr

/-- State of modes, reset, boot, standby and the watchdogs (chapter 2). -/
structure Sys where
  phase : Phase := .inReset
  /-- The supply monitors hold the module in reset: a rail was outside its band and has not been back for 2 ms (R58). -/
  supplyBad : Bool := true
  /-- nRESET: sampled level, tick of the last falling edge, and whether the pin holds the module in reset. -/
  nresetLow : Bool := false
  nresetFell : Nat := 0
  nresetHeld : Bool := false
  /-- Tick of the last excursion of a monitored rail (R58). -/
  supplyTick : Nat := 0
  /-- Tick at which reset was released (R62). -/
  released : Nat := 0
  /-- HEAD_SEL as sampled at release: head B (R524). -/
  headB : Bool := false
  pend : Option PendTrans := none
  /-- Tick of the last mirror frame (R383). -/
  mirrorTick : Nat := 0
  /-- Mode code, registers, and which PWM groups run at the start of the current tick, for R32 and R90. -/
  tickMode : Nat := 1
  tickRegs : List (Nat × Word) := []
  /-- A BANK_COMMIT was under verification or waited for its boundary at the start of the current tick (R90, R98). -/
  tickBank : Bool := false
  tickRun : List Bool := [false, false]
  /-- The time at the start of the current tick, which stamps its records (R34): seconds and nanoseconds. -/
  tickSec : Nat := 0
  tickNs : Nat := 0
  /-- Same-tick index of R34. -/
  tickIdx : Nat := 0
  /-- Sticky bits that events of the current tick set: address and bit (R12); shadows written in it with their value at its
  start (R13). -/
  setNow : List (Nat × Nat) := []
  wrote : List (Nat × Word) := []
  /-- Tick of entry into RIDE-THROUGH and the run mode it was entered from, 0 if from none (R46); tick of entry into ENERGIZE. -/
  rtEntry : Nat := 0
  rtFrom : Nat := 0
  energizeEntry : Nat := 0
  /-- Tick of the last kick of each watchdog, and ticks already run when it was paused (R59, R492). -/
  wdtKick : List Nat := [0, 0, 0, 0]
  wdtPaused : List (Option Nat) := [none, none, none, none]
  /-- The retention save of a STANDBY entry is under way (R65); tick in which the last entry was abandoned (R68). -/
  saving : Bool := false
  abortTick : Option Nat := none
  /-- KEYID and COUNTER of the STANDBY request, for its MODE record. -/
  stbyKeyid : Nat := 0
  stbyCounter : Nat := 0
  /-- A wake is in progress with its source, since this tick (R67). -/
  waking : Option Nat := none
  wakeTick : Nat := 0
  /-- Boot is held for an open journal while the MRAM window is closed (R508). -/
  bootHeld : Bool := false
  /-- The Recipe's protection section is in force (R538). -/
  protInForce : Bool := false
  /-- The ACTIVE Recipe was accepted at the last boot; false in the state of R64. -/
  recipeOk : Bool := false
  /-- Roles of HB0-HB5 (R22): 0-3 LV legs A, B, C, N; 4 DC-port leg; 5 chopper; 0xFF unused. -/
  roles : List Nat := [0, 1, 2, 3, 4, 4]
  /-- Cores that the Recipe assigns to the mode manager and to the fault-and-log service (R59, R479). -/
  modeCore : Option Nat := none
  logCore : Option Nat := none
  /-- The last read that was flagged as failed (R36): its reader, none for a reader that is no core, and its byte address. -/
  readFailed : Option (Option Nat × Nat) := none
  deriving DecidableEq, Repr

/-- A stage of one source (R93). -/
structure Stage where
  entries : List (Nat × Word) := []
  runAddr : Nat := 0
  run : List Byte := []
  ovf : Bool := false
  order : Bool := false
  deriving DecidableEq, Repr

/-- A command waiting for or under verification (R81, R89). -/
structure Cmd where
  /-- 0 HPI, 1-4 C0-C3, 5 Uzopex. -/
  src : Nat
  /-- For Uzopex: the port and the reply address record of the block. -/
  port : Nat
  reply : List Byte
  hdr : List Byte
  auth : List Byte
  key : List Byte
  payload : List Byte
  /-- Placement or length fault found at arrival (step 1 of R90), and a stage with OVF or ORDER set. -/
  badFormat : Bool
  stageBad : Bool
  /-- Tick of arrival (R89). -/
  tick : Nat := 0
  deriving DecidableEq, Repr

/-- A session in a slot (R86, R87). -/
structure Session where
  id : Nat
  key : List Byte
  keyid : Nat
  /-- LIFETIME granted, and the seconds left of it. -/
  life : Nat
  left : Nat
  perm : Nat
  deriving DecidableEq, Repr

structure SessSlot where
  held : Option Session := none
  /-- The identifier of the session that last ended in this slot (R87); 0 none. -/
  ended : Nat := 0
  deriving DecidableEq, Repr

/-- A locked bank and its commit (R98, R99). -/
structure BankCommit where
  bank : Nat
  length : Nat
  cycle : Nat
  digest : List Byte
  accepted : Bool
  /-- Tick of acceptance: a commit with CYCLE 0 swaps at the first boundary after it. -/
  tick : Nat := 0
  keyid : Nat
  counter : Nat
  deriving DecidableEq, Repr

/-- State of command trust (chapter 3). -/
structure Tru where
  stages : List Stage := [{}, {}, {}, {}, {}]
  /-- The command being verified first, then those that wait (R89). -/
  queue : List Cmd := []
  /-- The verification queue is busy with VERIFY_PENDING's image check (R79). -/
  verifying : Bool := false
  sessions : List SessSlot := [{}, {}, {}, {}]
  bank : Option BankCommit := none
  /-- Next 64 KiB step of a running promotion (R80), also the open journal that the Starter completes. -/
  promote : Option Nat := none
  /-- KEYID and COUNTER of the PROMOTE that runs, for its record (R103). -/
  promoteBy : Nat × Nat := (0, 0)
  /-- A 64 KiB step of the promotion is under way, which a closing window lets complete (R80). -/
  copying : Bool := false
  /-- The MRAM run of the COMMIT in front has been admitted and is being written (R96, R510). -/
  runOn : Bool := false
  /-- The key table: public key, permission mask (R82, R84). -/
  keys : List (List Byte × Nat) := []
  /-- Counter held in SRAM while the window is closed (R88). -/
  ctr : Nat := 0
  ctrMram : Nat := 0
  /-- Debug access: lifetime left in TRU_DBG_STAT; duration granted, for the record. -/
  dbgDuration : Nat := 0
  /-- Attestation in progress: nonce, LOG_HEAD and SEQ covered (R108). -/
  att : Option (List Byte × List Byte × Nat) := none
  /-- Seconds counter of R87: ticks within the second. -/
  secTicks : Nat := 0
  deriving DecidableEq, Repr

/-- A record that is being written (R107): its SEQ, what its slot held before, the tick by which it is complete at the latest, and the
stored counter before the command that it records (R88). -/
structure LogWrite where
  seq : Nat
  old : List Byte
  done : Nat
  ctr : Option Nat := none
  deriving DecidableEq, Repr

/-- State of the Crust log beside its registers and its MRAM slots (R102-R107). -/
structure Log where
  held : List (List Byte) := []
  dropped : Nat := 0
  /-- Records that are on their way through the journal into their slots, oldest first (R107). -/
  writing : List LogWrite := []
  /-- SEQ of the first record that an interruption kept from its slot, until the next reset; the entry that the interruption left in the
  journal, true where it bears its mark: the Starter completes it, or discards it and owes a GAP record (R107, R509). -/
  lostFrom : Option Nat := none
  openEntry : Option Bool := none
  /-- The COMMIT whose MRAM run, complete in the journal, a reset kept from its place: the Starter completes it (R60, R509). -/
  openRun : Option Cmd := none
  /-- The first free value that the journal at the top of the parameter store reads as, if it has been written (R80, R107). -/
  journal : Option Nat := none
  deriving DecidableEq, Repr

/-- One entry per fault code: raises since reset, stamp of the last raise and its ITEM (R344, R360). -/
structure FltSrc where
  cnt : Nat := 0
  ns : Nat := 0
  sec : Nat := 0
  item : Nat := 0xFFFF
  deriving DecidableEq, Repr

/-- A raise that waits for its actions within the tick (R344): CLASS written for SW, and BOOT of R356. -/
structure FltReq where
  code : Nat
  item : Nat := 0xFFFF
  value : Nat := 0
  swClass : Nat := 0
  boot : Bool := false
  deriving DecidableEq, Repr

/-- A queued fault record with the tick it was raised in (R349, R350). -/
structure FltRec where
  bytes : List Byte
  cls : Nat
  tick : Nat
  deriving DecidableEq, Repr

/-- State of the fault manager beside its registers (chapter 12). -/
structure Flt where
  /-- Raises of the event that runs, in order; empty between events. -/
  todo : List FltReq := []
  fseq : Nat := 0
  queue : List FltRec := []
  srcs : List (Nat × FltSrc) := []
  /-- Codes whose condition lasts for the tick that runs (R345). -/
  marked : List Nat := []
  /-- FSEQ at the head of the queue at the start of the current tick (R350). -/
  headAtTick : Option Nat := none
  /-- Grid-fault detector (R358): consecutive deadlines out of range; ticks for which v has been inside the band up to the last valid deadline,
  and that deadline, none while v is outside the band or a channel is not VALID. -/
  gfCount : Nat := 0
  gfHold : Nat := 0
  gfLast : Option Nat := none
  /-- Consecutive cycles in which a cell commanded RUN reported BLOCK (R346), per cell. -/
  blocked : List (Nat × Nat) := []
  deriving DecidableEq, Repr

/-- One code-group to be sent: a symbol that the transmitter encodes, or a received code-group that goes out as it came (R112, R128). -/
inductive LineSym where
  | sym (x : Sym)
  | raw (g : Nat)
  deriving DecidableEq, Repr

/-- State of one lane beside its registers (R113-R130). -/
structure Lane where
  /-- The pattern checker with its live counters, the generator's register, and whether LNK_INJ inverts its next bit (R123-R126). -/
  chk : Checker := {}
  gen : Nat := 0
  inject : Bool := false
  /-- Ticks in which the lane entered its state (R117), last left UP (R120), and in which its buffer last ran over or dry (R121). -/
  since : Nat := 0
  leftUp : Option Nat := none
  cut : Option Nat := none
  /-- Running disparity of the transmitter and of the receiver, true positive (R113-R115). -/
  txRd : Bool := false
  rxRd : Bool := false
  /-- What the transmitter still has to send; the second half of an idle pair is due; the code-groups of the last tick (R114). -/
  line : List LineSym := []
  half : Bool := false
  tx : List Nat := []
  /-- Received bits that commands have given ahead of the ticks in which they arrive (log entry 189). -/
  ahead : Nat := 0
  /-- Valid code-groups since the last run of four was counted, idle pairs on the found boundary, code-groups in the elastic buffer
  (R117, R118, R121). -/
  run : Nat := 0
  pairs : Nat := 0
  fill : Nat := 8
  /-- Running disparity after a K28.5 that may begin an idle pair; received bits short of a code-group; the last seven bits, under a leading
  1 (R117, R118). -/
  opened : Option Bool := none
  rest : List Bool := []
  win : Nat := 1
  /-- The second half of a received idle pair is due (log entry 189); the tick in which SIGDET or CDR_LOCK last changed (R131). -/
  inHalf : Bool := false
  signalAt : Nat := 0
  /-- LNK_TEST has been written in this tick: its value before, and the writer; the lane follows at the tick's end (R130). -/
  test : Option (Nat × Nat) := none
  deriving DecidableEq, Repr

/-- An accepted telemetry record (R149): its cell, cycle, lateness, arrival in ns after the boundary and 48 bytes. -/
structure TlmRec where
  cell : Nat
  cycle : Nat
  late : Bool
  ns : Nat
  relayed : Bool
  bytes : List Byte
  deriving DecidableEq, Repr

/-- State of one chain's head (R146-R150, R166). -/
structure Chain where
  /-- A valid peer beacon came in the current cycle, its stamp, and the run of cycles with one (R148, R166). -/
  peerSeen : Bool := false
  ownM : Nat := 0xFFFF
  peerRun : Nat := 0
  /-- Command frames that have not started, oldest first: the cycle each applies at and its bytes (R147). -/
  wait : List (Nat × List Byte) := []
  /-- The last beacon and the last command frame that the head has started. -/
  beacon : List Byte := []
  cmdFrame : List Byte := []
  deriving DecidableEq, Repr

/-- Telemetry and records over all chains (chapter 5). -/
structure Mby where
  chains : List Chain := List.replicate 12 {}
  /-- Records accepted in the current and the previous cycle, newest first. -/
  recs : List TlmRec := []
  /-- Own command records by cycle: cycle, cell, 32 bytes (R150), of the last two command frames. -/
  sent : List (Nat × Nat × List Byte) := []
  /-- On-time records latched at the last deadline (R149, R211). -/
  latched : List TlmRec := []
  /-- Deadlines DL_ENERGIZE, DL_FULL, DL_FAST in 2 ns units (R137). -/
  dlEnergize : Nat := 1750
  dlFull : Nat := 1750
  dlFast : Nat := 1750
  /-- The lane each auxiliary lane copies (R112). -/
  aux : List (Option Nat) := [none, none]
  /-- Current cycle's deadline has passed (R149). -/
  frozen : Bool := false
  deriving DecidableEq, Repr

/-- A correction that waits for the prediction still running at its deadline (R257, R260): bank and program, whether the entry list runs
first, the cycle whose measurements it takes, unit time of that cycle's boundary, and the deadline's tick. -/
structure CorrWait where
  bank : Nat
  prog : Nat
  entry : Bool
  cycle : Nat
  unit : Nat
  tick : Nat
  deriving DecidableEq, Repr

/-- State of the Kneader beside its registers (chapter 6). -/
structure Kne where
  /-- A start is due at the next boundary after this tick (R199). -/
  startDue : Bool := false
  startTick : Nat := 0
  corrWait : Option CorrWait := none
  /-- Tick in which the list that runs began, and how many of its micro-operations have been executed (R184). -/
  phaseStart : Nat := 0
  done : Nat := 0
  /-- The list that runs belongs to this bank and program (R201). -/
  bank : Nat := 0
  prog : Nat := 0
  /-- The entry list and the BIQ_RESET of a new program are due at the next deadline (R199, R201). -/
  entryDue : Bool := false
  resetDue : Bool := false
  /-- KNE_TAB_EN and KNE_BIQ_EN as the running correction sees them (R193). -/
  tabEn : Nat := 0xFFFF
  biqEn : Nat := 0xFFFFFF
  /-- The cycle whose measurements the last correction took, unit time of that cycle's boundary, whether the correction began in the tick after
  the deadline (R25, R184, R206), and whether the entry list runs before it (R199, R201). -/
  corrCycle : Nat := 0
  corrUnit : Nat := 0
  onTime : Bool := true
  entry : Bool := false
  /-- Vector file words that differ from +0 (R172); biquad states s1 of b at 2b and s2 at 2b + 1 (R174). -/
  vec : List (Nat × Word) := []
  biq : List (Nat × Word) := []
  /-- State-copy image (R186): the words in copy order. -/
  image : List Word := []
  /-- Consecutive substituted deadlines per measurement (R197). -/
  miss : List (Nat × Nat) := []
  /-- Saturated bits of the running correction, as a mask of U (R194). -/
  sat : Nat := 0
  /-- PERIOD and PRESENT of the four mode programs (R175). -/
  periods : List Nat := [0, 0, 0, 0]
  present : List Bool := [false, false, false, false]
  deriving DecidableEq, Repr

/-- Slow state of one cell (R231). -/
structure SlowCell where
  debt : Int := 0
  snap : Nat := 0
  slot : Nat := 0xFF
  snapValid : Bool := false
  deriving DecidableEq, Repr

/-- State of the modulator beside its registers (chapter 7). -/
structure ModSt where
  /-- Cycle-to-cycle state of R230; the LFSR is in MOD_LFSR, ROT_SEQ in MOD_ROT_STAT. -/
  rotEl : Nat := 0
  anglePrev : Word := 0
  carry : List Word := [0, 0, 0]
  /-- Slow state of R231 by cell. -/
  slow : List (Nat × SlowCell) := []
  /-- No run since the start of R233 (R220). -/
  fresh : Bool := true
  /-- Active cells of the last run, and at the last rotation event (R220, R223). -/
  lastAct : List Nat := []
  evtAct : List Nat := []
  /-- A run in progress: its input words, the tick it began in and the cycle its schedule applies at (R229). -/
  run : Option (List (Nat × Word) × Nat × Nat) := none
  /-- The telemetry set that fed the correction whose U the modulator processes (R211). -/
  fed : List TlmRec := []
  /-- Input words of the last run (MOD_IN_DATA). -/
  words : List (Nat × Word) := []
  /-- Open-loop angle θ (R227), binary32. -/
  theta : Word := 0
  /-- Records of the last schedule, by cell, and the cycle it applies at. -/
  recs : List (Nat × List Byte) := []
  recsCycle : Nat := 0
  /-- The schedule is built and its frames wait for their release (R147, R257); tick in which the last run ended. -/
  hold : Bool := false
  endTick : Nat := 0
  /-- Open-loop output and jog stopped by R43 until COMMISSION is left. -/
  commStop : Bool := false
  /-- A slow-state image from the LEAD that waits for adoption (R231). -/
  adopt : Option (List Byte) := none
  deriving DecidableEq, Repr
/-- One precision channel beside its registers (chapter 11). -/
structure AdcCh where
  /-- An output has completed since the last restart of the module. -/
  has : Bool := false
  /-- An open-wire test runs on the input; the settling after a test starts at the next output boundary (R323, R327). -/
  testing : Bool := false
  settleNext : Bool := false
  /-- Consecutive outputs beyond and inside the limit (R326). -/
  openRun : Nat := 0
  closedRun : Nat := 0
  /-- Instant in ns at which the next output of this channel's modulator completes (R317), and that of the last start of a settling count (R324). -/
  due : Nat := 0
  settledAt : Option Nat := none
  /-- Tick of the newest output and its offset in it, for the comparison of R321. -/
  outTick : Nat := 0
  outOff : Nat := 0
  deriving DecidableEq, Repr

/-- One metering phase: exact live accumulators in joules, and skipped intervals (R334). -/
structure Meter where
  pos : Fl := .fin false 0 0
  neg : Fl := .fin false 0 0
  gap : Nat := 0
  deriving DecidableEq, Repr

/-- State of the precision channels beside their registers. -/
structure Adc where
  ch : List AdcCh := List.replicate 16 {}
  meters : List Meter := [{}, {}, {}]
  /-- Channels whose decimators restart at the first cycle boundary after a write: the tick of the write, and its MASK (R317). -/
  resync : List (Nat × Nat) := []
  deriving DecidableEq, Repr

/-- State of the housekeeping converter beside its registers (R329-R333), and of the thermal judgement (R504). -/
structure Hk where
  running : Bool := false
  /-- Tick at which the running entry began; it is a restart after a preemption. -/
  start : Nat := 0
  restart : Bool := false
  /-- The running entry begins in this tick, unless an urgent request of the tick takes the converter first (R333). -/
  fresh : Bool := false
  /-- KIND and INDEX of the urgent request that waits or runs; the sequence's entry that it abandoned resumes. -/
  urgent : Option (Nat × Nat) := none
  resumeRestart : Bool := false
  /-- Newest VALID or CLIPPED temperature of each sensor, in 1/16 °C (R504). -/
  temps : List (Nat × Int) := []
  /-- Tick of the newest VALID or CLIPPED result of the MRAM die (R507). -/
  mramTick : Nat := 0
  deriving DecidableEq, Repr


/-- A Rise profile beside its registers (R418-R420). Times are on the clock Clk.mono, in units of 2^-32 ns. -/
structure Rise where
  /-- Instant of the start and of the running segment's start, moved by every pause; the instant of the pause; the time of earlier pauses of
  the run. -/
  t0 : Nat := 0
  tSeg : Nat := 0
  pausedAt : Option Nat := none
  heldFor : Nat := 0
  /-- Value the running segment starts from: a WORD, or binary32. -/
  start : Word := 0
  deriving DecidableEq, Repr

/-- The divider of an output (R412, R414): the unit time it counts from, and its phase there or at the start of the tick, in units of
1 / (160 × 2^57) of a VCO period; a phase below 0 is the wait for the first rising edge after a SYNC event. -/
structure OutDiv where
  start : Nat := 0
  phase : Int := 0
  deriving DecidableEq, Repr

/-- State of the clocks beside their registers (chapter 15). -/
structure Clk where
  /-- Time since power-on with the rate correction and without steps, in units of 2^-32 ns (R418). -/
  mono : Nat := 0
  /-- The system PLL is in holdover; it relocks; ticks of the last declared loss and of the start of relocking (R408, R409). -/
  sysHold : Bool := false
  relocking : Bool := false
  lossTick : Nat := 0
  goodTick : Nat := 0
  /-- REFCLK is absent: it holds boot (R406). -/
  refGone : Bool := false
  /-- The SYN's VCO runs. -/
  vcoOn : Bool := false
  /-- The tick the SYN's holdover began in, and the main die's temperature then; the servo's correction frozen in it; the error of the held VCO in this tick, in phase units for
  each 250 ps; WORD moves to the value due before SYN_HOLD clears (R416, R417). -/
  holdFrom : Nat := 0
  holdTemp : Option Int := none
  heldAdd : Int := 0
  heldErr : Int := 0
  reacq : Bool := false
  /-- WORD slews to BASE, and the part of a WORD step carried over, in units of 10^-7 (R411, R417). -/
  slewing : Bool := false
  slewRem : Nat := 0
  /-- Unit time of the last accepted SYNC event; the dividers of OUT0-OUT7 (R412-R415). -/
  syncAt : Option Nat := none
  outs : List OutDiv := List.replicate 8 {}
  /-- DUR and END of segment s of profile p at 16 p + s (R422). -/
  segs : List (Nat × Word) := List.replicate 64 (0, 0)
  rise : List Rise := [{}, {}, {}, {}]
  deriving DecidableEq, Repr

/-- Running measurement of one recorded signal (R398, R399); instants are exact fractions of a nanosecond. -/
structure RecMeas where
  nval : Nat := 0
  min : Fl := .zero
  max : Fl := .zero
  sum : Fl := .zero
  sq : Fl := .zero
  armed : Bool := false
  /-- Last sample below 0, and the sample after it: instant in ns and binary32. -/
  below : Option (Nat × Word) := none
  next : Option (Nat × Word) := none
  nc : Nat := 0
  first : Int × Nat := (0, 1)
  last : Int × Nat := (0, 1)
  deriving DecidableEq, Repr

/-- A trigger of the tick that runs (R394): its place in the order of sources, same-tick index, fault code, FSEQ, instant and mode. -/
structure RecTrig where
  src : Nat
  idx : Nat := 0
  code : Nat := 0xFF
  fseq : Nat := 0xFFFFFFFF
  sec : Nat
  ns : Nat
  sub : Nat
  mode : Nat
  deriving DecidableEq, Repr

/-- State of the recorder beside its registers (chapter 14). -/
structure Rec where
  /-- Frames captured since arming; the ordinal of the trigger frame; frames captured after it. -/
  j : Nat := 0
  trigJ : Nat := 0
  /-- The trigger of the record in POST, and its tick. -/
  trig : Option RecTrig := none
  trigTick : Nat := 0
  /-- Triggers of the tick that runs (R394). -/
  todo : List RecTrig := []
  nretrig : Nat := 0
  rt : Nat × Nat := (0, 0)
  /-- RSEQ of the next record, and of the record each segment holds. -/
  rseq : Nat := 0
  rseqs : List Nat := List.replicate 8 0
  meas : List RecMeas := []
  /-- Level of the TRIG_IN pin; another driver holds XTRIG low; tick in which the module's own pulse began and when it last released the line. -/
  pinIn : Bool := false
  extLow : Bool := false
  xtFrom : Nat := 0
  xtFreed : Option Nat := none
  deriving DecidableEq, Repr

/-- One switch of a leg as its segment sees it (chapter 10). -/
structure Switch where
  /-- Gate on; command given and dead time running; waiting beyond it for the other gate or for its own soft turn-off (R288, R291, R303). -/
  on : Bool := false
  pending : Bool := false
  waiting : Bool := false
  /-- Unit time at which the command began, and the dead time in ns that runs for it (R288, R292). -/
  cmdAt : Nat := 0
  dead : Nat := 200
  /-- Unit time of the last on-command and of the last turn-off at the gate (R291, R303-R305). -/
  onAt : Nat := 0
  offAt : Nat := 0
  /-- Gate sensed below +2.0 V for 20 ns (R291). -/
  low : Bool := true
  /-- A soft turn-off runs, and the time in ns that STOFF.T gave it at its start (R303). -/
  soft : Bool := false
  softFor : Nat := 0
  /-- The last turn-on edge and the last turn-off edge have still to be reported (R300). -/
  edgeOn : Bool := false
  edgeOff : Bool := false
  /-- The turn-on edge has crossed the window (R300, R306). -/
  measured : Bool := true
  /-- The last turn-off was soft; the edge, on or off, that ends an interval cut short and is not measured (R300). -/
  softOff : Bool := false
  cut : Option Bool := none
  /-- Tick since which the turn-on rail is within limits (R297, R310). -/
  railSince : Nat := 0
  deriving DecidableEq, Repr

/-- The segment of one half-bridge. -/
structure Leg where
  /-- Inputs at the driver (R288, R293): PULSE and EN, or HI and LO in direct mode. -/
  a : Bool := false
  b : Bool := false
  hi : Switch := {}
  lo : Switch := {}
  /-- Unit time of the last PULSE edge at the driver (R290). -/
  pulseAt : Nat := 0
  /-- Tick of the first write of DRIVE that has not transferred, and of the last one (R299). -/
  drive : Option Nat := none
  driveLast : Nat := 0
  /-- Both direct inputs high: neither switch turns on until one has returned to 0 (R294). -/
  conflict : Bool := false
  /-- Tick since which the link carries valid symbols (R310). -/
  linkSince : Nat := 0
  /-- Consecutive 1 ms windows above 2.5 W (R298). -/
  pwrRun : Nat := 0
  /-- FAST still applies, and consecutive edges at STEP_MAX, per live step: HS source, HS sink, LS source, LS sink (R301). -/
  fast : List Bool := [false, false, false, false]
  satRun : List Nat := [0, 0, 0, 0]
  /-- The last short-circuit trip: tick and high side (R307). -/
  trip : Option (Nat × Bool) := none
  /-- Switching-time history, newest first (R300). -/
  hist : List Word := []
  deriving DecidableEq, Repr

/-- State of the gate drive beside its registers (chapter 10). -/
structure Gdr where
  legs : List Leg := [{}, {}, {}, {}, {}, {}]
  /-- Consecutive windows with a total above 14 W (R298). -/
  totRun : Nat := 0
  /-- The history registers are frozen (R311). -/
  frozen : Bool := false
  deriving DecidableEq, Repr

/-- One half-bridge of the PWM (chapter 9). Times are in units of 250 ps. -/
structure PwmHb where
  /-- Level of the waveform stage, and the unit time before which its edges have formed (R271). -/
  raw : Bool := false
  formed : Nat := 0
  /-- PULSE after the minimum-pulse stage, and the unit time at which its last edge was issued (R278). -/
  pulse : Bool := false
  edgeAt : Nat := 0
  /-- A stretched interval (R278): its end, its level, and whether the edge that ends it has formed. -/
  hold : Option (Nat × Bool × Bool) := none
  /-- Since when PULSE after the mask is continuously high, a refresh pulse due at the next boundary, and the end of one that runs (R282). -/
  highSince : Option Nat := none
  refreshDue : Bool := false
  refreshEnd : Option Nat := none
  /-- The mask has forced PULSE or EN in this period, which CNT_MASK has counted (R286). -/
  masked : Bool := false
  /-- Kneader words held: the cycle at whose start they apply, and the word (R276). -/
  duty : List (Nat × Word) := []
  /-- The word whose cycle boundary has come and which has not transferred (R276). -/
  word : Option Word := none
  deriving DecidableEq, Repr

/-- One PWM group. -/
structure PwmGroup where
  run : Bool := false
  /-- Started, and waiting for the PWM clock, the cycle boundary or the SYN edge at which its counter begins (R277). -/
  waiting : Bool := false
  /-- AUTO start due at the first boundary after the one that began this cycle (R277). -/
  autoDue : Option Nat := none
  /-- Unit time at which the period that runs began. -/
  start : Nat := 0
  /-- Ticks of the first and of the last ARM that has not transferred (R274). -/
  armTick : Nat := 0
  armLast : Nat := 0
  /-- Outputs low until the next START (R283); low for a debug halt. -/
  forced : Bool := true
  haltForced : Bool := false
  /-- Mask: tick at which the current entry took effect, whether the index moved in it, and an entry that waits for the
  boundary (R281). -/
  entryTick : Nat := 0
  moved : Bool := false
  next : Option Nat := none
  /-- Unit times of the last SYN edge; Pm is in PWM_G1_SYNPER (R270). -/
  synEdge : Option Nat := none
  deriving DecidableEq, Repr

/-- State of the local PWM beside its registers. -/
structure Pwm where
  groups : List PwmGroup := [{}, {}]
  hb : List PwmHb := [{}, {}, {}, {}, {}, {}]
  deriving DecidableEq, Repr

/-- The safety island (chapter 13). Outputs are numbered 0 A, 1 B, 2 G, and masks carry one bit for each. Only the loss and return
of SAFE_24V resets it (R54). -/
structure Island where
  /-- SAFE_24V is present and the start-up self-test has passed. -/
  up : Bool := false
  /-- The registers of the island that the mirror frame carries, by their SAF address. -/
  live : List (Nat × Word) := []
  /-- Tick of the main domain at the island's last action, and at its last P cycle, which toggles the heartbeat (R364, R365). -/
  now : Nat := 0
  beat : Nat := 0
  /-- Terminal levels as the Peel path last saw them, and since which SAF_TIME the terminals of each input differ (R364, R367). -/
  peelTerms : Nat := 0
  discSince : List (Option Nat) := [none, none, none, none]
  /-- Terminal levels as last read; a filtered low was found in the previous P cycle (R365). -/
  terms : Nat := 0
  prevLow : Bool := false
  /-- Peel latches; outputs latched by an SI demand, and by a demand in safe data; P_DEM lines (R364, R383). -/
  peel : Nat := 7
  siLatch : Nat := 0
  sdLatch : Nat := 0
  pDem : Nat := 0
  /-- Channel P toggles the heartbeat; the Peel path has found it lost (R364, R365). -/
  heartbeat : Bool := false
  beatLost : Bool := false
  /-- Elements on in channel P and in the Peel path (R362). -/
  pOn : Nat := 0
  hOn : Nat := 0
  /-- 0 OFF, 1 CHECK, 2 ON, 3 TEST per output (R363); step of the pre-energise check and SAF_TIME of its start (R370). -/
  states : List Nat := [0, 0, 0]
  steps : List (Option (Nat × Nat)) := [none, none, none]
  /-- Tick at which the check of each output began, and at which the dark pulse began (R370, R372). -/
  stepTick : List Nat := [0, 0, 0]
  pulseTick : Nat := 0
  /-- Inputs with DISC latched whose terminals have been low together (R367). -/
  discLow : Nat := 0
  held : Option (List Byte) := none
  wait : Option (List Byte) := none
  /-- Safe data (R374-R376): last accepted SEQ, CMD of it, SEQs whose second copy is awaited (SEQ, port, bytes, RST edges, SAF_TIME), and the
  ports declared down. -/
  lastSeq : Option Nat := none
  cmd : Nat := 0
  second : List (Nat × Nat × List Byte × Nat × Nat) := []
  down : Nat := 0
  /-- Ports with SD_EN = 0, which count as down (R458). -/
  sdOff : Nat := 0
  downRun : Nat := 0
  goodRun : Nat := 0
  /-- SAF_TIME of invalid copies of the last second, by port. -/
  badAt : List (Nat × Nat) := []
  /-- Copies received since the last P cycle: port and bytes. -/
  rx : List (Nat × List Byte) := []
  /-- RST edges that ask for a restart in this P cycle. -/
  rst : Nat := 0
  /-- A SEQ was accepted since the last status SPDU; its own SEQ; the last status SPDU (R377). -/
  accepted : Bool := false
  seqOut : Nat := 0
  status : List Byte := []
  /-- Consecutive readback differences per output (R371). -/
  differ : List Nat := [0, 0, 0]
  /-- Dark test: the switch whose pulse runs and SAF_TIME of its start; those still to be tested and the time of the next (R372). -/
  pulse : Option (Nat × Nat) := none
  pulses : List Nat := []
  nextPulse : Nat := 0
  instant : Bool := false
  /-- Milliseconds since the last restart of G (R372). -/
  gMs : Nat := 0
  /-- Summary lines as the main domain last sampled them (R383): DEM_SI, SD_FAIL, P_DEM, TEST_FAIL. -/
  lines : Nat := 0
  deriving DecidableEq, Repr


/-- What leaves a port (R452): 0 status SPDU, 1 reply, 2 Uzopex response, 3 software frame; the bytes from the destination MAC on,
and for a software frame its FRAME_ID and TS_REQ. -/
structure EthOut where
  kind : Nat
  bytes : List Byte
  id : Nat := 0
  tsReq : Bool := false
  /-- Address of the descriptor of a software frame; none once a START has restarted its ring. -/
  desc : Option Nat := none
  deriving DecidableEq, Repr

/-- State of one Ethernet port beside its registers and its rings in shared core RAM (R449-R454). -/
structure Eth where
  /-- The frame on the line with the tick it started in, and those that wait: status SPDUs, replies, responses. -/
  cur : Option EthOut := none
  curTick : Nat := 0
  spdus : List EthOut := []
  replies : List EthOut := []
  responses : List EthOut := []
  /-- The last frame that left the port, with its FCS. -/
  sent : List Byte := []
  deriving DecidableEq, Repr

/-- A reassembly of a Uzopex command block (R456): its key, what it expects, the segments held, the tick of its first segment,
and its ports. -/
structure Reasm where
  fam : Nat
  addr : List Byte
  udp : Nat
  msgId : Nat
  nseg : Nat
  total : Nat
  segs : List (Nat × List Byte)
  tick : Nat
  port : Nat
  deriving DecidableEq, Repr

/-- State of one CAN controller beside its registers and buffers (R460-R470). -/
structure Can where
  /-- The buffer on the bus and the stamp of its SOF: seconds, nanoseconds, SUB. -/
  onBus : Option Nat := none
  sof : Nat × Nat × Nat := (0, 0, 0)
  /-- Unit time of that SOF, of the START, and of the last RECOVER (R468-R470). -/
  sofAt : Nat := 0
  startAt : Nat := 0
  recoverAt : Nat := 0
  /-- Words 0 and 2 that a buffer held before a write, with the tick of the write: they apply to the frame on the bus (R463). -/
  olds : List (Nat × Nat × Nat × Nat) := []
  /-- Buffers cancelled in this tick, and the tick (R468). -/
  canc : List Nat := []
  cancTick : Nat := 0
  /-- Buffers that wait on request of the matrix, and the column that runs (R466). -/
  matrix : List Nat := []
  col : Option Nat := none
  /-- Tick in which bus-off was entered (R469). -/
  boTick : Option Nat := none
  deriving DecidableEq, Repr

/-- What the partner's last valid STATUS said (R247). -/
structure PtnStatus where
  mode : Nat
  flags : Nat
  tmode : Nat
  reason : Nat
  tcycle : Nat
  role : Nat
  term : Nat
  deriving DecidableEq, Repr

/-- State of the pair beside its registers (chapter 8). -/
structure Ptn where
  /-- Highest term held or received (R239). -/
  storedTerm : Nat := 0
  /-- The term as the reserved journal range of R80 holds it, which obeys the MRAM write window; a reset finds it there (R239, R507). -/
  termMram : Nat := 0
  /-- Highest term received from the partner since reset (R240). -/
  highTerm : Option Nat := none
  yielded : Bool := false
  /-- PFLAGS of the own STATUS that no register shows (R247). -/
  stop : Bool := false
  resetReq : Bool := false
  gvReq : Bool := false
  gvDone : Bool := false
  /-- Frames that wait for a partner lane, oldest first: lane 0 or 1, and the bytes (R244). -/
  wait : List (Nat × List Byte) := []
  status : Option PtnStatus := none
  /-- MODE, TMODE and TCYCLE of the LEAD, from its last STATUS or copy (R51, R253). -/
  lead : Option (Nat × Nat × Nat) := none
  /-- The own HELLO has been sent since reset (R241); the partner's HELLO is incompatible. -/
  helloSent : Bool := false
  mismatch : Bool := false
  /-- Cycles since the end of boot without partner frame or beacon (R241); valid partner frame in this cycle, cycles without (R262). -/
  bootQuiet : Nat := 0
  rx : Bool := false
  silent : Nat := 0
  /-- Own image after the last correction (R245) and its cycle. -/
  image : List Byte := []
  imageCycle : Nat := 0
  /-- Segments of the copy that arrives: the cycle, index and bytes; the copy is complete or missed (R246). -/
  segs : List (Nat × Nat × List Byte) := []
  copyDone : Bool := false
  /-- Tick in which the copy's window opened, and the line time in ns of other frames on each partner lane since then (R246). -/
  copyStart : Nat := 0
  others : List Nat := [0, 0]
  /-- The check cycle holds frames and image back; tick in which its correction ended (R257). -/
  gvHeld : Bool := false
  gvTick : Nat := 0
  /-- Consecutive cycles with an equal copy (R255). -/
  equalRun : Nat := 0
  /-- The ACC_CRC test of R256 at the last deadline. -/
  accDis : Bool := false
  /-- Consecutive deadlines with records that name the other head with bit 2 set (R264), and with none that has bit 2 (R263). -/
  deposedRun : Nat := 0
  noneRun : Nat := 0
  /-- Relays sent in this cycle (R249). -/
  relays : Nat := 0
  /-- The owner's samples of this cycle: channel, value, STATUS (R251). -/
  samples : List (Nat × Nat × Nat) := []
  /-- Golden-vector check: due in the next correction (R257), own verdict, partner's verdict, pass as true. -/
  gvDue : Bool := false
  gvOwn : Option Bool := none
  gvPartner : Option Bool := none
  /-- Slow-state image under assembly from BULK frames: offset and bytes (R265). -/
  bulk : List (Nat × List Byte) := []
  deriving DecidableEq, Repr

/-- A transmit stamp of the queue of R441. -/
structure TxStamp where
  id : Nat
  sec : Nat
  ns : Nat
  sub : Nat
  deriving DecidableEq, Repr

/-- State of the time base beside its registers (chapter 16). -/
structure Tim where
  sec : Nat := 0
  ns : Nat := 0
  /-- Fraction of a nanosecond in units of 2^-32 (R425). -/
  frac : Nat := 0
  /-- Tick of the last cycle boundary, length in ticks of the cycle that runs, and the boundary's unit time (250 ps). -/
  cycleStart : Nat := 0
  cycleLen : Nat := 1250
  boundUnit : Nat := 0
  /-- What the time base read at the last boundary (R141, R390). -/
  boundSec : Nat := 0
  boundNs : Nat := 0
  /-- TIME_NS64 of the next boundary, its cycle number (R431, R432), the period of the grid it lies on, and a boundary that a step
  in its own tick overtook (R444). -/
  next : Nat := 0
  cycleNext : Nat := 0
  period : Nat := 1250
  owed : Bool := false
  /-- Tick of the last change of the time (R444). -/
  stepTick : Option Nat := none
  /-- Consecutive samples within and above LOCK_THR (R437), and the ticks of the last PTP and the last partner sample used (R438). -/
  within : Nat := 0
  above : Nat := 0
  sampleTick : Nat := 0
  partnerTick : Nat := 0
  /-- The median d of the last partner sample, in units of 0.125 ns (R436). -/
  theta : Int := 0
  /-- The time base as it was up to the end of a tick in which its time or its rate changed, the latest first: the tick, its total in ns and the
  fraction at the tick's start, and ADDEND. Stamps of earlier instants read it (R427, R440). -/
  past : List (Nat × Nat × Nat × Int) := []
  /-- Samples of the tick, which the servo takes at its end: θ, and whether it came from PTP (R437, R444). -/
  samples : List (Fl × Bool) := []
  /-- SEC latched for each reader: the HPI and C0-C3 (R428). -/
  latched : List Nat := [0, 0, 0, 0, 0]
  /-- Queues of transmit stamps, oldest first (R441). -/
  txq : List (List TxStamp) := [[], []]
  /-- Stamps of the tick that found the queue of their port full: a pop of the tick comes first (R444). -/
  txLate : List (Nat × TxStamp) := []
  /-- The target of a comparator had passed when it was armed, or was passed by a step (R442). -/
  late : List Bool := List.replicate 8 false
  deriving DecidableEq, Repr


/-- What a level-stack slot holds (R484). -/
structure IcuSlot where
  src : Nat
  pc : Word
  mstatus : Word
  priv : Nat
  level : Option Nat
  deriving DecidableEq, Repr

/-- One supervisor core (R475-R488). What its software computes between two commands comes as operands. -/
structure CoreSt where
  /-- Out of reset (R480), stopped by its shadow (R477), halted by debug (R492), asleep or waiting in WFI (R487). -/
  released : Bool := false
  stopped : Bool := false
  halted : Bool := false
  asleep : Bool := false
  waiting : Bool := false
  pc : Word := 0
  /-- 3 machine, 0 user (R475). -/
  priv : Nat := 3
  /-- Values of x1-x31, f0-f31 and CSRs that are known: those the model sets and those that debug reads or writes in a halt. mcycle and
  minstret stand under their own numbers, with the tick in which mcycle had that value (R475). -/
  x : List (Nat × Word) := []
  f : List (Nat × Word) := []
  csr : List (Nat × Word) := []
  cycAt : Nat := 0
  /-- Address that an LR of the program buffer has reserved (R475, R491). -/
  resv : Option Nat := none
  /-- Current level: none is the thread level (R483). -/
  level : Option Nat := none
  slots : List (Nat × IcuSlot) := []
  /-- Tick in which the entry or exit that runs began, and the source whose pending bit it cleared (R484, R485). -/
  entry : Option (Nat × Nat) := none
  exit : Option Nat := none
  /-- Tick that begins with pc, mstatus and privilege as they stand here: no instruction has run since the ICU set them (R485). -/
  known : Option Nat := none
  /-- Debug: halt cause for dcsr, resume acknowledged, reset since the debugger last acknowledged one, triggers tdata1, tdata2 (R491). -/
  haltCause : Nat := 0
  resumeAck : Bool := false
  haveReset : Bool := true
  trig : List (Nat × Word) := []
  deriving DecidableEq, Repr

/-- Debug module state (R490, R491; RISC-V External Debug Support 0.13.2). -/
structure Dm where
  active : Bool := false
  hartsel : Nat := 0
  /-- Harts with a halt request that has not been taken. -/
  req : Nat := 0
  data0 : Word := 0
  progbuf0 : Word := 0
  progbuf1 : Word := 0
  autoexec : Word := 0
  cmderr : Nat := 0
  sbcs : Word := 0x40000
  sbaddr : Word := 0
  sbdata : Word := 0
  /-- The command register, and the value the last DMI read returned. -/
  cmd : Word := 0
  out : Word := 0
  /-- The JTAG instruction, the address of the last DMI access, and what the last scan captured (R490). -/
  ir : Nat := 1
  last : Nat := 0
  cap : Nat := 0
  deriving DecidableEq, Repr

/-- What the ICU saves on entry into STANDBY (R489). -/
structure Retention where
  cfg : List Word
  pend : List Word
  act : List Word
  levels : List (Option Nat)
  slots : List (List (Nat × IcuSlot))
  deriving DecidableEq, Repr

/-- Cores, ICU, event counters and debug module (chapter 18). -/
structure Cores where
  core : List CoreSt := [{}, {}, {}, {}]
  /-- Interrupt sources that fired, and event sources that occurred, in the current tick (R481, R493). -/
  fired : List Nat := []
  evts : List Nat := []
  /-- Pending sources whose entry cannot begin yet, with the first tick in which it can: one tick after the event, two after a change of
  TARGET (R483, R484, R487). -/
  held : List (Nat × Nat) := []
  /-- Counts as they stood before a clear of this tick (R495). -/
  evcWas : List (Nat × Nat) := []
  /-- Event counters: 48-bit counts and the toggled gates of GATE 3 (R493, R494). -/
  evc : List Nat := List.replicate 32 0
  gate3 : List Bool := List.replicate 32 false
  ret : Option Retention := none
  /-- Deliveries that a write to ICU_SRCCFG came too late to prevent: target, source, PRIO, first and last tick of the entry (R486, R487). -/
  commits : List (Nat × Nat × Nat × Nat × Nat) := []
  /-- Level of COMM_IN (R494). -/
  comm : Bool := false
  dm : Dm := {}
  deriving DecidableEq, Repr


/-- The whole module: every piece of state the spec gives it, and the queue of waiting commands. -/
structure State where
  /-- Commands waiting, first in first out. -/
  pending : List Instr := []
  /-- The model's own counters: free values drawn (log entry 3) and event ticks run (log entry 1). -/
  freeCtr : Nat := 0
  tickNo : Nat := 0
  variant : Variant := .t
  fuses : Fuses := {}
  /-- Register values by byte address where they differ from reset; for RWB registers the shadow (R11). -/
  regs : List (Nat × Word) := []
  /-- Active values of RWB registers by byte address where they differ from reset (R11, R13). -/
  active : List (Nat × Word) := []
  /-- Memory bytes that differ from 0 (R35, R40, R460); TCM n lies at 0x10000000 + n × 0x40000. -/
  mem : List Host.Cell := []
  /-- Byte addresses of 64-bit words that hold an uncorrectable error (R36). -/
  eccBad : List Nat := []
  sys : Sys := {}
  tru : Tru := {}
  log : Log := {}
  flt : Flt := {}
  lanes : List Lane := List.replicate 16 {}
  mby : Mby := {}
  kne : Kne := {}
  mod : ModSt := {}
  ptn : Ptn := {}
  pwm : Pwm := {}
  gdr : Gdr := {}
  adc : Adc := {}
  hk : Hk := {}
  island : Island := {}
  recd : Rec := {}
  clk : Clk := {}
  tim : Tim := {}
  eth : List Eth := [{}, {}]
  /-- Reassemblies of both ports (R456). -/
  uz : List Reasm := []
  can : List Can := [{}, {}]
  cores : Cores := {}
  deriving DecidableEq, Repr

/-- The module right after power-on (R53, R54): every register at its reset value, memory with nothing listed,
internal state as its structures give it, and no command waiting. -/
def State.reset : State := {}

end Sys2Proof.Machine
end

