-- ==== Sys2Proof/Machine/Ops.lean ====
section
/-!
DEFINITION. The named operations over registers, memory, modes, time, free values, interrupts and event counters. Every
meaning goes through them.
-/
namespace Sys2Proof.Machine
namespace State

/-! ## Registers (R7, R11) -/

/-- What a register holds when nothing has changed it since reset. SYS_ID differs on the PVM144-H (R3). -/
def resetVal (s : State) (a : Nat) : Word :=
  if a = Reg.SYS_ID ∧ s.variant = .h then 0x01443260 else resetOf a

/-- The stored value of a register; for an RWB register the shadow. -/
def get (s : State) (a : Nat) : Word := Assoc.get (s.resetVal a) s.regs a

/-- The stored value as a number. -/
def getN (s : State) (a : Nat) : Nat := (s.get a).toNat

/-- The register with a new stored value. -/
def put (s : State) (a : Nat) (v : Word) : State := { s with regs := Assoc.set (s.resetVal a) s.regs a v }

def putN (s : State) (a n : Nat) : State := s.put a (BitVec.ofNat 32 n)

/-- A field of a register. -/
def fld (s : State) (a hi lo : Nat) : Nat := fieldOf (s.getN a) hi lo

def setFld (s : State) (a hi lo n : Nat) : State := s.putN a (putField (s.getN a) hi lo n)

/-- A bit of a register. -/
def flag (s : State) (a i : Nat) : Bool := bitAt (s.getN a) i

def setFlag (s : State) (a i : Nat) (b : Bool) : State := s.setFld a i i (b2n b)

/-- An event sets a sticky bit; a clear of the same tick leaves it (R12). -/
def stick (s : State) (a i : Nat) : State :=
  (s.setFlag a i true : State) |> fun t => { t with sys := { t.sys with setNow := (a, i) :: t.sys.setNow } }

/-- One more in a saturating counter field. -/
def incFld (s : State) (a hi lo : Nat) : State := s.setFld a hi lo (satInc (s.fld a hi lo) (2 ^ (hi + 1 - lo) - 1))

/-- One more in a saturating 32-bit counter register. -/
def inc (s : State) (a : Nat) : State := s.putN a (satInc (s.getN a) 0xFFFFFFFF)

/-- n more in a saturating field. -/
def addFld (s : State) (a hi lo n : Nat) : State := s.setFld a hi lo (min (s.fld a hi lo + n) (2 ^ (hi + 1 - lo) - 1))

/-- The active value of an RWB register (R11). -/
def act (s : State) (a : Nat) : Word := Assoc.get (s.resetVal a) s.active a

def actN (s : State) (a : Nat) : Nat := (s.act a).toNat

def actFld (s : State) (a hi lo : Nat) : Nat := fieldOf (s.actN a) hi lo

def actFlag (s : State) (a i : Nat) : Bool := bitAt (s.actN a) i

def putAct (s : State) (a : Nat) (v : Word) : State := { s with active := Assoc.set (s.resetVal a) s.active a v }

/-- The shadow as it stood at the start of the tick: a write of the tick of the boundary waits for the next one (R13). -/
def shadow (s : State) (a : Nat) : Word := (s.sys.wrote.lookup a).getD (s.get a)

/-- The boundary transfer of an RWB register: the shadow becomes active (R11, R13). -/
def transfer (s : State) (a : Nat) : State := s.putAct a (s.shadow a)

/-- A write of an RWB register lands in its shadow (R11, R13). -/
def putShadow (s : State) (a : Nat) (v : Word) : State :=
  let s := if s.sys.wrote.any (·.1 == a) then s else { s with sys := { s.sys with wrote := (a, s.get a) :: s.sys.wrote } }
  s.put a v

def transferAll (s : State) (as : List Nat) : State := as.foldl transfer s

/-- Words written at consecutive register addresses. -/
def putWords (s : State) (a : Nat) : List Nat → State
  | [] => s
  | n :: ns => (s.putN a n).putWords (a + 4) ns

/-- A byte string written to a register array, byte 0 in bits [7:0] of the first register (R109). -/
def putBytes (s : State) (a : Nat) : Nat → List Byte → State
  | 0, _ => s
  | k + 1, bs => (s.putN a (leNat (bs.take 4))).putBytes (a + 4) k (bs.drop 4)

/-- A register array read as a byte string of 4k bytes. -/
def getBytes (s : State) (a : Nat) : Nat → List Byte
  | 0 => []
  | k + 1 => leBytes 4 (s.getN a) ++ s.getBytes (a + 4) k

/-! ## Memory (R5, R35). TCM n lies at 0x10000000 + n × 0x40000 in the model's memory. -/

def tcmBase (n : Nat) : Nat := 0x10000000 + n * 0x40000

/-- One byte of memory; a byte that nothing has written reads 0 (log entry 2). -/
def byteAt (s : State) (a : Nat) : Byte := Assoc.get 0 s.mem a

def setByte (s : State) (a : Nat) (b : Byte) : State := { s with mem := Assoc.set 0 s.mem a b }

def bytesAt (s : State) (a n : Nat) : List Byte := (List.range n).map fun i => s.byteAt (a + i)

def setBytes (s : State) (a : Nat) : List Byte → State
  | [] => s
  | b :: bs => (s.setByte a b).setBytes (a + 1) bs

/-- The little-endian number of n bytes at a (R5). -/
def memN (s : State) (a n : Nat) : Nat := leNat (s.bytesAt a n)

/-- The bytes of [a, a + n) become 0: the entries of the range leave the list. -/
def zeroRange (s : State) (a n : Nat) : State := { s with mem := s.mem.filter fun c => !(decide (a ≤ c.1) && decide (c.1 < a + n)) }

/-- The n bytes from src copied to dst. -/
def copyRange (s : State) (src dst n : Nat) : State :=
  let cells := s.mem.filter fun c => decide (src ≤ c.1) && decide (c.1 < src + n)
  cells.foldr (fun c s => s.setByte (c.1 - src + dst) c.2) (s.zeroRange dst n)

/-- An uncorrectable word lies in [a, a + n) (R36). -/
def eccIn (s : State) (a n : Nat) : Bool := s.eccBad.any fun w => decide (w < a + n) && decide (a < w + 8)

/-! ## Free values (log entry 3) -/

/-- The next free value: nothing constrains it. -/
def free (s : State) : Word × State := (Config.freeValue s.freeCtr, { s with freeCtr := s.freeCtr + 1 })

/-! ## Modes (R41) -/

def STANDBY : Nat := 0
def SAFE : Nat := 1
def LOAD : Nat := 2
def COMMISSION : Nat := 3
def ENERGIZE : Nat := 4
def RUNFULL : Nat := 5
def RUNFAST : Nat := 6
def RIDETHROUGH : Nat := 7

/-- The current mode code (SYS_MODE.MODE). -/
def mode (s : State) : Nat := s.fld Reg.SYS_MODE 2 0

/-- ENERGIZE, RUN-FULL, RUN-FAST or RIDE-THROUGH. -/
def engineMode (m : Nat) : Bool := decide (4 ≤ m)

/-- RUN-FULL, RUN-FAST or RIDE-THROUGH. -/
def runMode (m : Nat) : Bool := decide (5 ≤ m)

/-- SAFE, LOAD or COMMISSION. -/
def idleMode (m : Nat) : Bool := decide (1 ≤ m) && decide (m ≤ 3)

/-- The module runs: it is neither in reset nor in boot. -/
def live (s : State) : Bool := s.sys.phase == .run

/-- The module runs and its blocks are clocked: not in STANDBY (R66). -/
def awake (s : State) : Bool := s.live && s.mode != STANDBY

/-- The program index of a mode (R175). -/
def progOf (m : Nat) : Nat := m - 4

/-- The apply latency of a mode in cycles (R25). -/
def latencyOf (m : Nat) : Nat := if m = RUNFAST ∨ m = RIDETHROUGH then 2 else 1

/-! ## Time -/

/-- The cycle number (TIM_CYCLE). -/
def cycle (s : State) : Nat := s.getN Reg.TIM_CYCLE

/-- The time base is valid (R426). -/
def timeValid (s : State) : Bool := s.flag Reg.TIM_STAT 0

/-- Nanoseconds from the start of the tick of the last cycle boundary to that of this tick. -/
def sinceBoundary (s : State) : Nat := (s.tickNo - s.tim.cycleStart) * 8

/-- The instant n nanoseconds after the last cycle boundary lies before the end of this tick. -/
def reached (s : State) (n : Nat) : Bool := decide (s.tim.boundUnit + 4 * n < 32 * (s.tickNo + 1))

/-- The deadline in force in ns after the boundary (LNK_DEADLINE, R137). -/
def deadlineNs (s : State) : Nat := s.fld Reg.LNK_DEADLINE 15 0 * 2

/-- At least n nanoseconds have passed since tick t. -/
def elapsed (s : State) (t n : Nat) : Bool := decide (n ≤ (s.tickNo - t) * 8)

/-! ## Event counters and interrupts -/

/-- An event source occurs in this tick (R493). -/
def evt (s : State) (src : Nat) : State :=
  if s.cores.evts.contains src then s else { s with cores := { s.cores with evts := src :: s.cores.evts } }

/-- The configuration byte of an interrupt source (R482). -/
def icuCfg (s : State) (src : Nat) : Nat := fieldOf (s.getN (Reg.ICU_SRCCFG (src / 4))) (8 * (src % 4) + 7) (8 * (src % 4))

def icuPending (s : State) (src : Nat) : Bool := s.flag (Reg.ICU_PEND (src / 32)) (src % 32)

def icuActive (s : State) (src : Nat) : Bool := s.flag (Reg.ICU_ACT (src / 32)) (src % 32)

/-- Number of pending sources, shown in ICU_STAT.NPEND (R496). -/
def icuCount (s : State) : State :=
  s.setFld Reg.ICU_STAT 8 0 (((List.range 10).map fun k => popCount 32 (s.getN (Reg.ICU_PEND k))).foldl (· + ·) 0)

def setPending (s : State) (src : Nat) (b : Bool) : State := (s.setFlag (Reg.ICU_PEND (src / 32)) (src % 32) b).icuCount

/-- The interrupt source fires: pending, lost or discarded (R481, R482). It fires once in a tick. -/
def irq (s : State) (src : Nat) : State :=
  if s.cores.fired.contains src || (decide (48 ≤ src) && decide (src ≤ 55)) then s
  else
    let s := { s with cores := { s.cores with fired := src :: s.cores.fired } }
    if !bitAt (s.icuCfg src) 4 then s
    else
      let entering := s.cores.core.any fun c => match c.entry with
        | some (t, i) => t == s.tickNo && i == src
        | none => false
      if s.icuPending src || s.icuActive src || entering then
        ((s.incFld Reg.ICU_LOST 15 0).setFld Reg.ICU_LOST 24 16 src).evt 0x060
      else
        let s := { s with cores := { s.cores with held := (src, s.tickNo + 1) :: s.cores.held } }
        s.setPending src true

/-- A sticky event bit set; the interrupt source of the register fires when the bit changes from 0 to 1 (R481). -/
def setEvt (s : State) (a i irqSrc : Nat) : State :=
  if s.flag a i then s.stick a i else (s.stick a i).irq irqSrc

/-- The time stamp of the current tick, taken at its start (R34): nanoseconds and seconds [31:0]. -/
def nowNs (s : State) : Nat := s.sys.tickNs
def nowSec (s : State) : Nat := s.sys.tickSec % 2 ^ 32

/-- The state as steps 1 to 9 of R90 judge it: modes, roles, outputs and running blocks as at the start of the tick. -/
def opening (s : State) : State :=
  { s with regs := s.sys.tickRegs,
           pwm := { s.pwm with groups := (s.pwm.groups.zip s.sys.tickRun).map fun x => { x.1 with run := x.2 } } }

/-- The journal at the top of the parameter store takes an entry (R80, R107). Its bytes are the spec's to give, and it gives none: each of
its 1,024 words reads as the next free value (log entry 175). -/
def journalWrite (s : State) : State := { s with freeCtr := s.freeCtr + 1024, log := { s.log with journal := some s.freeCtr } }

/-- A byte of memory as a bus reads it: the journal's bytes are free values. -/
def busByte (s : State) (a : Nat) : Byte :=
  match s.log.journal with
  | some j => if 0x017FF000 ≤ a ∧ a < 0x01800000 then BitVec.ofNat 8 ((Config.freeValue (j + (a - 0x017FF000) / 4)).toNat / 256 ^ (a % 4)) else s.byteAt a
  | none => s.byteAt a

/-- The little-endian number that a bus read of n bytes at a gives. -/
def busN (s : State) (a n : Nat) : Nat := leNat ((List.range n).map fun i => s.busByte (a + i))

/-- The core with index n. -/
def coreSt (s : State) (n : Nat) : CoreSt := s.cores.core.getD n {}

def setCore (s : State) (n : Nat) (f : CoreSt → CoreSt) : State :=
  { s with cores := { s.cores with core := modNth f n s.cores.core } }

end State

end Sys2Proof.Machine
end

