-- ==== Sys2Proof/Machine/Crust.lean ====
section
/-!
DEFINITION. The Crust log (R102-R107) and the refused-write status SYS_WERR (R10, R11, R69, R536).
-/
namespace Sys2Proof.Machine
namespace State

/-- What a record says beside its number, stamp and link (R102, R103). -/
structure LogEntry where
  type : Nat
  code : Nat := 0
  result : Nat := 0
  reason : Nat := 0
  keyid : Nat := 0
  counter : Nat := 0
  detail : List Byte := []

/-- The MRAM write window is closed (R106, R507). -/
def windowClosed (s : State) : Bool := s.flag Reg.LOG_STAT 0

/-- MRAM cannot be written: the window is closed, or writes are barred until power-on reset (R507, R509). -/
def mramBarred (s : State) : Bool := s.windowClosed || s.flag Reg.SYS_MRAM_STAT 28

/-- The 64 bytes of the next record (R102, R104): its LINK is the head's left 16 bytes, which are 0 for SEQ 0. -/
def logBytes (s : State) (e : LogEntry) (held : Bool) : List Byte :=
  let seq := s.getN Reg.LOG_SEQ
  let link := if seq = 0 then List.replicate 16 0 else (s.getBytes (Reg.LOG_HEAD 0) 8).take 16
  leBytes 4 seq ++ leBytes 2 e.type ++ leBytes 1 s.sys.tickIdx ++ leBytes 1 (b2n s.timeValid + 2 * b2n held)
    ++ leBytes 8 (s.sys.tickSec % 2 ^ 48) ++ leBytes 4 s.nowNs ++ leBytes 4 e.keyid ++ leBytes 8 e.counter
    ++ leBytes 2 e.code ++ leBytes 1 e.result ++ leBytes 1 e.reason
    ++ (e.detail ++ List.replicate (12 - e.detail.length) 0).take 12 ++ link

/-- Address of the slot of a record (R105). -/
def logSlot (seq : Nat) : Nat := 0x01600000 + seq % 16384 * 64

/-- A record goes through the journal into its slot in MRAM (R105, R107). Writing it takes at most 2 µs after the one before it; until then a
reset can still stop it (State.interruptLog). -/
def logPlace (s : State) (rec64 : List Byte) : State :=
  let seq := leAt rec64 0 4
  let w := s.log.writing.filter fun x => decide (s.tickNo < x.done)
  let start := match w.getLast? with | some x => x.done | none => s.tickNo
  let s := s.journalWrite
  let s := { s with log := { s.log with writing := w ++ [({ seq, old := s.bytesAt (logSlot seq) 64, done := start + 250 } : LogWrite)] } }
  s.setBytes (logSlot seq) rec64

/-- The head, the next SEQ, the oldest SEQ and the overwrite rounds after a record is formed (R104, R105). A held record counts as written
here: LOG_OLDEST and WRAPS move when it is formed, before its slot is overwritten (the model's choice, log entry 176). -/
def logAdvance (s : State) (rec64 : List Byte) : State :=
  let seq := s.getN Reg.LOG_SEQ
  let s := s.putBytes (Reg.LOG_HEAD 0) 8 (sha256 rec64)
  let s := s.putN Reg.LOG_SEQ (seq + 1)
  let s := if 16384 ≤ seq then s.putN Reg.LOG_OLDEST (seq + 1 - 16384) else s
  if 16384 ≤ seq ∧ seq % 16384 = 0 then s.incFld Reg.LOG_STAT 31 16 else s

/-- A record is formed and written, or held in SRAM while the window is closed, or dropped beyond 64 (R102, R106). -/
def logRecord (s : State) (e : LogEntry) : State :=
  if s.mramBarred then
    if s.log.held.length < 64 then
      let r := s.logBytes e true
      let s := s.logAdvance r
      let s := { s with log := { s.log with held := s.log.held ++ [r] } }
      s.setFld Reg.LOG_STAT 14 8 s.log.held.length
    else
      let s := s.inc Reg.LOG_GAPS
      { s with log := { s.log with dropped := s.log.dropped + 1 } }
  else
    let r := s.logBytes e false
    (s.logPlace r).logAdvance r

/-- The window reopens: held records are written in order, then one GAP record if any was dropped (R106); a counter held in
SRAM is written (R88), and the highest term (R239); the next step of a promotion begins (R80). -/
def windowReopen (s : State) : State :=
  let s := s.setFlag Reg.LOG_STAT 0 false
  if s.mramBarred then s
  else
    let s := s.log.held.foldl logPlace s
    let d := s.log.dropped
    let s := ({ s with log := { s.log with held := [], dropped := 0 }, ptn := { s.ptn with termMram := s.ptn.storedTerm },
                       tru := { s.tru with ctrMram := s.tru.ctr, copying := s.tru.promote.isSome } } : State).journalWrite
    let s := (s.setFld Reg.LOG_STAT 14 8 0).setFlag Reg.TRU_STAT 29 false
    if d = 0 then s else s.logRecord { type := 0x000A, detail := leBytes 4 d }

/-- A reset or THERM_DIE in the middle of writing records (R60, R107, R509). How far the write has come is free: some records at the front
are complete; of the next one the journal entry bears its mark, so that the Starter completes it, or does not, so that its slot keeps its
old contents, and with them the counter of its command; those behind it are lost. A write so stopped is counted. -/
def interruptLog (s : State) : State :=
  let w := s.log.writing.filter fun x => decide (s.tickNo < x.done)
  match w with
  | [] => { s with log := { s.log with writing := [] } }
  | _ =>
    let (x, s) := s.free
    let complete := x.toNat / 2 % (w.length + 1)
    let stopped := decide (complete < w.length)
    let mark := x.getLsbD 0
    let kept := complete + b2n (mark && stopped)
    let lost := w.drop kept
    let s := lost.reverse.foldl (fun s y => s.setBytes (logSlot y.seq) (y.old.take 64)) s
    let ctr := (lost.filterMap fun y => y.ctr).head?
    let s := if stopped then s.incFld Reg.SYS_MRAM_STAT 15 0 else s
    { s with log := { s.log with writing := [], lostFrom := lost.head?.map fun y => y.seq,
                                 openEntry := if stopped then some mark else s.log.openEntry },
             tru := { s.tru with ctrMram := ctr.getD s.tru.ctrMram } }

/-- A reset in the middle of writing the run of a COMMIT (R60, R96, R509). Whether the journal entry bears its mark by then is free: with it
the Starter completes the commit, without it the commit has taken no effect. A write so stopped is counted; a run that waits behind a record
in the journal has not begun. -/
def interruptRun (s : State) : State :=
  if !s.tru.runOn then s
  else
    let (x, s) := s.free
    let begun := s.log.openEntry.isNone
    let s := if begun then s.incFld Reg.SYS_MRAM_STAT 15 0 else s
    { s with tru := { s.tru with runOn := false }, log := { s.log with openRun := if begun && x.getLsbD 0 then s.tru.queue.head? else none } }

/-- Records that the log in MRAM holds after what is on its way has been stopped: the next SEQ (R509). -/
def logNext (s : State) : Nat := match s.log.lostFrom with
  | some d => d
  | none => s.getN Reg.LOG_SEQ - s.log.held.length

/-- Every record on its way is complete (R60, R96: a command that ends with its record written). -/
def logSettled (s : State) : State := { s with log := { s.log with writing := [] } }

/-- The record just written carries the stored counter: it held old before (R88). -/
def logCarries (s : State) (old : Nat) : State :=
  if s.mramBarred then s
  else { s with log := { s.log with writing := modNth (fun x => { x with ctr := some (x.ctr.getD old) }) (s.log.writing.length - 1) s.log.writing } }

/-- A MODE record (R103). -/
def logMode (s : State) (old new result reason keyid counter cyc : Nat) : State :=
  s.logRecord { type := 0x0002, code := old * 16 + new, result, reason, keyid, counter, detail := leBytes 4 cyc }

end State

/-- SRC code of a writer in SYS_WERR and in the records (0 HPI, 1-4 C0-C3). -/
def srcCode : Src → Nat
  | .hpi => 0
  | .core n => n.val + 1

namespace State

/-- A refused or discarded write is counted in SYS_WERR (R69): source, kind, address. -/
def werr (s : State) (src kind addr : Nat) : State :=
  let s := s.stick Reg.SYS_WERR 31
  let s := (s.setFld Reg.SYS_WERR 30 28 src).setFld Reg.SYS_WERR 27 24 kind
  (s.incFld Reg.SYS_WERR 15 0).putN Reg.SYS_WERR_ADDR addr

/-- A REFUSED_WRITE record (R103): byte address and source; REASON LOCKED or VALUE. -/
def logRefused (s : State) (src reason addr : Nat) : State :=
  s.logRecord { type := 0x0004, result := 1, reason, detail := leBytes 4 addr ++ leBytes 1 src }

/-- A write whose value a field table refuses (R536). -/
def refuseValue (s : State) (src addr : Nat) : State := (s.werr src 8 addr).logRefused src 0x0D addr

/-- A write to an RWL register while its block runs (R11). -/
def refuseLocked (s : State) (src addr : Nat) : State := (s.werr src 1 addr).logRefused src 0x0C addr

/-- A register entry lands in a stage (R92, R93). -/
def stageReg (s : State) (k addr : Nat) (v : Word) : State :=
  let st := s.tru.stages.getD k {}
  if st.entries.length < 1024 then
    let s := { s with tru := { s.tru with stages := modNth (fun g => { g with entries := g.entries ++ [(addr, v)] }) k s.tru.stages } }
    s.setFld (Reg.TRU_STG_STAT k) 10 0 (st.entries.length + 1)
  else
    let s := { s with tru := { s.tru with stages := modNth (fun g => { g with ovf := true }) k s.tru.stages } }
    s.setFlag (Reg.TRU_STG_STAT k) 16 true

/-- A stage is emptied (R97). -/
def stageClear (s : State) (k : Nat) : State :=
  let s := { s with tru := { s.tru with stages := modNth (fun _ => {}) k s.tru.stages } }
  (s.putN (Reg.TRU_STG_STAT k) 0).putN (Reg.TRU_STG_MLEN k) 0

/-- A control write to a register that is not free (R92): from the HPI it lands in the stage, from a core it acts. -/
def control (s : State) (src : Src) (addr : Nat) (v : Word) (actNow : State → State) : State :=
  match src with
  | .hpi => s.stageReg 0 addr v
  | .core _ => actNow s

end State
end Sys2Proof.Machine
end

