-- ==== Sys2Proof/Machine/Operands.lean ====
section
/-!
DEFINITION. What an operand names: chains, cells and phases of the topology map (R18, R19, R136), lanes, half-bridges, and the
roles of the pin-function section (R22).
-/
namespace Sys2Proof.Machine
namespace State

/-- Chains the part has (R1). -/
def numChains (s : State) : Nat := if s.variant = .h then 6 else 12

/-- Lane n is fused off (R2). -/
def laneAbsent (s : State) (n : Nat) : Bool := s.variant == .h && decide (6 ≤ n) && decide (n ≤ 11)

def chainUsed (s : State) (c : Nat) : Bool := s.flag (Reg.LNK_CH_CFG c) 8
def chainCells (s : State) (c : Nat) : Nat := if s.chainUsed c then s.fld (Reg.LNK_CH_CFG c) 7 4 else 0
def chainPhase (s : State) (c : Nat) : Nat := s.fld (Reg.LNK_CH_CFG c) 1 0
def chainLoop (s : State) (c : Nat) : Bool := s.flag (Reg.LNK_CH_CFG c) 9

/-- The used chains, rising. -/
def usedChains (s : State) : List Nat := (List.range 12).filter s.chainUsed

/-- The identifier names a cell of the topology map (R19). -/
def cellExists (s : State) (id : Nat) : Bool := decide (id < 144) && decide (id % 12 < s.chainCells (id / 12))

/-- Cells of a chain, and of a phase, in identifier order. -/
def cellsOfChain (s : State) (c : Nat) : List Nat := (List.range (s.chainCells c)).map fun p => c * 12 + p
def cells (s : State) : List Nat := s.usedChains.flatMap s.cellsOfChain
def cellsOfPhase (s : State) (p : Nat) : List Nat := (s.usedChains.filter fun c => s.chainPhase c == p).flatMap s.cellsOfChain

def laneState (s : State) (n : Nat) : Nat := s.fld (Reg.LNK_STAT n) 3 0
def laneUp (s : State) (n : Nat) : Bool := s.laneState n == 5

/-- A partner is declared (PTN_CFG.PAIRED). -/
def paired (s : State) : Bool := s.flag Reg.PTN_CFG 8

/-- The newest record of a cell in the cycle given, if one is held. -/
def recOf (s : State) (cell cyc : Nat) : Option TlmRec := s.mby.recs.find? fun r => r.cell == cell && r.cycle == cyc

/-- The on-time record of a cell latched at the last deadline (R149, R211). -/
def latchedOf (s : State) (cell : Nat) : Option TlmRec := s.mby.latched.find? fun r => r.cell == cell

/-- MODE of the pair of channel c (R319). -/
def pairMode (s : State) (c : Nat) : Nat := s.fld Reg.ADC_PAIR_CFG (2 * (c / 2) + 1) (2 * (c / 2))

/-- The odd channel of an INTERLEAVED pair delivers nothing (R320). -/
def pairedOdd (s : State) (c : Nat) : Bool := s.pairMode c == 1 && c % 2 == 1

end State

/-! Fields of a telemetry record (R144, R145). -/

def TlmRec.fault (r : TlmRec) : Nat := leAt r.bytes 1 1
def TlmRec.status (r : TlmRec) : Nat := leAt r.bytes 2 2
def TlmRec.vcap (r : TlmRec) : Fl := Fl.of32 (leAt r.bytes 4 4)
def TlmRec.vsec (r : TlmRec) : Fl := Fl.of32 (leAt r.bytes 8 4)
def TlmRec.iarm (r : TlmRec) : Fl := Fl.of32 (leAt r.bytes 12 4)
def TlmRec.idab (r : TlmRec) : Fl := Fl.of32 (leAt r.bytes 16 4)
/-- A measured field by SUB (R182): VCAP, VSEC, IARM, IDAB, or THS in °C. -/
def TlmRec.word (r : TlmRec) (sub : Nat) : Word :=
  if sub < 4 then BitVec.ofNat 32 (leAt r.bytes (4 + 4 * sub) 4)
  else BitVec.ofNat 32 (Fl.to32 (Fl.ofDyadic (signed 16 (leAt r.bytes 20 2)) (-4)))
def TlmRec.ths (r : TlmRec) : Int := signed 16 (leAt r.bytes 20 2)
def TlmRec.accSeq (r : TlmRec) : Nat := leAt r.bytes 22 2
def TlmRec.esw (r : TlmRec) : Nat := leAt r.bytes 24 4
def TlmRec.accCrc (r : TlmRec) : Nat := leAt r.bytes 28 4
def TlmRec.accTerm (r : TlmRec) : Nat := leAt r.bytes 34 2
def TlmRec.accSrc (r : TlmRec) : Nat := leAt r.bytes 36 1
def TlmRec.modeNow (r : TlmRec) : Nat := leAt r.bytes 2 1 % 4

end Sys2Proof.Machine
end

