-- ==== Sys2Proof/Machine/Raise.lean ====
section
/-!
DEFINITION. Raising a fault source (R344). The blocks mark a condition here; the fault manager takes the actions of every raise
at the end of the event (Machine/Manager.lean), in the same tick.
-/
namespace Sys2Proof.Machine
namespace State

/-- The source's condition as it stands now (FLT_ACTIVEk). -/
def condition (s : State) (code : Nat) : Bool := s.flag (Reg.FLT_ACTIVE (code / 32)) (code % 32)

/-- A raise that waits for its actions. -/
def raise (s : State) (q : FltReq) : State := { s with flt := { s.flt with todo := s.flt.todo ++ [q] } }

/-- The condition of a source is present for the tick that runs (R345). -/
def mark (s : State) (code : Nat) : State :=
  if s.condition code then s
  else
    let s := s.setFlag (Reg.FLT_ACTIVE (code / 32)) (code % 32) true
    { s with flt := { s.flt with marked := code :: s.flt.marked } }

/-- An event whose source is present for its tick only; a second event of the tick finds it present and raises nothing (R344). -/
def pulse (s : State) (code : Nat) (item : Nat := 0xFFFF) (value : Nat := 0) : State :=
  if s.condition code then s else (s.mark code).raise { code, item, value }

/-- The condition of a source as just evaluated: it is raised when it changes from absent to present. -/
def setCond (s : State) (code : Nat) (present : Bool) (item : Nat := 0xFFFF) (value : Nat := 0) : State :=
  if s.condition code = present then s
  else
    let s := s.setFlag (Reg.FLT_ACTIVE (code / 32)) (code % 32) present
    if present then s.raise { code, item, value } else s

/-- The tick is over: what lasted for it is absent again (R345). -/
def unmark (s : State) : State :=
  let t := s.flt.marked.foldl (fun t c => t.setFlag (Reg.FLT_ACTIVE (c / 32)) (c % 32) false) s
  { t with flt := { t.flt with marked := [] } }

end State
end Sys2Proof.Machine
end

