-- ==== Sys2Proof/Machine/Kneader.lean ====
section
/-!
DEFINITION. The Kneader (chapter 6): banks, descriptors, micro-operations and their arithmetic, the bank check of R204, and
the lists of a cycle with the time they take.
-/
namespace Sys2Proof.Machine

/-- A mode program descriptor (R177). -/
structure KneDesc where
  n : Nat
  m : Nat
  p : Nat
  nr : Nat
  entryOff : Nat
  predOff : Nat
  corrOff : Nat
  ymapOff : Nat
  umapOff : Nat
  persistOff : Nat
  persistCnt : Nat
  dflags : Nat
  missLimit : Nat
  biqReset : Nat
  rest : List Byte

/-- A micro-operation (R178). -/
structure MicroOp where
  op : Nat
  flags : Nat
  dst : Nat
  src : Nat
  aux : Nat
  coef : Nat
  rows : Nat
  cols : Nat

/-- A measurement-map or output-map entry (R182, R183). -/
structure MapEnt where
  kind : Nat
  sub : Nat
  index : Nat

/-- ⌈n / 256⌉. -/
def ceil256 (n : Nat) : Nat := (n + 255) / 256

/-- The cost of a micro-operation in KNE clocks (R179). -/
def MicroOp.cost (o : MicroOp) : Nat :=
  match o.op with
  | 1 => ceil256 (o.rows * o.cols)
  | 2 => ceil256 o.rows
  | 3 => ceil256 o.rows
  | 4 => ceil256 o.rows
  | 5 => ceil256 o.rows
  | 6 => ceil256 o.rows
  | 7 => 3
  | 8 => 4
  | 9 => ceil256 o.rows + 1
  | _ => 0

/-- The time of a list in KNE clocks of 4 ns (R184). -/
def listCost (l : List MicroOp) : Nat := l.foldl (fun c o => c + o.cost) 0

/-- Words of coefficients a micro-operation reads at COEF. -/
def MicroOp.coefWords (o : MicroOp) : Nat :=
  match o.op with
  | 1 => o.rows * o.cols
  | 4 => o.rows
  | 7 => o.rows * o.cols
  | 8 => 5
  | 9 => 2 * o.rows
  | _ => 0

/-- Source ranges (start, length) of a micro-operation. -/
def MicroOp.reads (o : MicroOp) : List (Nat × Nat) :=
  match o.op with
  | 1 => (o.src, o.cols) :: (if bitAt o.flags 0 then [(o.aux, o.rows)] else [])
  | 2 => [(o.src, o.rows), (o.aux, o.rows)]
  | 3 => [(o.src, o.rows), (o.aux, o.rows)]
  | 4 => [(o.src, o.rows), (o.aux, o.rows)]
  | 5 => [(o.src, o.rows)]
  | 7 => [(o.src, 1), (o.dst, o.rows)]
  | 8 => [(o.src, 1)]
  | 9 => [(o.src, o.rows)]
  | _ => []

/-- Destination ranges of a micro-operation. -/
def MicroOp.writes (o : MicroOp) : List (Nat × Nat) :=
  match o.op with
  | 0 => []
  | 8 => [(o.dst, 1)]
  | 9 => (o.dst, o.rows) :: (if bitAt o.flags 0 then [(o.aux, o.rows)] else [])
  | _ => [(o.dst, o.rows)]

def rangesMeet (a b : Nat × Nat) : Bool := decide (a.1 < b.1 + b.2) && decide (b.1 < a.1 + a.2)
def rangeIn (a : Nat × Nat) (lo hi : Nat) : Bool := decide (lo ≤ a.1) && decide (a.1 + a.2 ≤ hi)

namespace State

def bankBase (b : Nat) : Nat := 0x00100000 + b * 0x00200000

/-- The active coefficient bank (KNE_STAT.BANK). -/
def activeBank (s : State) : Nat := s.fld Reg.KNE_STAT 1 1

def kneRunning (s : State) : Bool := s.flag Reg.KNE_STAT 0
def knePhase (s : State) : Nat := s.fld Reg.KNE_STAT 7 6

def kneDesc (s : State) (b i : Nat) : KneDesc :=
  let d := s.bytesAt (bankBase b + 0x40 + 64 * i) 64
  { n := leAt d 0 2, m := leAt d 2 2, p := leAt d 4 2, nr := leAt d 6 2, entryOff := leAt d 8 4, predOff := leAt d 12 4,
    corrOff := leAt d 16 4, ymapOff := leAt d 20 4, umapOff := leAt d 24 4, persistOff := leAt d 28 4,
    persistCnt := leAt d 32 1, dflags := leAt d 33 1, missLimit := leAt d 34 2, biqReset := leAt d 36 4,
    rest := slice d 40 24 }

def microOp (s : State) (b off : Nat) : MicroOp :=
  let d := s.bytesAt (bankBase b + off) 16
  { op := leAt d 0 1, flags := leAt d 1 1, dst := leAt d 2 2, src := leAt d 4 2, aux := leAt d 6 2, coef := leAt d 8 4,
    rows := leAt d 12 2, cols := leAt d 14 2 }

/-- The micro-operations of a list up to its END; none where no END comes within the fuel (R178). -/
def listFrom (s : State) (b : Nat) : Nat → Nat → Option (List MicroOp)
  | 0, _ => none
  | k + 1, off =>
    let o := s.microOp b off
    if o.op = 0 then some [] else (s.listFrom b k (off + 16)).map (o :: ·)

/-- A list of at most 256 micro-operations; an absent list is empty. -/
def kneList (s : State) (b off : Nat) : List MicroOp := if off = 0 then [] else (s.listFrom b 257 off).getD []

def mapEnt (s : State) (b off i : Nat) : MapEnt :=
  let d := s.bytesAt (bankBase b + off + 4 * i) 4
  { kind := leAt d 0 1, sub := leAt d 1 1, index := leAt d 2 2 }

def ymap (s : State) (b : Nat) (d : KneDesc) : List MapEnt := (List.range d.m).map (s.mapEnt b d.ymapOff)
def umap (s : State) (b : Nat) (d : KneDesc) : List MapEnt := (List.range d.p).map (s.mapEnt b d.umapOff)

/-- Persist ranges (START, LEN) (R177). -/
def persist (s : State) (b : Nat) (d : KneDesc) : List (Nat × Nat) :=
  (List.range d.persistCnt).map fun i => (s.memN (bankBase b + d.persistOff + 4 * i) 2, s.memN (bankBase b + d.persistOff + 4 * i + 2) 2)

/-- Biquads a program uses, in ascending order (R181, R186, R245). -/
def biqUsed (s : State) (b : Nat) (d : KneDesc) : List Nat :=
  sortBy (fun x y => decide (x < y)) (((s.kneList b d.entryOff ++ s.kneList b d.corrOff).filter (·.op == 8)).map (·.flags % 32))

/-! ## The vector file (R172) and the execution of micro-operations (R179, R187-R195) -/

def vec (s : State) (i : Nat) : Word := if i < 4096 then Assoc.get 0 s.kne.vec i else 0
def vecF (s : State) (i : Nat) : Fl := Fl.of32 (s.vec i).toNat
def setVec (s : State) (i : Nat) (v : Word) : State :=
  if i < 4096 then { s with kne := { s.kne with vec := Assoc.set 0 s.kne.vec i v } } else s
def biqSt (s : State) (i : Nat) : Word := Assoc.get 0 s.kne.biq i
def setBiq (s : State) (i : Nat) (v : Word) : State := { s with kne := { s.kne with biq := Assoc.set 0 s.kne.biq i v } }

/-- Coefficient word k of the block at COEF. -/
def coef (s : State) (b off k : Nat) : Fl := Fl.of32 (s.memN (bankBase b + off + 4 * k) 4)

def f32w (x : Fl) : Word := BitVec.ofNat 32 (Fl.to32 x)

/-- One MAC row in the extended accumulator (R187). -/
def macRow (s : State) (b off i cols src : Nat) (init : Fl) : Fl :=
  (List.range cols).foldl (fun acc j => Fl.roundExt (Fl.add acc (Fl.mul (s.coef b off (i * cols + j)) (s.vecF (src + j))))) init

/-- The larger and the smaller of two, -0 below +0 (IEEE 754-2019, R189). -/
def maxF (a b : Fl) : Fl := if Fl.isZero a && Fl.isZero b then (if a.isNeg then b else a) else Fl.max2 a b
def minF (a b : Fl) : Fl := if Fl.isZero a && Fl.isZero b then (if a.isNeg then a else b) else Fl.min2 a b

/-- The clamp of one element (R194): the value with a NaN read as +0, and the result. -/
def clampEl (s : State) (b : Nat) (o : MicroOp) (i : Nat) : Fl × Fl :=
  let v := s.vecF (o.src + i)
  let v := if v.isNan then Fl.zero else v
  (v, minF (maxF v (s.coef b o.coef i)) (s.coef b o.coef (o.rows + i)))

/-- The words a micro-operation writes in the vector file, in element order. -/
def opWrites (s : State) (b : Nat) (o : MicroOp) : List (Nat × Word) :=
  let el := fun (f : Nat → Fl) => (List.range o.rows).map fun i => (o.dst + i, f32w (f i))
  match o.op with
  | 1 => el fun i => s.macRow b o.coef i o.cols o.src (if bitAt o.flags 0 then s.vecF (o.aux + i) else Fl.zero)
  | 2 => el fun i => Fl.add (s.vecF (o.src + i)) (s.vecF (o.aux + i))
  | 3 => el fun i => Fl.sub (s.vecF (o.src + i)) (s.vecF (o.aux + i))
  | 4 => el fun i => Fl.add (s.vecF (o.aux + i)) (Fl.mul (s.coef b o.coef i) (s.vecF (o.src + i)))
  | 5 => el fun i => s.vecF (o.src + i)
  | 6 => el fun _ => Fl.zero
  | 7 =>
    let a := s.vecF o.src
    if !a.isFinite || !bitAt s.kne.tabEn (o.flags % 16) then []
    else
      let t := Fl.sub a (Fl.ofInt (Fl.floor a))
      let pos := Fl.mul t (Fl.ofNat o.cols)
      let i := (Fl.floor pos).toNat
      let f := Fl.sub pos (Fl.ofNat i)
      let j := (i + 1) % o.cols
      el fun w =>
        let ti := s.coef b o.coef (i * o.rows + w)
        let d := Fl.round32 (Fl.sub (s.coef b o.coef (j * o.rows + w)) ti)
        let acc := Fl.roundExt (Fl.add (s.vecF (o.dst + w)) ti)
        Fl.roundExt (Fl.add acc (Fl.mul f d))
  | 8 =>
    let q := o.flags % 32
    if !bitAt s.kne.biqEn q then [(o.dst, f32w (s.vecF o.src))]
    else [(o.dst, f32w (Fl.roundExt (Fl.add (Fl.mul (s.coef b o.coef 0) (s.vecF o.src)) (Fl.of32 (s.biqSt (2 * q)).toNat))))]
  | 9 =>
    let outs := (List.range o.rows).map fun i => (i, s.clampEl b o i)
    outs.flatMap fun (i, v, r) => (if bitAt o.flags 0 then [(o.aux + i, f32w (Fl.sub r v))] else []) ++ [(o.dst + i, f32w r)]
  | _ => []

def kneEvtNonfinite (s : State) : State := s.stick Reg.KNE_EVT 0

/-- The coefficient words, counted from COEF, that a micro-operation reads: of a table its two rows at the index, and nothing while its table
or biquad is off (R191, R192, R205). -/
def coefReads (s : State) (o : MicroOp) : List (Nat × Nat) :=
  match o.op with
  | 7 =>
    let a := s.vecF o.src
    if !a.isFinite || !bitAt s.kne.tabEn (o.flags % 16) then []
    else
      let i := (Fl.floor (Fl.mul (Fl.sub a (Fl.ofInt (Fl.floor a))) (Fl.ofNat o.cols))).toNat
      [(i * o.rows, o.rows), ((i + 1) % o.cols * o.rows, o.rows)]
  | 8 => if bitAt s.kne.biqEn (o.flags % 32) then [(0, 5)] else []
  | _ => if o.coefWords = 0 then [] else [(0, o.coefWords)]

/-- What a micro-operation does beside the vector file: biquad states, events, saturation bits, an uncorrectable coefficient. -/
def opSide (s : State) (b : Nat) (o : MicroOp) : State :=
  let s :=
    match o.op with
    | 7 => if bitAt s.kne.tabEn (o.flags % 16) && !(s.vecF o.src).isFinite then s.kneEvtNonfinite else s
    | 8 =>
      let q := o.flags % 32
      if !bitAt s.kne.biqEn q then (s.setBiq (2 * q) 0).setBiq (2 * q + 1) 0
      else
        let c := fun k => s.coef b o.coef k
        let x := s.vecF o.src
        let s1 := Fl.of32 (s.biqSt (2 * q)).toNat
        let s2 := Fl.of32 (s.biqSt (2 * q + 1)).toNat
        let y := Fl.of32 (Fl.to32 (Fl.roundExt (Fl.add (Fl.mul (c 0) x) s1)))
        let n1 := Fl.roundExt (Fl.add (Fl.roundExt (Fl.add s2 (Fl.mul (c 1) x))) (Fl.mul (Fl.neg (c 3)) y))
        let n2 := Fl.roundExt (Fl.add (Fl.mul (c 2) x) (Fl.mul (Fl.neg (c 4)) y))
        let s := (s.setBiq (2 * q) (f32w n1)).setBiq (2 * q + 1) (f32w n2)
        if (Fl.round32 n1).isFinite && (Fl.round32 n2).isFinite then s else s.kneEvtNonfinite
    | 9 =>
      let bad := (List.range o.rows).any fun i => (s.vecF (o.src + i)).isNan
      let s := if bad then s.kneEvtNonfinite else s
      let m := maskOf 320 fun k => decide (o.dst ≤ 0x300 + k) && decide (0x300 + k < o.dst + o.rows) &&
        (let i := 0x300 + k - o.dst
         let (v, r) := s.clampEl b o i
         (s.vecF (o.src + i)).isNan || !Fl.eqv v r)
      { s with kne := { s.kne with sat := s.kne.sat ||| m } }
    | _ => s
  if (s.coefReads o).any fun r => s.eccIn (bankBase b + o.coef + 4 * r.1) (4 * r.2) then (s.stick Reg.KNE_EVT 2).setCond 0x82 true else s

/-- A whole micro-operation. The side effects read the vector file as it stood before. -/
def runOp (s : State) (b : Nat) (o : MicroOp) : State :=
  let w := s.opWrites b o
  w.foldl (fun s p => s.setVec p.1 p.2) (s.opSide b o)

/-- How many words a micro-operation writes: of BIQ its two states and then its destination (R192). -/
def opWords (s : State) (b : Nat) (o : MicroOp) : Nat := if o.op = 8 then 3 else (s.opWrites b o).length

/-- Elements of a CLAMP whose words have been begun after k words: with SATFB each has two (R194). -/
def clampBegun (o : MicroOp) (k : Nat) : Nat := if bitAt o.flags 0 then (k + 1) / 2 else k

/-- A micro-operation abandoned after k of its words, in the order in which R192 and R194 write them (R200). -/
def runOpPart (s : State) (b : Nat) (o : MicroOp) (k : Nat) : State :=
  let w := s.opWrites b o
  if o.op = 8 then
    let q := 2 * (o.flags % 32)
    let t := s.opSide b o
    let states := [(q, t.biqSt q), (q + 1, t.biqSt (q + 1))].take k
    let s := states.foldl (fun s x => s.setBiq x.1 x.2) s
    let s := if states.all fun x => (Fl.of32 x.2.toNat).isFinite then s else s.kneEvtNonfinite
    (w.take (k - 2)).foldl (fun s p => s.setVec p.1 p.2) s
  else
    let bad := o.op == 9 && (List.range (clampBegun o k)).any fun i => (s.vecF (o.src + i)).isNan
    let s := if bad then s.kneEvtNonfinite else s
    (w.take k).foldl (fun s p => s.setVec p.1 p.2) s

/-- The entry list of the running program, where it runs before the correction (R199, R201). -/
def kneEntry (s : State) : List MicroOp :=
  if s.kne.entry then s.kneList s.kne.bank (s.kneDesc s.kne.bank s.kne.prog).entryOff else []

/-- The list that runs: entry list if due, then correction, in phases 1 and 2; prediction in phase 3 (R186, R199, R201). -/
def kneCurrent (s : State) : List MicroOp :=
  let d := s.kneDesc s.kne.bank s.kne.prog
  match s.knePhase with
  | 1 => s.kneEntry ++ s.kneList s.kne.bank d.corrOff
  | 2 => s.kneEntry ++ s.kneList s.kne.bank d.corrOff
  | 3 => s.kneList s.kne.bank d.predOff
  | _ => []

/-- Executes the micro-operations of the running list that have ended after c clocks; each entry carries the clock its
operation ends at. -/
def kneAdvance (s : State) (c : Nat) : State :=
  let step := fun (p : State × Nat × Nat) (o : MicroOp) =>
    let (s, i, t) := p
    let t := t + o.cost
    if i < s.kne.done then (s, i + 1, t)
    else if t ≤ c ∧ i = s.kne.done then
      let s := s.runOp s.kne.bank o
      ({ s with kne := { s.kne with done := i + 1 } }, i + 1, t)
    else (s, i + 1, t)
  (s.kneCurrent.foldl step (s, 0, 0)).1

/-- KNE clocks since the running list began: two in each tick. -/
def kneClocks (s : State) : Nat := (s.tickNo - s.kne.phaseStart) * 2

/-- The instant at which the running list ends, in units of 250 ps (R184). -/
def listEnd (s : State) : Nat := 32 * s.kne.phaseStart + 16 * listCost s.kneCurrent

/-- What has ended by now. The words of a micro-operation are written in its last clock (log entry 191). -/
def kneNow (s : State) : State := if s.kne.phaseStart ≤ s.tickNo then s.kneAdvance s.kneClocks else s

/-- Every micro-operation of the running list has been executed. -/
def kneFinish (s : State) : State := s.kneAdvance (listCost s.kneCurrent)

def setPhase (s : State) (p : Nat) : State :=
  let s := s.setFld Reg.KNE_STAT 7 6 p
  { s with kne := { s.kne with phaseStart := s.tickNo, done := 0 } }

/-- The engine stops and abandons its list (R200): ended operations stand, and of the one in progress a free number of words
has been written (log entry 3). Words held for local half-bridges go (R276). -/
def kneStop (s : State) : State :=
  if !s.kneRunning then { s with kne := { s.kne with startDue := false } }
  else
    let s := s.kneAdvance s.kneClocks
    let s := match s.kneCurrent[s.kne.done]? with
      | some o =>
        if s.tickNo < s.kne.phaseStart then s
        else (let (f, s) := s.free; s.runOpPart s.kne.bank o (f.toNat % (s.opWords s.kne.bank o + 1)))
      | none => s
    let s := (s.setPhase 0).setFlag Reg.KNE_STAT 0 false
    { s with kne := { s.kne with startDue := false, entryDue := false, resetDue := false, corrWait := none }, ptn := { s.ptn with gvHeld := false },
             pwm := { s.pwm with hb := s.pwm.hb.map fun x => { x with duty := [], word := none } } }

/-- STANDBY discards the engine's state (R41): the vector file, the biquad states, the image and what a start sets anew. -/
def kneDiscard (s : State) : State := { s with kne := { periods := s.kne.periods, present := s.kne.present } }

/-- The words of the state-copy image: persist ranges, then s1 and s2 of the used biquads (R186). -/
def kneImage (s : State) : List Word :=
  let d := s.kneDesc s.kne.bank s.kne.prog
  (s.persist s.kne.bank d).flatMap (fun r => (List.range r.2).map fun i => s.vec (r.1 + i))
    ++ (s.biqUsed s.kne.bank d).flatMap fun q => [s.biqSt (2 * q), s.biqSt (2 * q + 1)]

/-! ## The bank check (R204) -/

/-- Limits of R171 by program: n, m, p, persistent words. -/
def progLimits (i : Nat) : Nat × Nat × Nat × Nat := if i < 2 then (256, 384, 320, 496) else (128, 192, 160, 304)

/-- The deadline of a program in ns (R137). -/
def progDl (s : State) (i : Nat) : Nat := 2 * (match i with | 0 => s.mby.dlEnergize | 1 => s.mby.dlFull | _ => s.mby.dlFast)

def placed (len off size : Nat) : Bool := decide (0x200 ≤ off) && off % 64 == 0 && decide (off + size ≤ len)

/-- Step 2: a descriptor with VALID = 1 (R171, R176, R177, R181). -/
def descOk (s : State) (b len i : Nat) : Bool :=
  let d := s.kneDesc b i
  if !bitAt d.dflags 0 then allZero (s.bytesAt (bankBase b + 0x40 + 64 * i) 64)
  else
    let (ln, lm, lp, _) := progLimits i
    let pr := s.persist b d
    decide (d.n ≤ ln) && decide (1 ≤ d.m) && decide (d.m ≤ lm) && decide (1 ≤ d.p) && decide (d.p ≤ lp) && decide (d.nr ≤ 16)
    && decide (d.dflags < 4) && decide (d.persistCnt ≤ 8) && decide (d.biqReset < 2 ^ 24) && allZero d.rest
    && (d.entryOff == 0 || placed len d.entryOff 16) && placed len d.predOff 16 && placed len d.corrOff 16
    && placed len d.ymapOff (4 * d.m) && placed len d.umapOff (4 * d.p)
    && (if d.persistCnt = 0 then true else placed len d.persistOff (4 * d.persistCnt))
    && pr.all (fun r => rangeIn r 0x460 0x1000 || rangeIn r 0x300 0x440)
    && (List.range pr.length).all fun x => (List.range x).all fun y => !rangesMeet (pr.getD x (0, 0)) (pr.getD y (0, 0))

/-- ROWS and COLS as each opcode uses them (R179). -/
def opSizes (o : MicroOp) : Bool :=
  let in512 := fun (n : Nat) => decide (1 ≤ n) && decide (n ≤ 512)
  match o.op with
  | 1 => decide (1 ≤ o.rows) && decide (o.rows ≤ 384) && decide (1 ≤ o.cols) && decide (o.cols ≤ 384)
  | 7 => decide (1 ≤ o.rows) && decide (o.rows ≤ 32) && [64, 128, 256, 512, 1024].contains o.cols
  | 8 => o.rows == 0 && o.cols == 0
  | _ => in512 o.rows && o.cols == 0

/-- FLAGS, SRC, AUX and COEF: unused fields are 0 (R178, R179). -/
def opFields (o : MicroOp) : Bool :=
  match o.op with
  | 1 => decide (o.flags < 2) && (bitAt o.flags 0 || o.aux == 0)
  | 2 => o.flags == 0 && o.coef == 0
  | 3 => o.flags == 0 && o.coef == 0
  | 4 => o.flags == 0
  | 5 => o.flags == 0 && o.aux == 0 && o.coef == 0
  | 6 => o.flags == 0 && o.src == 0 && o.aux == 0 && o.coef == 0
  | 7 => decide (o.flags < 16) && o.aux == 0
  | 8 => decide (o.flags < 24) && o.aux == 0
  | 9 => decide (o.flags < 2) && (bitAt o.flags 0 || o.aux == 0)
  | _ => false

/-- Overlaps of destination and source ranges that R179 allows; the AUX of a CLAMP is a second destination. -/
def opOverlap (o : MicroOp) : Bool :=
  let d := (o.dst, o.rows)
  let ok := fun (r : Nat × Nat) => !rangesMeet d r || r == d
  match o.op with
  | 1 => !rangesMeet d (o.src, o.cols) && (!bitAt o.flags 0 || ok (o.aux, o.rows))
  | 2 => ok (o.src, o.rows) && ok (o.aux, o.rows)
  | 3 => ok (o.src, o.rows) && ok (o.aux, o.rows)
  | 4 => ok (o.src, o.rows) && ok (o.aux, o.rows)
  | 5 => ok (o.src, o.rows)
  | 7 => !rangesMeet d (o.src, 1)
  | 9 => ok (o.src, o.rows) && (!bitAt o.flags 0 || o.aux == o.src || !rangesMeet (o.aux, o.rows) (o.src, o.rows))
  | _ => true

/-- Step 3 for one micro-operation of a list; pred marks the prediction list (R173, R179, R180). -/
def opOk (len : Nat) (pred : Bool) (o : MicroOp) : Bool :=
  opSizes o && opFields o && opOverlap o
  && (o.coefWords == 0 || placed len o.coef (4 * o.coefWords))
  && (o.reads ++ o.writes).all (fun r => decide (r.1 + r.2 ≤ 4096))
  && o.writes.all (fun r => !rangesMeet r (0, 0x180) && !rangesMeet r (0x440, 0x20))
  && (!pred || (decide (o.op ≤ 6) && o.reads.all fun r => !rangesMeet r (0, 0x180) && !rangesMeet r (0x440, 0x13)))

/-- The words [a, a + n) are all covered by the ranges. -/
def covered (rs : List (Nat × Nat)) (a n : Nat) : Bool :=
  (List.range n).all fun i => rs.any fun r => decide (r.1 ≤ a + i) && decide (a + i < r.1 + r.2)

def listOk (s : State) (b len off : Nat) (pred : Bool) : Bool :=
  if off = 0 then true
  else match s.listFrom b 257 off with
    | none => false
    | some l => decide (off + 16 * (l.length + 1) ≤ len) && l.all (opOk len pred) && allZero (s.bytesAt (bankBase b + off + 16 * l.length) 16)

def noRepeat : List Nat → Bool
  | [] => true
  | x :: xs => !xs.contains x && noRepeat xs

/-- Step 3 (R173, R178-R181). -/
def progOpsOk (s : State) (b len : Nat) (d : KneDesc) : Bool :=
  s.listOk b len d.predOff true && s.listOk b len d.entryOff false && s.listOk b len d.corrOff false
  && covered ((s.kneList b d.predOff).flatMap (·.writes)) 0x180 d.m
  && noRepeat (s.biqUsed b d)

/-- The half-bridge has a role (R22). -/
def hbHasRole (s : State) (h : Nat) : Bool := decide (s.sys.roles.getD h 0xFF ≤ 5)

/-- Step 4: the maps (R182, R183, R209); an odd channel of an INTERLEAVED pair delivers nothing to map (R320). -/
def mapsOk (s : State) (b : Nat) (d : KneDesc) : Bool :=
  (s.ymap b d).all (fun e => match e.kind with
    | 0 => e.sub == 0 && e.index == 0
    | 1 => decide (e.sub ≤ 4) && s.cellExists e.index
    | 2 => e.sub == 0 && decide (e.index < 16) && !s.pairedOdd e.index
    | _ => false)
  && (s.umap b d).all (fun e => e.sub == 0 && (match e.kind with
    | 0 => e.index == 0
    | 1 => decide (e.index ≤ 10) || (decide (16 ≤ e.index) && decide (e.index ≤ 303) &&
        s.cellExists (if e.index < 160 then e.index - 16 else e.index - 160))
    | 2 => decide (e.index < 6) && s.hbHasRole e.index
    | _ => false))
  && noRepeat (((s.umap b d).filter (·.kind != 0)).map fun e => e.kind * 1024 + e.index)

/-- T_ENTRY, T_PRED and T_CORR of a program in clocks (R184). -/
def progTimes (s : State) (b : Nat) (d : KneDesc) : Nat × Nat × Nat :=
  (listCost (s.kneList b d.entryOff), listCost (s.kneList b d.predOff), listCost (s.kneList b d.corrOff))

/-- The program is bound by R185: valid, and its mode PRESENT. -/
def bound (s : State) (b i : Nat) : Bool := bitAt (s.kneDesc b i).dflags 0 && s.kne.present.getD i false

/-- Rule 4 of R185 for X in bank bx and Y in the bank of the second program. -/
def rule4 (s : State) (bx x y : Nat) : Bool :=
  let (_, tp, tc) := s.progTimes bx (s.kneDesc bx x)
  decide (s.progDl x + 4 * tc + 4 * tp + 40 ≤ 8 * s.kne.periods.getD x 0 + s.progDl y)

/-- Step 5: timing (R185); over is the active bank when the bank is checked as the new bank of a swap. -/
def timingOk (s : State) (b : Nat) (beyond : Option Nat) : Bool :=
  let ps := (List.range 4).filter (s.bound b)
  ps.all (fun i =>
    let (te, tp, tc) := s.progTimes b (s.kneDesc b i)
    let p := 8 * s.kne.periods.getD i 0
    let dl := s.progDl i
    let lat := if i < 2 then 1 else 2
    decide (4 * (te + tp + tc) + 40 ≤ p) && decide (dl + 4 * (te + tc) + 3500 ≤ lat * p)
    && (i != 0 || decide (4 * tp + 40 ≤ dl)))
  && ps.all (fun x => ps.all fun y => x == y || s.rule4 b x y)
  && (match beyond with
    | none => true
    | some a => ((List.range 4).filter (s.bound a)).all fun x => ps.all fun y => s.rule4 a x y)

/-- Step 6: persistent words (R171). -/
def persistOk (s : State) (b i : Nat) : Bool :=
  let d := s.kneDesc b i
  decide ((s.persist b d).foldl (fun n r => n + r.2) 0 + 2 * (s.biqUsed b d).length ≤ (progLimits i).2.2.2)

/-- Step 7: no word is read before it is written (R181). -/
def readsOk (s : State) (b : Nat) (d : KneDesc) : Bool :=
  let base := (0, 0x180) :: (0x440, 0x13) :: s.persist b d
  let ops := s.kneList b d.predOff ++ s.kneList b d.entryOff ++ s.kneList b d.corrOff
  (ops.foldl (fun (p : Bool × List (Nat × Nat)) o =>
    (p.1 && o.reads.all (fun r => covered p.2 r.1 r.2), o.writes ++ p.2)) (true, base)).1

/-- Step 8: clamp limits (R194). -/
def clampsOk (s : State) (b : Nat) (d : KneDesc) : Bool :=
  ((s.kneList b d.entryOff ++ s.kneList b d.corrOff).filter (·.op == 9)).all fun o =>
    (List.range o.rows).all fun i =>
      let lo := s.coef b o.coef i
      let hi := s.coef b o.coef (o.rows + i)
      lo.isFinite && hi.isFinite && Fl.le lo hi

/-- The code of R204 for a bank of the given length; over is the active bank of a swap. -/
def bankCheck (s : State) (b len : Nat) (beyond : Option Nat) : Nat :=
  let base := bankBase b
  let header := s.memN base 4 == 0x4B4E4442 && s.memN (base + 4) 2 == 1 && s.memN (base + 6) 2 == 0 && s.memN (base + 8) 4 == len
    && allZero (s.bytesAt (base + 0x10) 48) && allZero (s.bytesAt (base + 0x140) 192) && decide (0x200 ≤ len)
  let ps := (List.range 4).filter fun i => bitAt (s.kneDesc b i).dflags 0
  let all := fun (f : Nat → Bool) => ps.all f
  if !header then 1
  else if !(List.range 4).all (s.descOk b len) || !(s.kne.present.getD 3 false || !(s.kne.present.getD 1 false || s.kne.present.getD 2 false)) then 2
  else if !all (fun i => s.progOpsOk b len (s.kneDesc b i)) then 3
  else if !all (fun i => s.mapsOk b (s.kneDesc b i)) then 4
  else if !s.timingOk b beyond then 5
  else if !all (s.persistOk b) then 6
  else if !all (fun i => s.readsOk b (s.kneDesc b i)) then 7
  else if !all (fun i => s.clampsOk b (s.kneDesc b i)) then 8
  else 0

/-- The check's code in KNE_PROG_STAT.CHECK and the valid programs of the bank that passed (R204, R206). -/
def recordCheck (s : State) (b code : Nat) : State :=
  let s := s.setFld Reg.KNE_PROG_STAT 11 8 code
  if code = 0 then s.setFld Reg.KNE_PROG_STAT (4 * b + 3) (4 * b) (maskOf 4 fun i => bitAt (s.kneDesc b i).dflags 0) else s

/-- The bank becomes active: KNE_STAT.BANK and BANK_ID, and the times of its programs (R203, R206). -/
def activateBank (s : State) (b : Nat) : State :=
  let s := (s.setFld Reg.KNE_STAT 1 1 b).setFld Reg.KNE_STAT 31 16 (s.memN (bankBase b + 12) 2)
  (List.range 4).foldl (fun s i =>
    let d := s.kneDesc b i
    let (te, tp, tc) := if bitAt d.dflags 0 then s.progTimes b d else (0, 0, 0)
    (s.putN (Reg.KNE_TPRED i) (te % 2 ^ 16 * 2 ^ 16 + tp % 2 ^ 16)).putN (Reg.KNE_TCORR i) (tc % 2 ^ 16)) s

/-- The program of a mode is VALID in the active bank (R199). -/
def progValid (s : State) (m : Nat) : Bool := s.flag Reg.KNE_PROG_STAT (4 * s.activeBank + progOf m)

/-! ## The engine's cycle -/

/-- The start of R199, at the first boundary after entry into ENERGIZE. -/
def kneStart (s : State) : State :=
  let s := { s with kne := { s.kne with vec := s.kne.vec.filter (fun p => decide (p.1 < 0x180) || (decide (0x440 ≤ p.1) && decide (p.1 < 0x460))),
                                        biq := [], startDue := false, corrWait := none, entryDue := true, resetDue := false, bank := s.activeBank,
                                        prog := progOf s.mode, miss := [] } }
  let s := (s.setFlag Reg.KNE_STAT 0 true).setFld Reg.KNE_STAT 5 4 s.kne.prog
  s.setPhase 3

/-- Biquad states of a mask are cleared: those of BIQ_RESET, and those of biquads that are off (R177, R192, R201). -/
def biqReset (s : State) (mask : Nat) : State :=
  (bitsOf 24 mask).foldl (fun s q => (s.setBiq (2 * q) 0).setBiq (2 * q + 1) 0) s

/-- The entry list, if due, and the correction list start in the next tick (R186, R199, R201). -/
def kneCorrBegin (s : State) (w : CorrWait) : State :=
  let s := { s with kne := { s.kne with bank := w.bank, prog := w.prog, entry := w.entry, corrCycle := w.cycle, corrUnit := w.unit,
                                        corrWait := none, onTime := w.tick == s.tickNo } }
  let s := s.setPhase (if w.entry then 1 else 2)
  { s with kne := { s.kne with phaseStart := s.tickNo + 1 } }

/-- At the deadline the entry list, if due, and the correction list start, or wait for the end of a prediction that still runs, after a
golden-vector check or a rerun (R186, R199, R201, R257, R260). -/
def kneCorrStart (s : State) : State :=
  let b := s.activeBank
  let p := progOf s.mode
  let d := s.kneDesc b p
  let s := if s.kne.resetDue then s.biqReset d.biqReset else s
  let s := s.biqReset (0xFFFFFF - s.actN Reg.KNE_BIQ_EN % 2 ^ 24)
  let w : CorrWait := { bank := b, prog := p, entry := s.kne.entryDue && d.entryOff != 0, cycle := s.cycle, unit := s.tim.boundUnit,
                        tick := s.tickNo }
  let s := { s with kne := { s.kne with tabEn := s.actN Reg.KNE_TAB_EN, biqEn := s.actN Reg.KNE_BIQ_EN, sat := 0, resetDue := false,
                                        entryDue := false, corrWait := some w } }
  let s := s.setFld Reg.KNE_STAT 5 4 p
  if s.knePhase = 3 then s else s.kneFinish.kneCorrBegin w

/-- A change of program at a boundary (R201): entry list after a mode transition, or after a swap where ENTRY_ON_SWAP is 1. -/
def kneChange (s : State) (swapOnly : Bool) : State :=
  if !s.kneRunning then s
  else
    let d := s.kneDesc s.activeBank (progOf s.mode)
    let s := s.setFld Reg.KNE_STAT 5 4 (progOf s.mode)
    { s with kne := { s.kne with entryDue := !swapOnly || bitAt d.dflags 1, resetDue := true, miss := [] } }

/-- One tick of the running list: PHASE goes from the entry list to the correction (R206), and a word that an uncorrectable error has hit is
reported in the tick in which a micro-operation that reads it ends (R205). -/
def kneTick (s : State) : State :=
  if !s.kneRunning then s
  else
    let s := if s.eccBad.isEmpty ∨ s.tickNo < s.kne.phaseStart then s else s.kneAdvance (s.kneClocks + 2)
    if s.knePhase = 1 ∧ s.kne.phaseStart ≤ s.tickNo ∧ listCost s.kneEntry ≤ s.kneClocks + 2 then s.setFld Reg.KNE_STAT 7 6 2 else s

/-- Saturation registers of the correction that ended (R194, R206). -/
def kneSatRegs (s : State) : State :=
  let m := s.kne.sat
  let s := (List.range 10).foldl (fun s k => s.putN (Reg.KNE_SAT k) (m / 2 ^ (32 * k) % 2 ^ 32)) s
  let s := s.setFld Reg.KNE_SAT_CNT 8 0 (popCount 320 m)
  if m = 0 then s else s.stick Reg.KNE_EVT 1

/-- A non-finite word in U, or in the persist ranges while CHK_PERSIST is 1 (R195). -/
def kneNonfinite (s : State) : Bool :=
  let d := s.kneDesc s.kne.bank s.kne.prog
  let bad := fun (r : Nat × Nat) => (List.range r.2).any fun i => !(s.vecF (r.1 + i)).isFinite
  bad (0x300, d.p) || (s.flag Reg.KNE_CTRL 0 && (s.persist s.kne.bank d).any bad)

/-- Hardware words of the vector file at a boundary: references, PERIOD_S, TIME_FRAC, CYCLE_LO (R172). -/
def kneBoundaryWords (s : State) (periodTicks : Nat) : State :=
  let s := (List.range 16).foldl (fun s k => s.setVec (0x440 + k) (s.act (Reg.KNE_REF k))) s
  let s := s.setVec 0x450 (f32w (Fl.div32 (Fl.ofNat (8 * periodTicks)) (Fl.ofNat 1000000000)))
  let s := s.setVec 0x451 (f32w (Fl.div32 (Fl.ofNat s.tim.boundNs) (Fl.ofNat 1000000000)))
  s.setVec 0x452 (f32w (Fl.ofNat (s.cycle % 2 ^ 24)))

end State
end Sys2Proof.Machine
end

