-- ==== Sys2Proof/Machine/Lanes.lean ====
section
/-!
DEFINITION. Serial lanes (chapter 4): lane states, synchronisation, received and sent code-groups, elastic buffers, pattern tests,
loopbacks. A command gives what reaches a lane's line input; between commands a lane that is UP receives valid idle pairs, and a locked checker
the bits it expects (log entry 189).
-/
namespace Sys2Proof.Machine
namespace State

def lane (s : State) (n : Nat) : Lane := s.lanes.getD n {}
def setLane (s : State) (n : Nat) (f : Lane → Lane) : State := { s with lanes := modNth f n s.lanes }

/-- LNK_EVT_SUM bit n: any LNK_EVT bit of lane n set (R132). -/
def lnkSum (s : State) (n : Nat) : State := s.setFlag Reg.LNK_EVT_SUM n (s.getN (Reg.LNK_EVT n) % 256 != 0)

/-- A sticky lane event; source 38 fires when a bit of LNK_EVT_SUM is set (R481). -/
def lnkEvt (s : State) (n i : Nat) : State :=
  let t := (s.stick (Reg.LNK_EVT n) i).lnkSum n
  if s.flag Reg.LNK_EVT_SUM n then t else t.irq 38

/-- A new value of SIGDET and CDR_LOCK: bit 0 and bit 1 (R131). -/
def setSignal (s : State) (n v : Nat) : State :=
  if s.fld (Reg.LNK_STAT n) 5 4 = v then s
  else (s.setFld (Reg.LNK_STAT n) 5 4 v).setLane n fun l => { l with signalAt := s.tickNo }

/-- A lane in a new state. A transmitter that was idle or in test starts with negative running disparity; what a lane had still to send is lost
with UP, but for the auxiliary lanes, which send whatever they receive (R111-R113). -/
def laneEnters (s : State) (n old st : Nat) (l : Lane) : Lane :=
  let l := { l with since := s.tickNo, run := 0, pairs := 0, fill := 8, opened := none, rest := [], win := 1, inHalf := false }
  let l := if st < 3 ∨ st = 6 ∨ (old = 5 ∧ n < 14) then { l with line := [], half := false, tx := [] } else l
  if st = 3 ∧ old ≠ 4 ∧ old ≠ 5 then { l with txRd := false, half := false, line := [] } else l

/-- The lane moves to another state (R117); leaving UP is a link loss (R119). PTN_STAT shows the partner lanes (R266). -/
def setLaneState (s : State) (n st : Nat) : State :=
  let old := s.laneState n
  let s := if old = st then s else s.setLane n (s.laneEnters n old st)
  let s := s.setFld (Reg.LNK_STAT n) 3 0 st
  let s := s.setFlag (Reg.LNK_STAT n) 6 (st == 5)
  let s := if st < 3 then s.setFld (Reg.LNK_STAT n) 5 4 0 else s
  let s := if n = 12 ∨ n = 13 then s.setFlag Reg.PTN_STAT (5 + n) (st == 5) else s
  let s := if (n = 12 ∨ n = 13) ∧ st ≠ 5 then { s with ptn := { s.ptn with wait := s.ptn.wait.filter fun w => w.1 + 12 != n } } else s
  if old == 5 && st != 5 then
    (((s.setFlag Reg.LNK_UP n false).setFld (Reg.LNK_STAT n) 10 8 0).setLane n fun l => { l with leftUp := some s.tickNo }).setCond (0x58 + n) true n
  else if old != 5 && st == 5 then
    ((s.setFlag Reg.LNK_UP n true).evt (0x010 + n)).setCond (0x58 + n) false n
  else s

/-- Sync is lost (R118). -/
def lossOfSync (s : State) (n : Nat) : State := ((s.lnkEvt n 0).incFld (Reg.LNK_LOS_CNT n) 15 0).setLaneState n 4

/-- The invalid-code score of a lane that is UP becomes sc; at 4 sync is lost (R118). -/
def setScore (s : State) (n sc : Nat) : State :=
  if sc < 4 then s.setFld (Reg.LNK_STAT n) 10 8 sc else s.lossOfSync n

def prbsOn (s : State) (n : Nat) : Bool := s.flag (Reg.LNK_TEST n) 4
def checkerOn (s : State) (n : Nat) : Bool := s.flag (Reg.LNK_TEST n) 5
def prbsLocked (s : State) (n : Nat) : Bool := (s.lane n).chk.locked
def loopOf (s : State) (n : Nat) : Nat := s.fld (Reg.LNK_TEST n) 2 0
def polyOf (s : State) (n : Nat) : Nat := s.fld (Reg.LNK_TEST n) 7 6

/-- PRBS lock, shown in LNK_STAT.PRBS_LOCK and LNK_PRBS_STAT.LOCK (R124, R131). -/
def prbsShow (s : State) (n : Nat) : State :=
  (s.setFlag (Reg.LNK_STAT n) 7 (s.prbsLocked n)).setFlag (Reg.LNK_PRBS_STAT n) 0 (s.prbsLocked n)

/-- The checker takes received bits, inverted where INV says that the stream is (R123, R124). -/
def prbsFeed (s : State) (n : Nat) (bits : List Bool) : State :=
  let inv := s.flag (Reg.LNK_TEST n) 8
  let c := (s.lane n).chk.feed (s.polyOf n) (bits.map fun b => b != inv)
  let s := s.setLane n fun l => { l with chk := { c with lost := 0 } }
  let s := if c.lost = 0 then s else (s.addFld (Reg.LNK_PRBS_STAT n) 31 16 c.lost).lnkEvt n 6
  s.prbsShow n

/-- The checker is switched off, or starts to seed itself; its live counters stay (R124, R130). -/
def prbsRestart (s : State) (n : Nat) : State :=
  (s.setLane n fun l => { l with chk := { l.chk with locked := false, seen := 0, run := 0, win := 0 } }).prbsShow n

/-- The generator is switched on. The spec gives its register no first value: a free value that is not zero (log entry 190). -/
def prbsStart (s : State) (n : Nat) (poly : Nat) : State :=
  let (w, s) := s.free
  let r := w.toNat % 2 ^ (prbsTaps poly).1
  s.setLane n fun l => { l with gen := if r = 0 then 1 else r }

/-- A write of LNK_TEST in COMMISSION. The lane follows at the end of the tick, when the tick can no longer leave COMMISSION (R130, log entry
220). -/
def writeLnkTest (s : State) (n v : Nat) : State :=
  (s.setLane n fun l => { l with test := some (l.test.getD (s.getN (Reg.LNK_TEST n), 0)) }).putN (Reg.LNK_TEST n) v

/-- The writer of a LNK_TEST that has just been written: 0 the HPI, 1-4 a core, 5 Uzopex. -/
def testBy (s : State) (src a : Nat) : State :=
  if 0x30000 ≤ a ∧ a < 0x38000 ∧ a % 0x800 = 0x0C then
    s.setLane ((a - 0x30000) / 0x800) fun l => { l with test := l.test.map fun t => (t.1, src) }
  else s

/-- The lane follows LNK_TEST: to TEST or back to ACQUIRE (R117); a checker switched on starts unlocked. -/
def testFollows (s : State) (n : Nat) : State :=
  match (s.lane n).test with
  | none => s
  | some (old, _) =>
    let v := s.getN (Reg.LNK_TEST n)
    let s := s.setLane n fun l => { l with test := none, inject := l.inject && bitAt v 4 }
    let s := if bitAt v 4 && !bitAt old 4 then s.prbsStart n (fieldOf v 7 6) else s
    let s := if bitAt v 5 && bitAt old 5 then s else s.prbsRestart n
    let was := s.laneState n
    if was == 1 then s
    else if v % 8 != 0 || bitAt v 4 || bitAt v 5 then s.setLaneState n 6
    else if was == 6 then s.setLaneState n 3
    else s

/-- What LNK_TEST was given in the tick in which the module leaves COMMISSION was given outside it: refused as LOCKED (R11, R130). A COMMIT that
was accepted before stays accepted: the model's choice (log entry 220). -/
def testRefused (s : State) (n : Nat) : State :=
  match (s.lane n).test with
  | none => s
  | some (old, src) =>
    ((s.putN (Reg.LNK_TEST n) old).setLane n fun l => { l with test := none, inject := l.inject && bitAt old 4 }).refuseLocked src (Reg.LNK_TEST n)

/-- When the module leaves COMMISSION every lane in TEST returns to NORMAL and enters ACQUIRE (R130). -/
def lanesLeaveCommission (s : State) : State :=
  (List.range 16).foldl (fun s n =>
    let s := s.testRefused n
    let s := s.putN (Reg.LNK_TEST n) (s.getN (Reg.LNK_TEST n) / 64 * 64)
    if s.laneState n == 6 then (s.prbsRestart n).setLaneState n 3 else s) s

/-- A lane role is in use: a chain of the topology map, a partner lane of a pair, or an enabled auxiliary lane (R110). -/
def laneInUse (s : State) (n : Nat) : Bool :=
  if n < 12 then s.chainUsed n && !s.laneAbsent n
  else if n < 14 then s.paired
  else s.flag Reg.LNK_AUX_CFG (if n = 14 then 4 else 12)

/-- End of reset or STANDBY: lanes in use start to acquire, the others are OFF, fused-off ones ABSENT (R110, R117); without a valid Recipe
they stay electrically idle (R64). -/
def lanesStart (s : State) : State :=
  if !s.sys.recipeOk then s else (List.range 16).foldl (fun s n => s.setLaneState n (if s.laneAbsent n then 1 else if s.laneInUse n then 3 else 0)) s

/-- Every lane electrically idle: reset and STANDBY (R55, R65). -/
def lanesIdle (s : State) : State :=
  (List.range 16).foldl (fun s n => if s.laneState n == 1 then s
    else s.setLaneState n 2) s

/-- Live counters copied to the snapshot registers (R125). -/
def lnkSnap (s : State) (n : Nat) : State :=
  let c := (s.lane n).chk
  ((s.putN (Reg.LNK_PRBS_ERR n) c.err).putN (Reg.LNK_PRBS_BITS_LO n) (c.bits % 2 ^ 32)).putN (Reg.LNK_PRBS_BITS_HI n) (c.bits / 2 ^ 32)

/-- The live PRBS counters and LOCK_LOSS become 0 (R125, R131). -/
def lnkClrPrbs (s : State) (n : Nat) : State :=
  (s.setLane n fun l => { l with chk := { l.chk with err := 0, bits := 0 } }).setFld (Reg.LNK_PRBS_STAT n) 31 16 0

def lnkClrCode (s : State) (n : Nat) : State :=
  (((s.putN (Reg.LNK_CERR n) 0).putN (Reg.LNK_DERR n) 0).putN (Reg.LNK_LOS_CNT n) 0).putN (Reg.LNK_EB_STAT n) 0

/-- The effect of a write of LNK_INJ: the generator inverts the next bit it sends (R126). Two writes of one tick invert one bit: R126 speaks of
consecutive ticks alone (the model's choice, log entry 216). -/
def lnkInj (s : State) (n : Nat) : State := if s.prbsOn n then s.setLane n fun l => { l with inject := true } else s

/-! ## Sending: four code-groups in a tick, 5.0 Gbaud × 8 ns -/

/-- k code-groups leave: what waits on the line, and otherwise idle pairs, each at the running disparity the transmitter holds (R114). -/
def sendGroups : Nat → Lane → List Nat × Lane
  | 0, l => ([], l)
  | k + 1, l =>
    let (g, l) := if l.half then (encode l.txRd dIdle, { l with half := false })
      else match l.line with
        | [] => (encode l.txRd kIdle, { l with half := true })
        | .raw g :: rest => (g, { l with line := rest })
        | .sym x :: rest => (encode l.txRd x, { l with line := rest })
    let (gs, l) := sendGroups k { l with txRd := afterGroup l.txRd g }
    (g :: gs, l)

/-- 40 bits of the generator, the first inverted where LNK_INJ asked for it, all where INV does (R123, R126). -/
def sendPattern (s : State) (n : Nat) (l : Lane) : List Bool × Lane :=
  let (bits, reg) := prbsRun (s.polyOf n) 40 l.gen
  let bits := match bits with
    | b :: rest => (b != l.inject) :: rest
    | [] => []
  (bits.map fun b => b != s.flag (Reg.LNK_TEST n) 8, { l with gen := reg, inject := false })

/-- TX_INV and RX_INV (LNK_PHY_CFG). -/
def txInv (s : State) (n : Nat) : Bool := s.flag (Reg.LNK_PHY_CFG n) 12
def rxInv (s : State) (n : Nat) : Bool := s.flag (Reg.LNK_PHY_CFG n) 13
def turned (b : Bool) (g : Nat) : Nat := if b then 1023 - g else g

/-- Lane n is in FAR_END (R128). -/
def farEnd (s : State) (n : Nat) : Bool := s.laneState n == 6 && s.loopOf n == 3

/-- Bits that lane n receives in FAR_END go back as whole code-groups, the rest with the next ones (R128). -/
def farBits (s : State) (n : Nat) (bits : List Bool) : State :=
  s.setLane n fun l =>
    let all := l.rest ++ bits
    { l with line := l.line ++ (bitsGroups all.length all).map LineSym.raw, rest := all.drop (all.length / 10 * 10) }

/-- k idle code-groups as lane n receives them, at the running disparity of its receiver. -/
def idleGroups : Nat → Lane → List Nat × Lane
  | 0, l => ([], l)
  | k + 1, l =>
    let g := encode l.rxRd (if l.inHalf then dIdle else kIdle)
    let (gs, l) := idleGroups k { l with inHalf := !l.inHalf, rxRd := afterGroup l.rxRd g }
    (g :: gs, l)

/-- What a lane in FAR_END receives in a tick beside what commands have given: what its locked checker expects, otherwise idle pairs (R128, log
entry 189). -/
def farReceives (s : State) (n : Nat) : State :=
  let l := s.lane n
  if s.checkerOn n && s.prbsLocked n then
    s.farBits n ((prbsRun (s.polyOf n) (40 - l.ahead) l.chk.reg).1.map fun b => b != s.flag (Reg.LNK_TEST n) 8)
  else
    let (gs, l) := idleGroups (4 - l.ahead / 10) l
    s.setLane n fun _ => { l with line := l.line ++ gs.map LineSym.raw }

/-- Four code-groups of the received stream leave a lane in FAR_END; its own data and the generator are disconnected (R128). -/
def farSends (s : State) (n : Nat) : State :=
  let out := ((s.lane n).line.take 4).filterMap fun x => match x with | .raw g => some (turned (s.txInv n) g) | .sym _ => none
  s.setLane n fun l => { l with tx := out, line := l.line.drop 4 }

/-- The lane's transmitter in one tick, and the bits that an internal loopback returns (R117, R127, R128). -/
def laneSends (s : State) (n : Nat) : State × List Bool :=
  let st := s.laneState n
  if st < 3 then (s, [])
  else if s.farEnd n then ((s.farReceives n).farSends n, [])
  else
    let (bits, l) := if st = 6 ∧ s.prbsOn n then s.sendPattern n (s.lane n)
      else let (gs, l) := sendGroups 4 (s.lane n); (gs.flatMap groupBits, l)
    let near := st == 6 && (s.loopOf n == 1 || s.loopOf n == 2)
    let out := if near then [] else (bitsGroups 4 bits).map (turned (s.txInv n))
    (s.setLane n fun _ => { l with tx := out }, if near then bits else [])

/-- What waits in a tick for the checker of a lane in TEST: the loop's bits, or 40 bits from the line, of which ahead are already
taken (R124, R127). -/
def laneChecks (s : State) (n : Nat) (bits : List Bool) : State :=
  if !(s.laneState n == 6 && s.checkerOn n) then s
  else if s.loopOf n = 1 then s.prbsFeed n bits
  else if s.loopOf n = 2 then s.prbsFeed n (bits.map fun b => b != (s.txInv n != s.rxInv n))
  else if s.prbsLocked n then s.setLane n fun l => { l with chk := l.chk.pass (s.polyOf n) (40 - l.ahead) }
  else s

/-- The valid code-groups of a tick that no command has given: each run of four takes one off the score (R118). -/
def laneScores (s : State) (n : Nat) : State :=
  let score := s.fld (Reg.LNK_STAT n) 10 8
  if s.laneUp n && score != 0 then
    let run := (s.lane n).run + (4 - (s.lane n).ahead / 10)
    (s.setFld (Reg.LNK_STAT n) 10 8 (score - run / 4)).setLane n fun l => { l with run := run % 4 }
  else s

/-- The order in which frames of the partner lanes go out, by TYPE: STATUS, SAMPLE, RELAY, STATE, HELLO, BULK (R244). -/
def partnerOrder (f : List Byte) : Nat :=
  match leAt f 0 1 with
  | 0x11 => 0
  | 0x13 => 1
  | 0x12 => 2
  | 0x10 => 3
  | 0x14 => 4
  | _ => 5

/-- The frame that leaves next on partner lane k. -/
def partnerNext (s : State) (k : Nat) : Option (Nat × List Byte) :=
  (s.ptn.wait.filter fun w => w.1 == k).foldl (fun m w => match m with
    | none => some w
    | some x => if partnerOrder w.2 < partnerOrder x.2 then some w else m) none

/-- A partner lane that has nothing to send starts the next frame, which two idle pairs follow (R244). -/
def partnerStart (s : State) (k : Nat) : State :=
  if !s.laneUp (12 + k) || !(s.lane (12 + k)).line.isEmpty then s
  else match s.partnerNext k with
    | none => s
    | some w =>
      let s := { s with ptn := { s.ptn with wait := s.ptn.wait.erase w } }
      s.setLane (12 + k) fun l => { l with line := (frameSyms kStart w.2 ++ [kIdle, dIdle, kIdle, dIdle]).map LineSym.sym }

/-- The lane's receiver at the end of a tick: of the bits that commands have given, those of the tick are over. A lane that is UP then goes on with
valid idle pairs. -/
def laneAhead (up : Bool) (l : Lane) : Lane :=
  let l := { l with ahead := l.ahead - 40 }
  if up && l.ahead == 0 then { l with rest := [], win := 1 } else l

/-- One tick of every lane. -/
def lanesTick (s : State) : State :=
  let s := (s.partnerStart 0).partnerStart 1
  (List.range 16).foldl (fun s n =>
    let (s, bits) := (s.testFollows n).laneSends n
    let s := (s.laneChecks n bits).laneScores n
    s.setLane n (laneAhead (s.laneUp n))) s

/-- A frame enters the line of lane n, after so many idle pairs (R138). -/
def sendLine (s : State) (n : Nat) (first : Sym) (gap : Nat) (f : List Byte) : State :=
  s.setLane n fun l => { l with line := l.line ++ ((List.replicate gap [kIdle, dIdle]).flatten ++ frameSyms first f).map LineSym.sym }

/-! ## Receiving -/

/-- Code-groups received on lane n go out on the auxiliary lanes that copy it, and back on a lane in FAR_END (R112, R128). -/
def passOn (s : State) (n : Nat) (gs : List Nat) : State :=
  let add := fun (l : Lane) => { l with line := l.line ++ gs.map LineSym.raw }
  let copies := fun (k : Nat) => s.laneUp n && s.mby.aux.getD k none == some n && decide (3 ≤ s.laneState (14 + k)) && decide (s.laneState (14 + k) ≤ 5)
  let s := [0, 1].foldl (fun s k => if copies k then s.setLane (14 + k) add else s) s
  if s.farEnd n then s.setLane n add else s

/-- What a receiver gathers from the code-groups of one command: its disparity, run and score, its counts, whether sync is lost, and what it
heard, the newest first (R115, R118). -/
structure Gather where
  rd : Bool
  run : Nat
  score : Nat
  cerr : Nat := 0
  derr : Nat := 0
  other : Bool := false
  lost : Bool := false
  got : List (Option Sym) := []
  /-- The last seven bits (R118). -/
  win : Nat := 1

/-- Commas off the boundary add to the score of a lane that is UP (R118). -/
def gatherCommas (up : Bool) (r : Gather) (g : Nat) : Gather :=
  let c := groupCommas r.win g
  let score := r.score + (if up then c.2 else 0)
  { r with win := c.1, score, lost := up && decide (4 ≤ score) }

/-- One more code-group, after the commas that have come within it. After the loss of sync nothing is delivered (R120). -/
def gatherOne (up : Bool) (r : Gather) (g : Nat) : Gather :=
  if r.lost then r
  else
    let r := gatherCommas up r g
    let h := hear r.rd g
    let r := { r with rd := heardRd r.rd g }
    if r.lost then r
    else match h with
    | .valid x =>
      let r := { r with other := r.other || otherControl x, got := some x :: r.got }
      if r.run = 3 then { r with run := 0, score := r.score - 1 } else { r with run := r.run + 1 }
    | bad =>
      { r with run := 0, score := r.score + 1, lost := up && decide (4 ≤ r.score + 1), got := none :: r.got,
               cerr := r.cerr + b2n (bad == .invalid), derr := r.derr + b2n (bad == .disparity) }

/-- Lane n receives code-groups of this polarity on its boundary: passed on, classified, counted, scored (R112, R115, R118). -/
def hearTurned (s : State) (n : Nat) (gs : List Nat) : State × List (Option Sym) :=
  let s := s.passOn n gs
  let l := s.lane n
  let r := gs.foldl (gatherOne (s.laneUp n)) { rd := l.rxRd, run := l.run, score := s.fld (Reg.LNK_STAT n) 10 8, win := l.win }
  let s := s.setLane n fun l => { l with rxRd := r.rd, run := r.run, win := r.win, ahead := l.ahead + 10 * gs.length }
  let s := if r.cerr = 0 then s else (s.putN (Reg.LNK_CERR n) (min (s.getN (Reg.LNK_CERR n) + r.cerr) 0xFFFFFFFF)).lnkEvt n 2
  let s := if r.derr = 0 then s else (s.putN (Reg.LNK_DERR n) (min (s.getN (Reg.LNK_DERR n) + r.derr) 0xFFFFFFFF)).lnkEvt n 3
  let s := if r.other then s.lnkEvt n 7 else s
  (if s.laneUp n then s.setScore n r.score else s, r.got.reverse)

/-- The same for code-groups as they stand on the line (RX_INV). -/
def hearGroups (s : State) (n : Nat) (gs : List Nat) : State × List (Option Sym) := s.hearTurned n (gs.map (turned (s.rxInv n)))

/-- Lane n receives bits; those short of a code-group wait for the next ones (R118). -/
def hearBits (s : State) (n : Nat) (bits : List Bool) : State :=
  let all := (s.lane n).rest ++ bits.map fun b => b != s.rxInv n
  let s := s.setLane n fun l => { l with rest := all.drop (all.length / 10 * 10) }
  (s.hearTurned n (bitsGroups all.length all)).1

/-- Lane n is UP, or left it within the last k code-groups, so that a frame it was receiving is handed on (R120). -/
def lineHears (s : State) (n k : Nat) : Bool :=
  s.laneUp n || (match (s.lane n).leftUp with | some t => decide (8 * (s.tickNo - t) ≤ 2 * k + 8) | none => false)

/-- A frame from what was heard: its first code-group, its data bytes, and whether it is errored: an invalid or control code-group inside,
or no K29.7 within 4,096 code-groups (R116). -/
def frameOf (l : List (Option Sym)) : Option (Sym × List Byte × Bool) :=
  match l with
  | some x :: rest =>
    if x = kStart ∨ x = kBeacon then
      let body := rest.takeWhile fun y => y != some kEnd
      let bytes := body.filterMap fun y => y.bind fun z => if z.ctrl then none else some (BitVec.ofNat 8 z.byte)
      some (x, bytes, bytes.length != body.length || !rest.contains (some kEnd) || decide (4094 < body.length))
    else none
  | _ => none

/-- A frame's code-groups, the last received in this tick (R115, R116, R120, R121): a frame in progress when sync was lost or the elastic
buffer ran over or dry is errored. -/
def lineFrame (s : State) (n : Nat) (gs : List Nat) : State × Option (Sym × List Byte × Bool) :=
  if !s.laneUp n then (s, (frameOf (gs.foldl (gatherOne false) { rd := (s.lane n).rxRd, run := 0, score := 0 }).got.reverse).map fun f => (f.1, f.2.1, true))
  else
    let (t, heard) := s.hearGroups n gs
    let cut := match (s.lane n).cut with | some c => decide (8 * (s.tickNo - c) < 2 * gs.length) | none => false
    (t, (frameOf heard).map fun f => (f.1, f.2.1, f.2.2 || cut || !t.laneUp n))

/-- The checker of lane n takes its bits from the line (R124, R127). -/
def lineChecks (s : State) (n : Nat) : Bool :=
  s.awake && s.laneState n == 6 && s.checkerOn n && (s.loopOf n == 0 || s.loopOf n == 3)

/-- Bits from the line for the checker; in FAR_END they go back out (R124, R128). -/
def prbsBits (s : State) (n : Nat) (bits : List Bool) : State :=
  let bits := bits.map fun b => b != s.rxInv n
  let s := if s.farEnd n then s.farBits n bits else s
  (s.prbsFeed n bits).setLane n fun l => { l with ahead := l.ahead + bits.length }

/-! ## The elastic buffer (R121) -/

/-- The recovered clock has gained so many code-groups on the module's, or lost them if negative. Between frames the buffer deletes or inserts
whole idle pairs to come back to its middle, as soon as it is a whole pair off; beyond its 16 code-groups it runs over or dry, and starts again
from the middle. At which fill it does so R121 leaves open (the model's choice, log entry 215). -/
def bufferSlip (s : State) (n : Nat) (inFrame : Bool) (slip : Int) : State :=
  let f := ((s.lane n).fill : Int) + slip
  if f < 0 ∨ 16 < f then
    (s.setLane n fun l => { l with fill := 8, cut := if inFrame then some s.tickNo else l.cut }).lnkEvt n (if f < 0 then 5 else 4)
  else if inFrame then s.setLane n fun l => { l with fill := f.toNat }
  else
    let dels := (f - 8).toNat / 2
    let ins := (8 - f).toNat / 2
    let s := s.setLane n fun l => { l with fill := f.toNat + 2 * ins - 2 * dels }
    (s.addFld (Reg.LNK_EB_STAT n) 31 16 dels).addFld (Reg.LNK_EB_STAT n) 15 0 ins

/-- The AUX source as LNK_AUX_CFG requests it: none while the lane is disabled (R112). -/
def auxWanted (s : State) (k : Nat) : Option Nat :=
  if s.flag Reg.LNK_AUX_CFG (8 * k + 4) then some (s.fld Reg.LNK_AUX_CFG (8 * k + 3) (8 * k)) else none

/-- The auxiliary lane copies the source that LNK_AUX_CFG requests (R112). -/
def auxFollows (s : State) (k : Nat) : State := { s with mby := { s.mby with aux := modNth (fun _ => s.auxWanted k) k s.mby.aux } }

/-- LNK_AUX_CFG has been written: where no old stream runs, or the lane is to stop, nothing holds the change back (R112). -/
def auxWritten (s : State) (k : Nat) : State :=
  let old := match s.mby.aux.getD k none with | some n => s.laneUp n | none => false
  if old && (s.auxWanted k).isSome then s else s.auxFollows k

end State
end Sys2Proof.Machine
end

