-- ==== Sys2Proof/Machine/Mbady.lean ====
section
/-!
DEFINITION. The head's side of the Mbady cell link (R133-R150, R166-R169): frames, beacons, telemetry acceptance, command
frames and chain breaks.
-/
namespace Sys2Proof.Machine

/-- The header of a frame (R138). -/
structure FrameHead where
  type : Nat
  head : Nat
  role : Nat
  chain : Nat
  term : Nat
  seq : Nat
  cycle : Nat
  length : Nat
  version : Nat
  deriving DecidableEq, Repr

def frameHead (f : List Byte) : FrameHead :=
  { type := leAt f 0 1, head := leAt f 1 1, role := leAt f 2 1, chain := leAt f 3 1, term := leAt f 4 2, seq := leAt f 6 2,
    cycle := leAt f 8 4, length := leAt f 12 2, version := leAt f 14 1 }

/-- The CRC of a frame's header and body, stored after them (R139). -/
def frameCrcOk (f : List Byte) : Bool :=
  decide (20 ≤ f.length) && crc32 (f.take (f.length - 4)) == leNat (f.drop (f.length - 4))

def withCrc (f : List Byte) : List Byte := f ++ leBytes 4 (crc32 f)

namespace State

def chain (s : State) (c : Nat) : Chain := s.mby.chains.getD c {}
def setChain (s : State) (c : Nat) (f : Chain → Chain) : State := { s with mby := { s.mby with chains := modNth f c s.mby.chains } }

/-- This head: 0 A, 1 B (R524). -/
def headNo (s : State) : Nat := b2n s.sys.headB

/-- PTN_STAT.ROLE: 1 LEAD, 2 FOLLOW; a module with no partner declared is LEAD alone (R238). Frames say FOLLOW where R240 does. -/
def roleNo (s : State) : Nat := s.fld Reg.PTN_STAT 26 25
def withdrawn (s : State) : Bool := s.flag Reg.PTN_STAT 22
def isLead (s : State) : Bool := s.roleNo == 1
def isFollow (s : State) : Bool := s.paired && s.roleNo == 2
def frameRole (s : State) : Nat :=
  if !s.paired then 1 else if s.roleNo = 1 ∧ !s.withdrawn ∧ !s.ptn.yielded then 1 else 2

/-- The TERM of a frame: the own term, or the subordinate term of R240. -/
def ownTerm (s : State) : Nat := s.fld Reg.PTN_TERM 15 0
def frameTerm (s : State) : Nat :=
  if s.paired ∧ (s.roleNo = 0 ∨ s.withdrawn ∨ s.ptn.yielded) then
    match s.ptn.highTerm with
    | some t => (t + 65535) % 65536
    | none => s.ptn.storedTerm
  else s.ownTerm

/-- The 16-byte header of a frame this head sends (R138). -/
def headerBytes (s : State) (type c seq cyc len : Nat) : List Byte :=
  leBytes 1 type ++ leBytes 1 s.headNo ++ leBytes 1 s.frameRole ++ leBytes 1 c ++ leBytes 2 s.frameTerm
    ++ leBytes 2 seq ++ leBytes 4 cyc ++ leBytes 2 len ++ [1, 0]

/-- A beacon (R141) for the cycle that starts now, of the given length in 8 ns units. -/
def beaconBytes (s : State) (c period : Nat) : List Byte :=
  let m := (s.chain c).ownM
  withCrc (s.headerBytes 1 c (s.cycle % 65536) s.cycle 16
    ++ leBytes 6 s.tim.boundSec ++ leBytes 1 (s.chainCells c) ++ leBytes 1 (b2n (s.chainLoop c)) ++ leBytes 4 s.tim.boundNs
    ++ leBytes 2 period ++ leBytes 2 m)

/-- A frame is valid for this chain (R140). -/
def frameValid (c : Nat) (f : List Byte) (errored : Bool) (len : Nat) : Bool :=
  let h := frameHead f
  !errored && frameCrcOk f && h.version == 1 && h.length == len && f.length == 20 + len && h.chain == c
  && (h.type == 3 || (h.seq == h.cycle % 65536 && (h.role == 1 || h.role == 2)))

/-- Records kept of one cycle and the one before (R149, R168). -/
def keepRecs (s : State) : State :=
  { s with mby := { s.mby with recs := s.mby.recs.filter fun r => decide ((s.cycle + 2 ^ 32 - r.cycle) % 2 ^ 32 ≤ 1) } }

/-- The bit of LNK_BLOCKEDk for a cell (R169). -/
def setBlocked (s : State) (cell : Nat) (b : Bool) : State := s.setFlag (Reg.LNK_BLOCKED (cell / 32)) (cell % 32) b

/-- An accepted record enters the set of the cycle (R149, R150); LNK_TLM_LAST.MAX follows each arrival on time (R168). -/
def acceptRec (s : State) (r : TlmRec) : State :=
  let s := { s with mby := { s.mby with recs := r :: s.mby.recs } }
  let last := Reg.LNK_TLM_LAST (r.cell / 12)
  if r.late then s.inc (Reg.LNK_CNT_LATE (r.cell / 12))
  else (s.setFld last 31 16 (max (s.fld last 31 16) (min r.ns 0xFFFF))).setBlocked r.cell (r.modeNow == 0)

/-- The command frame starts on the chain's lane, after a gap of that many idle pairs (R147). -/
def startFrame (s : State) (c gap : Nat) (f : List Byte) : State :=
  (s.setChain c fun h => { h with cmdFrame := f }).sendLine c kStart gap f

/-- The boundary at which the records of cycle cyc apply has come. -/
def cycleCame (s : State) (cyc : Nat) : Bool := decide ((s.cycle + 2 ^ 32 - cyc) % 2 ^ 32 < 2 ^ 31)

/-- A chain lane that is UP starts the frames that wait, in order, if they end 8 ns before the next beacon at the latest (R147). A frame of
n bytes takes n + 2 code-groups of 2 ns, and behind another it keeps a gap of two idle pairs. -/
def chainStart (s : State) (c : Nat) : State :=
  if !s.laneUp c then s
  else (s.chain c).wait.foldl (fun s w =>
    let busy := (s.lane c).line.length
    let ends := s.sinceBoundary + 2 * (b2n (s.lane c).half + (if busy = 0 then 0 else busy + 4) + w.2.length + 2)
    if ends + 8 ≤ 8 * s.tim.cycleLen then
      (s.startFrame c (if busy = 0 then 0 else 2) w.2).setChain c fun h => { h with wait := h.wait.filter fun x => x != w }
    else s) s

/-- Frames that now wait on a lane that is UP are deferred behind the beacon: counted from the one numbered k on (R147). -/
def chainDefer (s : State) (c k : Nat) : State :=
  if s.laneUp c then s.addFld (Reg.LNK_CNT_DEFER c) 15 0 ((s.chain c).wait.length - k) else s

/-- The command frame for boundary cyc is released: it starts, waits behind the next beacon, or is held while its lane is not UP; a
correction so late (R260) that its boundary has come leaves it withdrawn (R147). -/
def releaseFrame (s : State) (c cyc : Nat) (body : List Byte) : State :=
  let f := withCrc (s.headerBytes 2 c (cyc % 65536) cyc body.length ++ body)
  let k := (s.chain c).wait.length
  if s.cycleCame cyc then s.addFld (Reg.LNK_CNT_DEFER c) 31 16 1
  else ((s.setChain c fun h => { h with wait := h.wait ++ [(cyc, f)] }).chainStart c).chainDefer c k

/-- Every command frame that has not left its head is withdrawn (R48, R147). -/
def withdrawFrames (s : State) : State :=
  (List.range 12).foldl (fun s c =>
    match (s.chain c).wait with
    | [] => s
    | l => (s.setChain c fun h => { h with wait := [] }).addFld (Reg.LNK_CNT_DEFER c) 31 16 l.length) s

/-- The outermost position heard with every nearer one present in cycle cyc; 0xF none (R166). Nearer means nearer this head. -/
def edgePos (s : State) (c cyc : Nat) : Nat :=
  let n := s.chainCells c
  let order := (List.range n).map fun i => if s.headNo = 0 then i else n - 1 - i
  let heard := order.takeWhile fun p => s.mby.recs.any fun r => r.cell == c * 12 + p && r.cycle == cyc && !r.late && !r.relayed
  match heard.getLast? with
  | some p => p
  | none => 0xF

/-- The cycle's books of one chain at the boundary that ends cycle cyc: LNK_TLM_OK, the gap summary, missing beacons, BROKEN
(R148, R166, R168, R169). -/
def chainBoundary (s : State) (cyc : Nat) (c : Nat) : State :=
  let n := s.chainCells c
  let has := fun (late : Bool) => maskOf n fun p => s.mby.recs.any fun r => r.cell == c * 12 + p && r.cycle == cyc && r.late == late
  let ontime := has false
  let s := (s.setFld (Reg.LNK_TLM_OK c) 11 0 ontime).setFld (Reg.LNK_TLM_OK c) 27 16 (has true)
  let s := s.setFlag Reg.LNK_GAP_SUM c (ontime != 2 ^ n - 1)
  let last := (s.mby.recs.filter fun r => r.cell / 12 == c && r.cycle == cyc && !r.late).foldl (fun m r => max m r.ns) 0
  let s := s.setFld (Reg.LNK_TLM_LAST c) 15 0 last
  let h := s.chain c
  let miss := if h.peerSeen then 0 else satInc (s.fld (Reg.LNK_CH_STAT c) 23 16) 0xFF
  let run := if h.peerSeen then h.peerRun else 0
  let s := (s.setFld (Reg.LNK_CH_STAT c) 23 16 miss).setFlag (Reg.LNK_CH_STAT c) 30 h.peerSeen
  let ownM := if h.peerSeen then h.ownM else 0xFFFF
  let s := s.setFld (Reg.LNK_PEER_M c) 15 0 ownM
  let s := s.setChain c fun h => { h with peerSeen := false, peerRun := run, ownM := ownM }
  let broken := s.flag (Reg.LNK_CH_STAT c) 31
  let absent := s.flag Reg.PTN_STAT 21
  let breaks := !s.laneUp c || (decide (4 ≤ miss) && !absent)
  let s := if breaks && !broken then
      ((s.setFlag (Reg.LNK_CH_STAT c) 31 true).setFlag Reg.LNK_BREAK c true).setCond (0x68 + c) true c
      |>.setChain c fun h => { h with peerRun := 0 }
    else s
  s.setFld (Reg.LNK_CH_STAT c) 27 24 (if s.flag (Reg.LNK_CH_STAT c) 31 then s.edgePos c cyc else 0)

/-- BROKEN clears when the lane is UP and two consecutive valid beacons have come (R166). -/
def chainHeal (s : State) (c : Nat) : State :=
  if s.flag (Reg.LNK_CH_STAT c) 31 && s.laneUp c && decide (2 ≤ (s.chain c).peerRun) then
    (((s.setFlag (Reg.LNK_CH_STAT c) 31 false).setFld (Reg.LNK_CH_STAT c) 27 24 0).setFlag Reg.LNK_BREAK c false).setCond (0x68 + c) false c
  else s

/-- Heads send beacons in this state (R146): every mode but STANDBY and its entry, except the state of R64. -/
def beaconsRun (s : State) : Bool := s.awake && s.sys.recipeOk && !s.sys.saving

/-- At a boundary: beacons on every used chain lane that is UP (R146); frames that wait follow the beacon by 8 ns, or are withdrawn at
the boundary at which their records apply (R147). -/
def sendBeacons (s : State) (period : Nat) : State :=
  if !s.beaconsRun then s
  else s.usedChains.foldl (fun s c =>
    let s := if s.laneUp c then
        let b := s.beaconBytes c period
        (s.setChain c fun h => { h with beacon := b }).sendLine c kBeacon 0 b
      else s
    let gone := (s.chain c).wait.countP fun w => s.cycleCame w.1
    let s := (s.setChain c fun h => { h with wait := h.wait.filter fun w => !s.cycleCame w.1 }).addFld (Reg.LNK_CNT_DEFER c) 31 16 gone
    if s.laneUp c then
      (s.chain c).wait.foldl (fun s w => (s.startFrame c 2 w.2).setChain c fun h => { h with wait := h.wait.filter fun x => x != w }) s
    else s) s

/-- The deadline in force for a mode, in 2 ns units (R137). -/
def deadlineOf (s : State) (m : Nat) : Nat :=
  if m = ENERGIZE then s.mby.dlEnergize
  else if m = RUNFULL then s.mby.dlFull
  else if runMode m then s.mby.dlFast
  else min s.mby.dlFull 1750

def setDeadline (s : State) : State := s.setFld Reg.LNK_DEADLINE 15 0 (s.deadlineOf s.mode)

/-- The record is the snapshot of LNK_TLM_SNAP (R168); a position above 11 has none. -/
def tlmSnap (s : State) (c pos : Nat) : State :=
  let r := (s.mby.recs.filter fun r => decide (pos < 12) && r.cell == c * 12 + pos).head?
  match r with
  | some r =>
    let s := s.putBytes (Reg.LNK_TLM_REC c 0) 12 r.bytes
    s.putN (Reg.LNK_TLM_RSTAT c) (r.cycle % 65536 * 65536 + b2n r.late * 512 + 256 + pos)
  | none => (s.putBytes (Reg.LNK_TLM_REC c 0) 12 (List.replicate 48 0)).putN (Reg.LNK_TLM_RSTAT c) pos

def mbyClr (s : State) (c : Nat) : State :=
  let s := [Reg.LNK_CNT_FRMERR c, Reg.LNK_CNT_MISS c, Reg.LNK_CNT_LATE c, Reg.LNK_CNT_DISC c, Reg.LNK_CNT_DEFER c].foldl (fun s a => s.putN a 0) s
  s.setFld (Reg.LNK_TLM_LAST c) 31 16 0

end State
end Sys2Proof.Machine
end

