-- ==== Sys2Proof/Machine/Time.lean ====
section
/-!
DEFINITION. Network time (chapter 16): the time base, steps, cycle boundaries, the servo, transmit stamps and the comparators'
targets.
-/
namespace Sys2Proof.Machine
namespace State

def setTim (s : State) (f : Tim → Tim) : State := { s with tim := f s.tim }

/-! ## The time base (R425-R430) -/

/-- TIME_NS64 at the start of the tick (R425). -/
def time64 (s : State) : Nat := (s.tim.sec * 1000000000 + s.tim.ns) % 2 ^ 64

/-- ADDEND in force: a change acts on the clocks of the next tick. -/
def addend (s : State) : Int := signed 32 (({ s with regs := s.sys.tickRegs } : State).getN Reg.TIM_ADDEND)

/-- The time base n clocks of 500 MHz later: nanoseconds added, and the fraction (R425). -/
def advance (s : State) (n : Nat) : Nat × Nat :=
  let total : Int := (s.tim.frac : Int) + n * (2 * 2 ^ 32 + s.addend)
  ((total / 2 ^ 32).toNat, (total % 2 ^ 32).toNat)

/-- TIME_NS64 at the end of the tick. -/
def timeEnd (s : State) : Nat := (s.time64 + (s.advance 4).1) % 2 ^ 64

/-- One event tick of the time base: four clocks (R425). -/
def timTick (s : State) : State :=
  let (add, frac) := s.advance 4
  let ns := s.tim.ns + add
  s.setTim fun t => { t with frac := frac, ns := ns % 1000000000, sec := (t.sec + ns / 1000000000) % 2 ^ 48 }

/-- A signed 64-bit difference a − b (R442). -/
def diff64 (a b : Nat) : Int := signed 64 ((a + 2 ^ 64 - b % 2 ^ 64) % 2 ^ 64)

/-- What the time base reads at a clock n clocks of 500 MHz after a tick's start, before it where n is negative, in ns: total and frac are its value
at that start (R425). -/
def clockRead (total frac : Nat) (add n : Int) : Int := (((total * 2 ^ 32 + frac : Nat) : Int) + n * (2 * 2 ^ 32 + add)) / 2 ^ 32

/-- The present time base, u units of 250 ps after the start of the tick, in units of 250 ps: the read of the clock of that instant and the position
within it (R427). -/
def timeNow (s : State) (u : Int) : Int :=
  4 * clockRead (s.tim.sec * 1000000000 + s.tim.ns) s.tim.frac s.addend (u / 8) + u % 8

/-- The time base as it stood at an instant u units of 250 ps after the start of the tick, which may lie ticks ago, before a change of its time or
rate. -/
def timeAt (s : State) (u : Int) : Int :=
  let tick := (s.tickNo : Int) + u / 32
  match (s.tim.past.filter fun e => decide (tick ≤ (e.1 : Int))).getLast? with
  | some e => 4 * clockRead e.2.1 e.2.2.1 e.2.2.2 (u / 8 + 4 * ((s.tickNo : Int) - e.1)) + u % 8
  | none => s.timeNow u

/-- A time in units of 250 ps as a stamp: seconds, nanoseconds, SUB (R427). -/
def toStamp (q : Int) : Nat × Nat × Nat :=
  let n := (q % ((2 ^ 48 * 4000000000 : Nat) : Int)).toNat
  (n / 4000000000, n / 4 % 1000000000, n % 4)

/-- The stamp of an instant u units of 250 ps into the tick (R34, R427). -/
def stamp (s : State) (u : Nat) : Nat × Nat × Nat := toStamp (s.timeAt u)

/-- The stamp of an instant u units of 250 ps before the start of the tick: a frame is stamped at a point of its own and delivered later
(R427, R440, R441). -/
def stampAgo (s : State) (u : Nat) : Nat × Nat × Nat := toStamp (s.timeAt (-(u : Int)))

/-- The time base before the first change of its time or rate in this tick is kept for the stamps of earlier instants; what is older than 2 s goes. -/
def keepPast (s : State) : State :=
  if s.tim.past.any fun e => e.1 == s.tickNo then s
  else s.setTim fun t => { t with past := (s.tickNo, t.sec * 1000000000 + t.ns, t.frac, s.addend) :: t.past.filter fun e => decide (s.tickNo < e.1 + 250000000) }

/-- Units of 250 ps from the start of the tick, which reads the given TIME_NS64, to the instant at which the time base reads b, the interpolator
position included, or first lies past it: clock n is the last one that reads at most b (R431, R442). -/
def unitsTo (s : State) (start b : Nat) : Nat :=
  let d := (diff64 b start).toNat
  let n := ((((d * 2 ^ 32 : Nat) : Int) - s.tim.frac) / (2 * 2 ^ 32 + s.addend)).toNat
  let left := fun (k : Nat) => d - (s.advance k).1
  if 0 < n ∧ left (n - 1) < 2 then 8 * (n - 1) + 4 * left (n - 1) else if left n < 2 then 8 * n + 4 * left n else 8 * (n + 1)

/-- The same where it lies within the tick. -/
def unitOf (s : State) (start b : Nat) : Option Nat := let u := s.unitsTo start b; if u < 32 then some u else none

/-- The modes whose time is locked (R429). -/
def timeLocked (s : State) : Bool := engineMode s.mode

/-- The first point at or after x of the grid of a period in 8 ns units (R431); the grid restarts where TIME_NS64 wraps. -/
def gridFrom (period x : Nat) : Nat :=
  let p := 8 * period
  let up := fun (y : Nat) => (y + p - 1) / p * p
  if x ≤ 2 ^ 64 then min (up x) (2 ^ 64) % 2 ^ 64 else up (x - 2 ^ 64) % 2 ^ 64

/-- A boundary is due in this tick (R431, R444). -/
def boundaryDue (s : State) : Bool := s.tim.owed || (s.unitOf s.time64 s.tim.next).isSome

/-- Its instant within the tick. -/
def boundaryUnit (s : State) : Nat := if s.tim.owed then 0 else (s.unitOf s.time64 s.tim.next).getD 0

/-- SERVO_ON of CLK_STAT: the SYN applies the servo's correction (R410); frozen in holdover (R416). -/
def servoShow (s : State) : State :=
  if s.flag Reg.CLK_STAT 2 then s else s.setFlag Reg.CLK_STAT 4 (s.flag Reg.CLK_SYN_CFG 1 && s.flag Reg.TIM_STAT 2)

/-- LOCKED clears (R437). -/
def unlockServo (s : State) : State :=
  let s := s.setTim fun t => { t with within := 0, above := 0 }
  if s.flag Reg.TIM_STAT 2 then ((s.setFlag Reg.TIM_STAT 2 false).stick Reg.TIM_EVT 1).servoShow else s

/-- The comparators judge which targets have passed (R442). -/
def judgeLate (s : State) : State :=
  let late := (List.range 8).map fun k =>
    decide (0 < diff64 s.time64 (s.getN (Reg.TIM_CMP_HI k) * 2 ^ 32 + s.getN (Reg.TIM_CMP_LO k)))
  s.setTim fun t => { t with late := late }

/-- The time changes by d nanoseconds in its tick, by software, the servo or coarse alignment (R429, R433, R444). -/
def timeChange (s : State) (d : Int) : State :=
  let s := (if s.boundaryDue then s.setTim fun t => { t with owed := true } else s).keepPast
  let total : Int := ((s.tim.sec * 1000000000 + s.tim.ns : Nat) : Int) + d
  let total := (total % ((2 ^ 48 * 1000000000 : Nat) : Int)).toNat
  let s := s.setTim fun t => { t with sec := total / 1000000000, ns := total % 1000000000, stepTick := some s.tickNo }
  let s := s.unlockServo
  let s := ((s.stick Reg.TIM_EVT 0).incFld Reg.TIM_CNT_STEP 15 0).setFlag Reg.TIM_STAT 0 true
  let s := if 1000000000 < d.natAbs then s.logRecord { type := 0x000C, detail := leBytes 8 (unsigned 64 d) } else s
  let next := gridFrom 1250 (s.time64 + 5000)
  let len := (s.tickNo - s.tim.cycleStart) + ((diff64 next s.time64).toNat + 7) / 8
  ((s.setTim fun t => { t with next := next, period := 1250, cycleLen := len }).setFld Reg.TIM_PERIOD 16 0 len).judgeLate

/-- TIM_CTRL.SET (R429). -/
def timSet (s : State) : State :=
  let goal : Int := (((s.getN Reg.TIM_SET_SECH % 65536 * 2 ^ 32 + s.getN Reg.TIM_SET_SEC) * 1000000000 + s.getN Reg.TIM_SET_NS : Nat) : Int)
  s.timeChange (goal - ((s.tim.sec * 1000000000 + s.tim.ns : Nat) : Int))

/-- TIM_CTRL.STEP (R429). -/
def timStep (s : State) : State := s.timeChange (signed 32 (s.getN Reg.TIM_STEP_NS))

/-- TIM_UTC is written: TIM_STAT.UTC_VALID is its copy (R446). -/
def utcShow (s : State) : State := s.setFlag Reg.TIM_STAT 1 (s.flag Reg.TIM_UTC 16)

/-- A reader reads TIM_NOW_NS: 0 the HPI, 1-4 C0-C3 (R428). -/
def timeRead (s : State) (reader : Nat) : State := s.setTim fun t => { t with latched := modNth (fun _ => t.sec) reader t.latched }

/-- Reset releases the time base (R426). -/
def timRelease (s : State) : State :=
  let s := s.setTim fun _ => { cycleStart := s.tickNo, sampleTick := s.tickNo, partnerTick := s.tickNo, boundUnit := 32 * s.tickNo }
  s.setFlag Reg.TIM_STAT 0 false

/-! ## Boundaries (R431-R433) -/

/-- The period in force in a mode, in 8 ns units (R431). -/
def periodOfMode (s : State) (m : Nat) : Nat :=
  if engineMode m then (let p := s.kne.periods.getD (progOf m) 0; if p = 0 then 1250 else p) else 1250

/-- A cycle boundary of the time base into a cycle of mode m: the cycle number, the next boundary and the length of the cycle that
starts (R431-R433). -/
def timBoundary (s : State) (m : Nat) : State :=
  let b := if s.tim.owed then s.time64 else s.tim.next
  let off := s.boundaryUnit
  let bt := toStamp (s.timeNow off)
  let p := s.periodOfMode m
  let next := if s.tim.owed then s.tim.next else gridFrom p (b + 8 * p)
  let len := ((diff64 next b).toNat + 7) / 8
  let n := s.tim.cycleNext
  let s := s.setTim fun t => { t with next := next, period := p, owed := false, cycleNext := (n + 1) % 2 ^ 32 }
  let s := s.setTim fun t => { t with cycleStart := s.tickNo, cycleLen := len, boundUnit := 32 * s.tickNo + off }
  let s := s.setTim fun t => { t with boundSec := bt.1, boundNs := bt.2.1 }
  (s.putN Reg.TIM_CYCLE n).setFld Reg.TIM_PERIOD 16 0 len

/-! ## The servo (R435-R438) -/

/-- The active source: 0 none, 1 PTP, 2 partner (R435). -/
def timSource (s : State) : Nat :=
  match s.fld Reg.TIM_SRV_CFG 1 0 with
  | 0 => 0
  | 1 => 1
  | 2 => 2
  | _ => if s.isFollow || (s.paired && s.headNo == 1 && s.roleNo == 0) then 2 else 1

/-- TIM_STAT.SRC_ACT, which follows the source and the role. -/
def sourceShow (s : State) : State := if s.fld Reg.TIM_STAT 9 8 = s.timSource then s else s.setFld Reg.TIM_STAT 9 8 s.timSource

/-- A sample is discarded (R436, R444). -/
def sampleReject (s : State) : State := (s.incFld Reg.TIM_CNT_STEP 31 16).stick Reg.TIM_EVT 3

/-- A rate of r ppb becomes ADDEND = round(r × 2^33 / 10^9), and CLK_REF_PPB shows −r (R425). -/
def setRate (s : State) (r : Fl) : State :=
  let a := Fl.nearest (Fl.quot (Fl.mul r (Fl.ofNat (2 ^ 33))) (Fl.ofNat 1000000000))
  (s.keepPast.putN Reg.TIM_ADDEND (unsigned 32 a)).putN Reg.CLK_REF_PPB (unsigned 32 (Fl.nearest r.neg))

/-- A sample θ makes the servo step the time (R437). -/
def servoSteps (s : State) (theta : Fl) : Bool :=
  Fl.lt (Fl.ofNat (s.fld Reg.TIM_SRV_THR 31 16 * 1000)) theta.abs && s.flag Reg.TIM_SRV_CFG 4 && !s.timeLocked

/-- The step that the samples of the tick make at its end, in ns: the comparators of the tick evaluate against the changed time (R444). -/
def pendingStep (s : State) : Int :=
  if s.tim.stepTick = some s.tickNo then 0
  else match s.tim.samples.find? fun x => s.servoSteps x.1 with
    | some x => -(Fl.nearest x.1)
    | none => 0

/-- A sample of the active source is used (R437). -/
def servoSample (s : State) (theta : Fl) (ptp : Bool) : State :=
  if s.tim.stepTick = some s.tickNo then s.sampleReject
  else
    let s := if ptp then s.incFld Reg.TIM_CNT_SAMPLE 15 0 else s.incFld Reg.TIM_CNT_SAMPLE 31 16
    let s := s.setTim fun t => if ptp then { t with sampleTick := s.tickNo } else { t with partnerTick := s.tickNo }
    let s := s.setFlag Reg.TIM_STAT 3 false
    let s := s.putN Reg.TIM_SRV_LAST (Fl.to32 theta)
    let kp := Fl.of32 (s.getN (if ptp then Reg.TIM_SRV_KP0 else Reg.TIM_SRV_KP1))
    let ki := Fl.of32 (s.getN (if ptp then Reg.TIM_SRV_KI0 else Reg.TIM_SRV_KI1))
    let lim := Fl.ofNat (if s.timeLocked then s.fld Reg.TIM_SRV_CFG 24 16 * 1000 else 500000)
    let clamp := fun (x : Fl) => Fl.round32 (Fl.min2 (Fl.max2 x lim.neg) lim)
    if s.servoSteps theta then
      s.timeChange (-(Fl.nearest theta))
    else
      let integ := clamp (Fl.add (Fl.of32 (s.getN Reg.TIM_SRV_INTEG)) (Fl.mul ki theta))
      let y := clamp (Fl.add integ (Fl.mul kp theta))
      let s := (s.putN Reg.TIM_SRV_INTEG (Fl.to32 integ)).setRate y.neg
      let ok := Fl.le theta.abs (Fl.ofDyadic (s.fld Reg.TIM_SRV_THR 15 0) (-2))
      let s := s.setTim fun t => { t with within := if ok then t.within + 1 else 0, above := if ok then 0 else t.above + 1 }
      if 8 ≤ s.tim.within ∧ !s.flag Reg.TIM_STAT 2 then ((s.setFlag Reg.TIM_STAT 2 true).setFlag Reg.TIM_STAT 0 true).servoShow
      else if 4 ≤ s.tim.above ∧ s.flag Reg.TIM_STAT 2 then
        ((s.setFlag Reg.TIM_STAT 2 false).stick Reg.TIM_EVT 1).servoShow
      else s

/-- A sample of the active source is formed. The servo takes it at the end of the tick: a step of the tick discards it (R444). -/
def takeSample (s : State) (theta : Fl) (ptp : Bool) : State := s.setTim fun t => { t with samples := t.samples ++ [(theta, ptp)] }

/-- The servo takes the samples of the tick (R437). -/
def servoTick (s : State) : State :=
  if s.tim.samples.isEmpty then s
  else s.tim.samples.foldl (fun s x => s.servoSample x.1 x.2) (s.setTim fun t => { t with samples := [] })

/-- A PTP sample from software (R436). -/
def ptpSample (s : State) (v : Word) : State :=
  if s.timSource = 1 then s.takeSample (Fl.of32 v.toNat) true else s.sampleReject

/-- Insertion in rising order. -/
def insInt (x : Int) : List Int → List Int
  | [] => [x]
  | y :: ys => if x ≤ y then x :: y :: ys else y :: insInt x ys

/-- The median of a non-empty list; the lower middle value where the count is even (R436). -/
def median (l : List Int) : Int := (l.foldr insInt []).getD ((l.length - 1) / 2) 0

/-- At the deadline: the partner sample (R436). -/
def partnerSample (s : State) : State :=
  let lanes := s.usedChains.filter fun c => s.laneUp c && (s.chain c).peerSeen
    && s.fld (Reg.LNK_PEER_M c) 15 0 != 0xFFFF && s.fld (Reg.LNK_PEER_M c) 31 16 != 0xFFFF
  if lanes.isEmpty then (s.setFlag Reg.TIM_STAT 4 false).setFld Reg.TIM_PTN_OFF 19 0 0
  else
    let d := median (lanes.map fun c => ((s.fld (Reg.LNK_PEER_M c) 15 0 : Nat) : Int) - ((s.fld (Reg.LNK_PEER_M c) 31 16 : Nat) : Int))
    let s := (s.setFlag Reg.TIM_STAT 4 true).setTim fun t => { t with theta := d }
    let s := (s.setFld Reg.TIM_PTN_OFF 15 0 (unsigned 16 d)).setFld Reg.TIM_PTN_OFF 19 16 lanes.length
    if s.timSource = 2 then s.takeSample (Fl.ofDyadic d (-3)) false else s

/-- No sample of the active source for HOLD ms, or no source: the servo is in holdover (R438). -/
def servoDue (s : State) : Bool :=
  let last := if s.timSource = 2 then s.tim.partnerTick else s.tim.sampleTick
  !s.flag Reg.TIM_STAT 3 && (s.timSource == 0 || s.elapsed last (s.fld Reg.TIM_SRV_HOLD 15 0 * 1000000))

def servoHoldover (s : State) : State :=
  let s := ((s.setFlag Reg.TIM_STAT 3 true).stick Reg.TIM_EVT 2).unlockServo
  s.setRate (Fl.of32 (s.getN Reg.TIM_SRV_INTEG)).neg

/-- A beacon whose boundary the partner's time base gives as this time is for the own boundary of the cycle that runs: the one that lies nearest,
as the two time bases then agree within 1 µs (R434; log entry 224). -/
def beaconCurrent (s : State) (theirs : Int) : Bool :=
  decide (2 * (theirs - ((s.tim.boundSec * 1000000000 + s.tim.boundNs : Nat) : Int)).natAbs < 8 * s.tim.cycleLen)

/-- Time and cycle number from a valid beacon of the partner head (R434): its SEC, NS and CYCLE, and its arrival in 250 ps units
after the start of the tick, negative where it lies before. -/
def beaconTime (s : State) (sec ns cyc : Nat) (u : Int) : State :=
  if s.timSource != 2 || !s.paired || !(s.roleNo == 2 || s.roleNo == 0) then s
  else
    let own := s.timeNow u
    let theirs : Int := ((sec * 1000000000 + ns : Nat) : Int)
    if !s.timeLocked && s.flag Reg.TIM_SRV_CFG 4 && decide (20000 < (4 * theirs - own).natAbs) then
      let s := (s.timeChange (theirs - own / 4)).stick Reg.TIM_EVT 4
      (s.setTim fun t => { t with cycleNext := (cyc + 1) % 2 ^ 32 }).putN Reg.TIM_CYCLE cyc
    else if s.flag Reg.TIM_STAT 4 && decide (s.tim.theta.natAbs < 8000) && s.beaconCurrent theirs && cyc != s.cycle then
      if s.timeLocked then s.stick Reg.TIM_EVT 6
      else (s.setTim fun t => { t with cycleNext := (cyc + 1) % 2 ^ 32 }).stick Reg.TIM_EVT 5
    else s

def timCntClr (s : State) : State :=
  let s := (s.putN Reg.TIM_CNT_STEP 0).putN Reg.TIM_CNT_SAMPLE 0
  let s := [0, 1].foldl (fun s p => s.setFld (Reg.TIM_TXQ_STAT p) 31 16 0) s
  (List.range 8).foldl (fun s k => (s.setFld (Reg.TIM_CMP_STAT k) 31 16 0).putN (Reg.TIM_CMP_CNT k) 0) s

/-! ## Transmit stamps (R441) -/

/-- TIM_TXQ_ID, SEC, NS and COUNT show the queue. -/
def txShow (s : State) (p : Nat) : State :=
  let q := s.tim.txq.getD p []
  let s := s.setFld (Reg.TIM_TXQ_STAT p) 2 0 q.length
  match q with
  | [] => ((s.putN (Reg.TIM_TXQ_ID p) 0).putN (Reg.TIM_TXQ_SEC p) 0).putN (Reg.TIM_TXQ_NS p) 0
  | x :: _ => ((s.putN (Reg.TIM_TXQ_ID p) (x.sec / 2 ^ 32 * 65536 + x.id)).putN (Reg.TIM_TXQ_SEC p) (x.sec % 2 ^ 32)).putN
      (Reg.TIM_TXQ_NS p) (x.sub * 2 ^ 30 + x.ns)

/-- A stamp enters the queue of port p. One that finds it full waits for a pop of its tick (R441, R444). -/
def txPush (s : State) (p : Nat) (x : TxStamp) : State :=
  if 4 ≤ (s.tim.txq.getD p []).length then s.setTim fun t => { t with txLate := t.txLate ++ [(p, x)] }
  else (s.setTim fun t => { t with txq := modNth (fun q => q ++ [x]) p t.txq }).txShow p

/-- POP removes the oldest stamp; a stamp of the tick that found the queue full is stored. -/
def txPop (s : State) (p : Nat) : State :=
  let late := (s.tim.txLate.filter fun x => x.1 == p).take 1
  (s.setTim fun t => { t with txq := modNth (fun q => q.drop 1 ++ late.map (·.2)) p t.txq, txLate := t.txLate.eraseP fun x => x.1 == p }).txShow p

/-- At the end of the tick: stamps that found their queue full and no pop are discarded (R441). -/
def txDrop (s : State) : State :=
  if s.tim.txLate.isEmpty then s
  else s.tim.txLate.foldl (fun s x => (s.incFld (Reg.TIM_TXQ_STAT x.1) 31 16).stick (Reg.TIM_TXQ_STAT x.1) 8) (s.setTim fun t => { t with txLate := [] })

/-! ## Comparator targets (R442, R443) -/

def cmpTarget (s : State) (k : Nat) : Nat := s.getN (Reg.TIM_CMP_HI k) * 2 ^ 32 + s.getN (Reg.TIM_CMP_LO k)
def cmpArmed (s : State) (k : Nat) : Bool := s.flag (Reg.TIM_CMP_STAT k) 0

/-- TIME_NS64 at the start and at the end of the tick as the comparators see it: with a step that the servo makes in it (R444). -/
def cmpStart (s : State) : Nat := (((s.time64 : Int) + s.pendingStep) % 2 ^ 64).toNat
def cmpEnd (s : State) : Nat := (s.cmpStart + (s.advance 4).1) % 2 ^ 64

/-- Comparator k is armed and its target has come by the end of the tick. -/
def cmpDue (s : State) (k : Nat) : Bool := s.cmpArmed k && decide (0 ≤ diff64 s.cmpEnd (s.cmpTarget k))

/-- The target had passed when the comparator was armed, or a step passes it (R442, R444). -/
def cmpLate (s : State) (k : Nat) : Bool :=
  s.tim.late.getD k false || (s.pendingStep != 0 && decide (0 < diff64 s.cmpStart (s.cmpTarget k)))

/-- ARM: it takes effect in its tick. -/
def cmpArm (s : State) (k : Nat) : State :=
  let late := decide (0 < diff64 s.time64 (s.cmpTarget k))
  (s.setTim fun t => { t with late := modNth (fun _ => late) k t.late }).setFlag (Reg.TIM_CMP_STAT k) 0 true

def cmpDisarm (s : State) (k : Nat) : State := s.setFlag (Reg.TIM_CMP_STAT k) 0 false

/-- The match instant in units of 250 ps into the tick (R442). -/
def cmpInstant (s : State) (k : Nat) : Nat := if s.cmpLate k then 0 else (s.unitOf s.cmpStart (s.cmpTarget k)).getD 32

/-- The comparator's own state after a match: MATCH, LATE, the count, and the next target (R442, R443). -/
def cmpAdvance (s : State) (k : Nat) : State :=
  let s := (s.stick (Reg.TIM_CMP_STAT k) 1).setFlag (Reg.TIM_CMP_STAT k) 2 (s.cmpLate k)
  let s := s.inc (Reg.TIM_CMP_CNT k)
  let per := s.getN (Reg.TIM_CMP_PER k)
  if per = 0 then s.cmpDisarm k
  else
    let t1 := s.cmpTarget k + per
    let beyond := diff64 s.cmpEnd t1
    let extra := if 0 ≤ beyond then beyond.toNat / per + 1 else 0
    let t2 := (t1 + extra * per) % 2 ^ 64
    let s := (s.putN (Reg.TIM_CMP_LO k) (t2 % 2 ^ 32)).putN (Reg.TIM_CMP_HI k) (t2 / 2 ^ 32)
    (s.addFld (Reg.TIM_CMP_STAT k) 31 16 extra).setTim fun t => { t with late := modNth (fun _ => false) k t.late }

end State
end Sys2Proof.Machine
end

