-- ==== Sys2Proof/Machine/Can.lean ====
section
/-!
DEFINITION. The CAN FD controllers (R460-R470, R473, R474): message buffers, reception, requests and cancels, the schedule matrix
and fault confinement.
-/
namespace Sys2Proof.Machine
namespace State

def canSt (s : State) (c : Nat) : Can := s.can.getD c {}
def setCan (s : State) (c : Nat) (f : Can → Can) : State := { s with can := modNth f c s.can }

/-! ## Buffers (R462) -/

def canBuf (c b : Nat) : Nat := 0xB8000 + c * 0x2000 + 0x100 + b * 0x60
def bufWord (s : State) (c b w : Nat) : Nat := s.memN (canBuf c b + 4 * w) 4
def setBufWord (s : State) (c b w v : Nat) : State := s.setBytes (canBuf c b + 4 * w) (leBytes 4 v)
def bufDir (s : State) (c b : Nat) : Nat := fieldOf (s.bufWord c b 0) 31 30
def bufState (s : State) (c b : Nat) : Nat := fieldOf (s.bufWord c b 1) 15 12

/-- TXPEND, RXFULL and RXLOCK show the buffers (R473). -/
def canShow (s : State) (c : Nat) : State :=
  [0, 1].foldl (fun s k =>
    let m := fun (p : Nat → Bool) => maskOf 32 fun i => p (32 * k + i)
    let s := s.putN (Reg.CAN_TXPEND c k) (m fun b => s.bufDir c b == 2 && (s.bufState c b == 3 || s.bufState c b == 4))
    let s := s.putN (Reg.CAN_RXFULL c k) (m fun b => s.bufDir c b == 1 && (s.bufState c b == 1 || s.bufState c b == 2))
    s.putN (Reg.CAN_RXLOCK c k) (m fun b => s.bufDir c b == 1 && s.bufState c b == 2)) s

def setBufState (s : State) (c b st : Nat) : State := (s.setBufWord c b 1 (putField (s.bufWord c b 1) 15 12 st)).canShow c

/-- Bytes of a payload (R462). -/
def dlcLen (dlc : Nat) (fdf : Bool) : Nat :=
  if dlc ≤ 8 then dlc else if !fdf then 8 else [12, 16, 20, 24, 32, 48, 64].getD (dlc - 9) 64

def bufLen (s : State) (c b : Nat) : Nat := dlcLen (s.bufWord c b 1 % 16) (bitAt (s.bufWord c b 1) 5)

/-- A frame with this identifier matches word 0 under word 2 (R463). -/
def idMatch (ide : Bool) (id word mask : Nat) : Bool :=
  (List.range 29).all (fun i => !bitAt mask i || bitAt id i == bitAt word i) && (!bitAt mask 29 || ide == bitAt word 29)

def canIrqEn (s : State) (c b : Nat) : Bool := s.flag (Reg.CAN_IRQ_EN c (b / 32)) (b % 32)
def canCount (s : State) (c k : Nat) : State := s.inc (Reg.CAN_CNT c k)
def canEvt (s : State) (c i : Nat) : State := s.stick (Reg.CAN_EVT c) i
def canStopped (s : State) (c : Nat) : Bool := s.flag (Reg.CAN_STAT c) 4
def busOff (s : State) (c : Nat) : Bool := s.flag (Reg.CAN_STAT c) 2
def canMode (s : State) (c : Nat) : Nat := s.fld (Reg.CAN_CFG c) 1 0

/-- Units of 250 ps in a nominal bit (R461). -/
def canBit (s : State) (c : Nat) : Nat :=
  let v := s.getN (Reg.CAN_NBT c)
  (fieldOf v 8 0 + 1) * (3 + fieldOf v 24 16 + fieldOf v 15 9) * 8

/-- The controller has joined the bus at unit time t: 11 recessive bits have been sampled since its START (R470), or since the last error it
detected in modes 1 and 2 (R467). -/
def canJoined (s : State) (c t : Nat) : Bool := decide ((s.canSt c).startAt + 10 * s.canBit c ≤ t)

/-- IDLE of CANc_STAT (R474). A controller that is stopped, has not joined the bus or has a frame of its own on it reads 0. Otherwise the bus
may be occupied by another node's frame, of which a command tells only when it has ended: the bit is a free value (log entry 157). -/
def canIdle (s : State) (c : Nat) : State :=
  if s.canStopped c || !s.canJoined c (32 * s.tickNo) || (s.canSt c).onBus.isSome then s.setFlag (Reg.CAN_STAT c) 3 false
  else (let f := s.free; f.2.setFlag (Reg.CAN_STAT c) 3 (f.1.getLsbD 0))

/-! ## Error counters (R469) -/

def tec (s : State) (c : Nat) : Nat := s.fld (Reg.CAN_ERR c) 24 16
def canRec (s : State) (c : Nat) : Nat := s.fld (Reg.CAN_ERR c) 7 0

/-- WARN and PASSIVE follow the counters; entry into error passive sets its event (R474). -/
def canErrShow (s : State) (c : Nat) : State :=
  let s := s.setFlag (Reg.CAN_STAT c) 0 (decide (96 ≤ s.tec c) || decide (96 ≤ s.canRec c))
  let p := decide (128 ≤ s.tec c) || decide (128 ≤ s.canRec c)
  let was := s.flag (Reg.CAN_STAT c) 1
  let s := s.setFlag (Reg.CAN_STAT c) 1 p
  if p && !was then
    let s := s.canEvt c 2
    if s.flag (Reg.CAN_IRQ_CFG c) 1 then s.irq (16 + 3 * c) else s
  else s

def setErr (s : State) (c t r : Nat) : State := ((s.setFld (Reg.CAN_ERR c) 24 16 t).setFld (Reg.CAN_ERR c) 7 0 r).canErrShow c

/-! ## Reception (R463) -/

/-- A received frame: identifier, flags, DLC, data, and its SOF stamp. -/
structure CanFrame where
  ide : Bool
  id : Nat
  fdf : Bool
  brs : Bool
  esi : Bool
  rtr : Bool
  dlc : Nat
  data : List Byte

/-- Words 0 and 2 of a buffer as they apply to a frame whose SOF came at unit time t: a write applies from the next SOF (R463). -/
def filterAt (s : State) (c b t : Nat) : Nat × Nat :=
  match (s.canSt c).olds.find? fun x => x.1 == b && decide (t < 32 * x.2.1) with
  | some x => x.2.2
  | none => (s.bufWord c b 0, s.bufWord c b 2)

/-- Buffer b is a receive buffer in state st that a frame with SOF at unit time t matches. -/
def bufTakes (s : State) (c b st t : Nat) (ide : Bool) (id : Nat) : Bool :=
  let w := s.filterAt c b t
  fieldOf w.1 31 30 == 1 && s.bufState c b == st && idMatch ide id w.1 w.2

/-- The frame is lost: counted, and OVR set in every locked buffer that matches. -/
def canLost (s : State) (c : Nat) (f : CanFrame) (t : Nat) : State :=
  let s := ((s.canCount c 1).canEvt c 0).evt (0x042 + 4 * c)
  if f.rtr then s
  else (List.range 64).foldl (fun s b =>
    if s.bufTakes c b 2 t f.ide f.id then s.setBufWord c b 1 (putField (s.bufWord c b 1) 10 10 1) else s) s

/-- Word 0 of a buffer that stores a frame with SOF at unit time t: the received identifier; a word written since that SOF stands (R463; log
entry 229). -/
def storedWord0 (s : State) (c b t : Nat) (f : CanFrame) : Nat :=
  if s.bufWord c b 0 = (s.filterAt c b t).1 then 0x40000000 + b2n f.ide * 2 ^ 29 + f.id % 2 ^ 29 else s.bufWord c b 0

/-- A valid frame with SOF at unit time t is stored in the lowest EMPTY buffer that matches, or lost; remote frames are lost (R460, R463). -/
def canStore (s : State) (c : Nat) (f : CanFrame) (sof : Nat × Nat × Nat) (t : Nat) : State :=
  let r := s.canRec c
  let s := s.setErr c (s.tec c) (if s.canMode c = 1 ∨ s.canMode c = 2 then r else if 127 < r then 127 else r - 1)
  if f.rtr then s.canLost c f t
  else
    match (List.range 64).find? fun b => s.bufTakes c b 0 t f.ide f.id with
    | none => s.canLost c f t
    | some b =>
      let q := s.fld (Reg.CAN_RXSEQ c) 15 0
      let w1 := q * 65536 + 0x1000 + b2n f.esi * 128 + b2n f.brs * 64 + b2n f.fdf * 32 + f.dlc % 16
      let s := (s.setBufWord c b 0 (s.storedWord0 c b t f)).setBufWord c b 1 w1
      let s := (s.setBufWord c b 3 (sof.2.2 * 2 ^ 30 + sof.2.1)).setBufWord c b 4 (sof.1 % 2 ^ 32)
      let s := s.setBytes (canBuf c b + 20) (f.data.take (dlcLen f.dlc f.fdf))
      let s := ((s.setFld (Reg.CAN_RXSEQ c) 15 0 (q + 1)).canCount c 0).evt (0x040 + 4 * c)
      let s := s.canShow c
      if s.canIrqEn c b then s.irq (14 + 3 * c) else s

/-- The first read of a FULL buffer locks it (R464). -/
def bufLock (s : State) (c b : Nat) : State := if s.bufDir c b = 1 ∧ s.bufState c b = 1 then s.setBufState c b 2 else s

/-- A read of word LASTW empties a FULL or LOCKED buffer (R464). -/
def bufRelease (s : State) (c b : Nat) : State :=
  if s.bufDir c b = 1 ∧ (s.bufState c b = 1 ∨ s.bufState c b = 2) then s.setBufState c b 0 else s

/-! ## Transmission (R465, R468) -/

/-- Units of 250 ps in a data bit (R461). -/
def canDataBit (s : State) (c : Nat) : Nat :=
  let v := s.getN (Reg.CAN_DBT c)
  (fieldOf v 28 24 + 1) * (3 + fieldOf v 20 16 + fieldOf v 11 8) * 8

/-- Bits on the bus up to the last of a field: after five equal bits one of the other level is stuffed (ISO 11898-1). -/
def busBits (last : Bool) (run : Nat) : List Bool → Nat
  | [] => 0
  | [_] => 1
  | b :: l =>
    let r := if b = last then run + 1 else 1
    if r = 5 then 2 + busBits (!b) 1 l else 1 + busBits b r l

/-- SOF and the arbitration field of a transmit buffer, up to RTR or RRS. -/
def arbField (s : State) (c b : Nat) : List Bool :=
  let w := s.bufWord c b 0
  let id := fun (hi n : Nat) => (List.range n).map fun i => bitAt w (hi - i)
  [false] ++ id 28 11 ++ (if bitAt w 29 then [true, true] ++ id 17 18 else []) ++ [false]

/-- Unit time of the sample point of the last arbitration bit of the frame on the bus, which went on it with the stamp of its SOF sample
point (R462, R468). -/
def arbEnd (s : State) (c b : Nat) : Nat := (s.canSt c).sofAt + (busBits true 0 (s.arbField c b) - 1) * s.canBit c

/-- The arbitration field as it goes on the bus: the base identifier, then IDE and the extension (R465). -/
def arbKey (s : State) (c b : Nat) : Nat :=
  let w := s.bufWord c b 0
  fieldOf w 28 18 * 2 ^ 19 + (if bitAt w 29 then 2 ^ 18 + fieldOf w 17 0 else 0)

/-- The pending buffer that contends first. -/
def canNext (s : State) (c : Nat) : Option Nat :=
  ((List.range 64).filter fun b => s.bufDir c b == 2 && s.bufState c b == 3).foldl (fun o b => match o with
    | none => some b
    | some x => if s.arbKey c b < s.arbKey c x then some b else some x) none

/-- A request of one transmit buffer; m tells the matrix's requests (R465, R466). -/
def bufRequest (s : State) (c b : Nat) (m : Bool) : State :=
  if s.bufDir c b != 2 || s.bufState c b == 4 then s
  else if s.bufState c b == 3 then (if m then s else s.setCan c fun x => { x with matrix := x.matrix.filter (· != b) })
  else if bitAt (s.bufWord c b 1) 5 && !s.flag (Reg.CAN_CFG c) 4 then s.setBufState c b 6
  else if (s.canSt c).cancTick = s.tickNo ∧ (s.canSt c).canc.contains b then s.setBufState c b 6
  else
    let s := s.setBufWord c b 1 (putField (s.bufWord c b 1) 11 11 0)
    (s.setBufState c b 3).setCan c fun x => { x with matrix := if m then b :: x.matrix else x.matrix }

def canTxReq (s : State) (c k mask : Nat) : State := (bitsOf 32 mask).foldl (fun s i => s.bufRequest c (32 * k + i) false) s

/-- A cancel of one buffer; a frame on the bus stops only in a tick that starts before the sample point of its last arbitration bit (R468). -/
def bufCancel (s : State) (c b : Nat) : State :=
  let old := s.canSt c
  let canc := if old.cancTick = s.tickNo then b :: old.canc else [b]
  let s := s.setCan c fun x => { x with canc := canc, cancTick := s.tickNo }
  if s.bufDir c b != 2 then s
  else if s.bufState c b = 3 then (s.setBufState c b 6).setCan c fun x => { x with matrix := x.matrix.filter (· != b) }
  else if s.bufState c b = 4 then
    if 32 * s.tickNo < s.arbEnd c b then ((s.setBufState c b 6).setCan c fun x => { x with onBus := none }).canIdle c
    else (s.setBufWord c b 1 (putField (s.bufWord c b 1) 11 11 1)).canCount c 4
  else s

def canTxCan (s : State) (c k mask : Nat) : State := (bitsOf 32 mask).foldl (fun s i => s.bufCancel c (32 * k + i)) s

/-- The controller can put a pending buffer on the bus (R467, R469). -/
def canMaySend (s : State) (c : Nat) : Bool :=
  !s.canStopped c && s.canJoined c (32 * s.tickNo) && !s.busOff c && (s.canMode c == 0 || s.canMode c == 3) && (s.canSt c).onBus.isNone && s.mode != STANDBY

/-- The pending buffer that contends first goes on the bus; the sample point of its SOF lies u units into the tick. -/
def canTxStart (s : State) (c u : Nat) : State :=
  match s.canNext c with
  | none => s
  | some b =>
    let t := s.stamp u
    let s := s.setCan c fun x => { x with onBus := some b, sof := t, sofAt := 32 * s.tickNo + u, matrix := x.matrix.filter (· != b) }
    (s.setBufState c b 4).canIdle c

/-- The frame of a transmit buffer (R462); ESI tells that the sender is error passive (ISO 11898-1). -/
def bufFrame (s : State) (c b : Nat) : CanFrame :=
  let w0 := s.bufWord c b 0
  let w1 := s.bufWord c b 1
  let fdf := bitAt w1 5
  { ide := bitAt w0 29, id := w0 % 2 ^ 29, fdf, brs := fdf && bitAt w1 6 && s.flag (Reg.CAN_CFG c) 5, esi := fdf && s.flag (Reg.CAN_STAT c) 1, rtr := false,
    dlc := w1 % 16, data := s.bytesAt (canBuf c b + 20) (s.bufLen c b) }

/-- Least time of the frame of a transmit buffer from the sample point of its SOF to that of its last bit, without stuff bits (ISO 11898-1). -/
def frameUnits (s : State) (c b : Nat) : Nat :=
  let f := s.bufFrame c b
  let n := 8 * s.bufLen c b
  let ext := if f.ide then (if f.fdf then 19 else 20) else 0
  if !f.fdf then (43 + ext + n) * s.canBit c
  else (26 + ext) * s.canBit c + (5 + n) * (if f.brs then s.canDataBit c else s.canBit c)

/-- The frame on the bus has had the time to end by the end of the tick. -/
def frameRan (s : State) (c : Nat) : Bool := match (s.canSt c).onBus with
  | some b => decide ((s.canSt c).sofAt + s.frameUnits c b ≤ 32 * (s.tickNo + 1))
  | none => false

/-- A transmission succeeds (R465). In internal loopback the controller receives its own frame (R467). -/
def canSent (s : State) (c : Nat) : State :=
  match (s.canSt c).onBus with
  | none => s
  | some b =>
    let t := (s.canSt c).sof
    let s := s.setCan c fun x => { x with onBus := none }
    let s := (s.setBufWord c b 3 (t.2.2 * 2 ^ 30 + t.2.1)).setBufWord c b 4 (t.1 % 2 ^ 32)
    let s := ((s.setBufState c b 5).stick (Reg.CAN_TXDONE c (b / 32)) (b % 32)).canCount c 2
    let s := ((s.setErr c (s.tec c - 1) (s.canRec c)).canIdle c).evt (0x041 + 4 * c)
    let s := if s.canIrqEn c b then s.irq (15 + 3 * c) else s
    if s.canMode c = 3 then s.canStore c (s.bufFrame c b) t (s.canSt c).sofAt else s

/-- The attempt on the bus ends: the frame returns to PENDING, or is cancelled after a late cancel (R465, R468). -/
def attemptEnd (s : State) (c : Nat) : State :=
  match (s.canSt c).onBus with
  | none => s
  | some b =>
    let st := if bitAt (s.bufWord c b 1) 11 then 6 else 3
    ((s.setBufState c b st).setCan c fun x => { x with onBus := none }).canIdle c

/-- Bus-off is entered (R469). -/
def enterBusOff (s : State) (c : Nat) : State :=
  let s := ((s.setFlag (Reg.CAN_STAT c) 2 true).canEvt c 3).canCount c 5
  let s := (s.putN (Reg.CAN_BO_NS c) s.nowNs).putN (Reg.CAN_BO_SEC c) s.nowSec
  let s := s.setCan c fun x => { x with boTick := some s.tickNo }
  if s.flag (Reg.CAN_IRQ_CFG c) 2 then s.irq (16 + 3 * c) else s

/-- FD_EN is 0: a pending FD frame completes as CANCELLED (R462). -/
def fdCancel (s : State) (c : Nat) : State :=
  if s.flag (Reg.CAN_CFG c) 4 then s
  else (List.range 64).foldl (fun s b =>
    if s.bufDir c b == 2 && s.bufState c b == 3 && bitAt (s.bufWord c b 1) 5 then
      (s.setBufState c b 6).setCan c fun x => { x with matrix := x.matrix.filter (· != b) }
    else s) s

/-- The steps of TEC and REC that ISO 11898-1 gives to one error of kind 1 to 6 (R469; log entry 156). The transmitter gains 8, or 0 for a
missing acknowledge while error passive and for a stuff error in arbitration; without a frame of its own on the bus the controller gains 1, 8
for a dominant bit after its error flag or a bit error in one, or both, as receiver, or 8 as the transmitter it was. -/
def isoSteps (s : State) (c kind dt dr : Nat) : Bool :=
  if kind == 0 || s.canMode c == 1 || s.canMode c == 2 then true
  else if (s.canSt c).onBus.isSome then
    dr == 0 && (dt == 8 || (dt == 0 && ((kind == 3 && s.flag (Reg.CAN_STAT c) 1) || kind == 1)))
  else (dt == 0 && (dr == 1 || dr == 8 || dr == 9)) || (dt == 8 && dr == 0)

/-- A bus error of kind 1 to 6 (CANc_LEC), or lost arbitration (0); dt and dr are what ISO 11898-1 adds to TEC and REC (R469). In modes 1 and
2 the counters stay, and the controller waits for 11 recessive bits (R467). -/
def canError (s : State) (c kind : Nat) (data : Bool) (dt dr : Nat) : State :=
  if kind = 0 then s.attemptEnd c
  else
    let s := ((s.setFld (Reg.CAN_LEC c) 10 8 kind).setFlag (Reg.CAN_LEC c) 0 data).canCount c 6
    let s := s.evt (0x043 + 4 * c)
    let s := s.attemptEnd c
    if s.canMode c = 1 ∨ s.canMode c = 2 then (s.setCan c fun x => { x with startAt := 32 * s.tickNo }).canIdle c
    else
      let t := s.tec c + dt
      let s := s.setErr c t (min (s.canRec c + dr) 255)
      if 255 < t ∧ !s.busOff c then s.enterBusOff c else s

/-- RECOVER (R469). -/
def canRecover (s : State) (c : Nat) : State :=
  if s.busOff c && (s.canSt c).boTick != some s.tickNo then (s.setFld (Reg.CAN_STAT c) 10 8 1).setCan c fun x => { x with recoverAt := 32 * s.tickNo }
  else s.canEvt c 5

/-- 128 occurrences of 11 recessive bits can have been sampled since the RECOVER by the end of the tick (R469). -/
def recoverDue (s : State) (c : Nat) : Bool :=
  s.fld (Reg.CAN_STAT c) 10 8 == 1 && !s.canStopped c && decide ((s.canSt c).recoverAt + 1407 * s.canBit c ≤ 32 * (s.tickNo + 1))

/-- 128 occurrences of 11 recessive bits have been counted. -/
def canRecovered (s : State) (c : Nat) : State :=
  let s := (s.setFld (Reg.CAN_STAT c) 10 8 0).setFlag (Reg.CAN_STAT c) 2 false
  ((s.setErr c 0 0).canEvt c 4).setCan c fun x => { x with boTick := none }

/-- START joins the bus, and a recovery begun while stopped counts from it (R469); in the state of R64 it has no effect (R470). -/
def canStart (s : State) (c : Nat) : State :=
  if s.sys.recipeOk && s.canStopped c then ((s.setFlag (Reg.CAN_STAT c) 4 false).setCan c fun x => { x with startAt := 32 * s.tickNo, recoverAt := 32 * s.tickNo }).canIdle c
  else s

/-- STOP: the frame on the bus returns to PENDING, locked buffers are released, bus-off stays and a recovery ends (R464, R469). -/
def canStop (s : State) (c : Nat) : State :=
  let s := (s.attemptEnd c).setFlag (Reg.CAN_STAT c) 4 true
  let s := (List.range 64).foldl (fun s b => if s.bufDir c b = 1 ∧ s.bufState c b = 2 then s.setBufState c b 0 else s) s
  (s.setFld (Reg.CAN_STAT c) 10 8 0).canIdle c

/-! ## The schedule matrix (R466) -/

def colLen (s : State) (c : Nat) : Nat := s.fld (Reg.CAN_TT_CFG c) 15 0

/-- The column that runs at a time of the time base. -/
def columnAt (s : State) (c t : Nat) : Nat := t % (64000 * s.colLen c) / (1000 * s.colLen c)

/-- The column that runs at the last instant of the tick. -/
def columnNow (s : State) (c : Nat) : Nat := s.columnAt c ((s.timeEnd + 2 ^ 64 - 1) % 2 ^ 64)

/-- A new column has begun. -/
def columnDue (s : State) (c : Nat) : Bool := s.flag (Reg.CAN_TT_CFG c) 31 && (s.canSt c).col != some (s.columnNow c)

/-- The buffers that the rows of a column request. -/
def columnBufs (s : State) (c col : Nat) : List Nat :=
  ((List.range 16).filterMap fun r =>
    let e := s.memN (0xB8000 + c * 0x2000 + 0x1C00 + 16 * col + r) 1
    if bitAt e 7 then some (e % 64) else none)

/-- The end of a column: requests that have not gone on the bus are MISSED. -/
def columnEnd (s : State) (c : Nat) : State :=
  (s.canSt c).matrix.foldl (fun s b =>
    if s.bufState c b = 3 then
      let s := ((s.setBufState c b 7).canCount c 3).canEvt c 1
      if s.flag (Reg.CAN_IRQ_CFG c) 0 then s.irq (16 + 3 * c) else s
    else s) (s.setCan c fun x => { x with matrix := [] })

/-- A column starts. -/
def columnStart (s : State) (c : Nat) : State :=
  let k := s.columnNow c
  let s := s.columnEnd c
  let s := if k = 0 ∧ (s.canSt c).col.isSome then s.setFld (Reg.CAN_TT_STAT c) 31 16 (s.fld (Reg.CAN_TT_STAT c) 31 16 + 1) else s
  let s := (s.setFld (Reg.CAN_TT_STAT c) 5 0 k).setCan c fun x => { x with col := some k }
  if s.mode = STANDBY then s else (s.columnBufs c k).foldl (fun s b => s.bufRequest c b true) s

/-- TT_EN is set within a column: the matrix drives from the start of the next one. TT_EN is cleared: the column that runs ends. -/
def ttWritten (s : State) (c : Nat) : State :=
  if s.flag (Reg.CAN_TT_CFG c) 31 then
    let k := s.columnAt c s.time64
    (s.setFld (Reg.CAN_TT_STAT c) 5 0 k).setCan c fun x => { x with col := some k }
  else (s.columnEnd c).setCan c fun x => { x with col := none }

def canCntClr (s : State) (c : Nat) : State := (List.range 8).foldl (fun s k => s.putN (Reg.CAN_CNT c k) 0) s

/-- A write to bytes of the buffer area: ignored and counted where the buffer is PENDING or ON_BUS (R465). -/
def canWrite (s : State) (c off : Nat) (bs : List Byte) : State :=
  let a := 0xB8000 + c * 0x2000 + off
  if off < 0x1900 then
    let b := (off - 0x100) / 0x60
    if s.bufDir c b = 2 ∧ (s.bufState c b = 3 ∨ s.bufState c b = 4) then s.canCount c 7
    else
      let w := (off - 0x100) % 0x60 / 4
      let old := (b, s.tickNo, s.bufWord c b 0, s.bufWord c b 2)
      let s := if w = 0 ∨ w = 2 then s.setCan c fun x => { x with olds := x.olds ++ [old] } else s
      (s.setBytes a bs).canShow c
  else s.setBytes a bs

end State
end Sys2Proof.Machine
end

