-- ==== Sys2Proof/Machine/Gdr.lean ====
section
/-!
DEFINITION. The gate-drive segments (chapter 10): dead time and interlock, direct mode, drive strength, protection, latches
and the keyed clear.
-/
namespace Sys2Proof.Machine
namespace State

def leg (s : State) (h : Nat) : Leg := s.gdr.legs.getD h {}
def setLeg (s : State) (h : Nat) (f : Leg → Leg) : State := { s with gdr := { s.gdr with legs := modNth f h s.gdr.legs } }
def sw (s : State) (h : Nat) (hi : Bool) : Switch := if hi then (s.leg h).hi else (s.leg h).lo
def setSw (s : State) (h : Nat) (hi : Bool) (f : Switch → Switch) : State :=
  s.setLeg h fun l => if hi then { l with hi := f l.hi } else { l with lo := f l.lo }

/-- GDR_EVT bit i; source 42 fires when it is set (R481). -/
def gdrEvt (s : State) (i : Nat) : State := s.setEvt Reg.GDR_EVT i 42

/-- Half-bridge h is in direct mode (R293). -/
def direct (s : State) (h : Nat) : Bool := s.flag Reg.GDR_DIRECT h

def gdrLatched (s : State) (h : Nat) : Bool := s.getN (Reg.GDR_HB_FLT h) % 1024 != 0
def segUp (s : State) (h : Nat) : Bool := s.flag Reg.GDR_STAT (16 + h)

/-- GDR_HBh_STAT and GDR_STAT as the segment stands. -/
def legStat (s : State) (h : Nat) : State :=
  let l := s.leg h
  let a := Reg.GDR_HB_STAT h
  let s := (((s.setFlag a 0 l.hi.on).setFlag a 1 l.lo.on).setFlag a 2 l.hi.soft).setFlag a 3 l.lo.soft
  let s := ((s.setFlag a 4 (s.gdrLatched h)).setFlag a 5 (s.direct h)).setFlag a 8 (s.segUp h)
  (s.setFlag Reg.GDR_STAT h (l.hi.soft || l.lo.soft)).setFlag Reg.GDR_STAT (8 + h) (s.direct h)

/-- The sources whose causes GDR_HBh_FLT latches (R345): present while the cause is latched. VALUE carries the bits. -/
def gdrConds (s : State) (h : Nat) : State :=
  let v := s.getN (Reg.GDR_HB_FLT h)
  let c := fun (s : State) (code lo hi : Nat) => s.setCond (code + h) (fieldOf v hi lo != 0) h v
  c (c (c (c (c s 0x08 0 1) 0x0E 2 3) 0x14 4 5) 0x98 6 7) 0xA0 8 8

/-- The dead time of GDR_HBh_DT in force, in ns (R289, R312). -/
def deadTime (s : State) (h : Nat) : Nat := 20 + 2 * s.actFld (Reg.GDR_HB_DT h) 9 0

/-- Blanking, T_GCM and the soft time in ns (R303-R305, R312, R313). -/
def blankNs (s : State) (h : Nat) : Nat := 200 + 50 * s.fld (Reg.GDR_HB_DESAT h) 21 16
def gcmNs (s : State) (h : Nat) : Nat := 100 + 10 * s.fld (Reg.GDR_HB_GCM h) 7 0
def softNs (s : State) (h : Nat) : Nat := 500 + 100 * s.fld (Reg.GDR_HB_STOFF h) 22 16

/-- The desaturation comparator of a switch reads above VTH now (R312). -/
def desatAbove (s : State) (h : Nat) (hi : Bool) : Bool := s.flag (Reg.GDR_HB_STAT h) (if hi then 9 else 10)

/-- ns after the unit time at0 have passed by the end of the tick. -/
def passedNs (s : State) (at0 ns : Nat) : Bool := decide (at0 + 4 * ns < 32 * (s.tickNo + 1))

/-- A soft turn-off starts at unit time t, for the time that STOFF.T gives now (R303). -/
def startSoft (s : State) (h t : Nat) (hi : Bool) : State :=
  (s.setSw h hi fun w => { w with on := false, pending := false, waiting := false, low := false, soft := true, softFor := s.softNs h, softOff := true,
                                  edgeOff := w.edgeOff || w.on, offAt := t }).legStat h

/-- R306 makes the turn-off of a switch that is on soft. Whether the gate of a switch whose turn-on edge has not crossed the window of R300 still
lies in it is a free bit (log entry 10). -/
def judgeSoft (s : State) (h t : Nat) (hi : Bool) : Bool × State :=
  let w := s.sw h hi
  let (fv, s) := if w.measured then ((0 : Word), s) else s.free
  (fv.getLsbD 0 || (s.desatAbove h hi && decide (w.onAt + 4 * s.blankNs h ≤ t)), s)

/-- What a soft turn-off of R306 counts and raises. -/
def countSoft (s : State) (h : Nat) : State :=
  let s := s.inc (Reg.GDR_HB_CNT_SOFT h)
  ((s.inc Reg.GDR_CNT_SOFT).gdrEvt 1).pulse (0xB0 + h) h (s.getN (Reg.GDR_HB_FLT h))

/-- A switch turns off at unit time t, softly where R306 says so. A command that ends before its switch has turned on takes the mark of an edge with
it (R300). -/
def gateOff (s : State) (h t : Nat) (hi : Bool) : State :=
  if !(s.sw h hi).on then
    (s.setSw h hi fun w => { w with pending := false, waiting := false, cut := w.cut.filter fun on => !on }).legStat h
  else
    let (soft, s) := s.judgeSoft h t hi
    if soft then (s.startSoft h t hi).countSoft h
    else (s.setSw h hi fun w => { w with on := false, pending := false, waiting := false, low := false, softOff := false, edgeOff := true,
                                         offAt := t }).legStat h

def legOff (s : State) (h t : Nat) : State := (s.gateOff h t true).gateOff h t false

/-- A switch turns on (R288, R291); under bootstrap a low rail holds it off (R297). -/
def gateOn (s : State) (h t : Nat) (hi : Bool) : State :=
  let s := s.setSw h hi fun w => { w with pending := false, waiting := false }
  if hi && s.flag (Reg.GDR_HB_CFG h) 0 && !s.flag (Reg.GDR_HB_STAT h) 6 then s.inc (Reg.GDR_HB_CNT_UVLO h)
  else (s.setSw h hi fun w => { w with on := true, low := false, measured := false, edgeOn := true, onAt := t,
                                            cut := w.cut.filter id }).legStat h

/-- The dead time, if any, has ended at unit time t: the interlock of R291 is judged, and a soft turn-off of the switch itself runs to its end
first (R303). -/
def gateTry (s : State) (h t : Nat) (hi : Bool) : State :=
  let wait := fun (s : State) => s.setSw h hi fun w => { w with pending := false, waiting := true }
  if !(s.sw h !hi).low || (s.sw h !hi).on then (wait s).inc (Reg.GDR_HB_CNT_INTLK h)
  else if (s.sw h hi).soft then wait s
  else s.gateOn h t hi

/-- The leg takes no command: latched, or no link (R307-R309). -/
def legBlocked (s : State) (h : Nat) : Bool := s.gdrLatched h || !s.segUp h

/-- The switch whose dead time has ended turns on, if the interlock allows it (R288, R291). -/
def deadTimeEnd (s : State) (h : Nat) (hi : Bool) : State := s.gateTry h ((s.sw h hi).cmdAt + 4 * (s.sw h hi).dead) hi

/-- Dead times that have ended by unit time t. -/
def deadTimesTo (s : State) (h t : Nat) : State :=
  [true, false].foldl (fun s hi =>
    let w := s.sw h hi
    if w.pending && !s.legBlocked h && decide (w.cmdAt + 4 * w.dead ≤ t) then s.deadTimeEnd h hi else s) s

/-- PULSE and EN at the driver outside direct mode at unit time t (R288, R290). An interval is short while the dead time of the switch that it selects
still runs. The switch that follows a short interval turns on with an edge that R300 does not measure: it is the gate edge that ends the interval
(log entry 194). -/
def legCommand (s : State) (h t : Nat) (pulse en : Bool) : State :=
  let s := s.deadTimesTo h t
  let old := s.leg h
  let s := s.setLeg h fun l => { l with a := pulse, b := en, pulseAt := if old.a == pulse then old.pulseAt else t }
  if s.legBlocked h then s
  else if !en then s.legOff h t
  else
    let gone := s.sw h !pulse
    let short := old.b && old.a != pulse && gone.pending && decide (t - old.pulseAt < 4 * gone.dead)
    let s := if short then (s.inc (Reg.GDR_HB_CNT_SHORT h)).gdrEvt 5 else s
    let s := s.gateOff h t !pulse
    let w := s.sw h pulse
    if w.on || w.pending || w.waiting then s
    else s.setSw h pulse fun w => { w with pending := true, cmdAt := t, dead := s.deadTime h, cut := if short then some true else w.cut }

/-- HI and LO of direct mode (R293, R294). -/
def legDirect (s : State) (h t : Nat) (hi lo : Bool) : State :=
  let old := s.leg h
  let s := s.setLeg h fun l => { l with a := hi, b := lo }
  if s.legBlocked h then s
  else if hi && lo then
    if old.conflict then s
    else
      let cut := fun (w : Switch) => if w.on then { w with cut := some false } else w
      let s := s.setLeg h fun l => { l with hi := cut l.hi, lo := cut l.lo }
      let s := (s.legOff h t).setLeg h fun l => { l with conflict := true }
      ((s.inc (Reg.GDR_HB_CNT_INTLK h)).gdrEvt 6).pulse (0xB8 + h) h (s.getN (Reg.GDR_HB_FLT h))
  else
    let s := s.setLeg h fun l => { l with conflict := false }
    let s := if hi then s else s.gateOff h t true
    let s := if lo then s else s.gateOff h t false
    let one := fun (s : State) (x : Bool) =>
      let w := s.sw h x
      if w.on || w.waiting then s else s.gateTry h t x
    if hi then one s true else if lo then one s false else s

/-- The inputs of the leg as they stand reach the segment. -/
def legInput (s : State) (h t : Nat) (a b : Bool) : State := if s.direct h then s.legDirect h t a b else s.legCommand h t a b

/-! ## Latches (R304, R305, R307-R310) -/

/-- Number of the source that a cause of half-bridge h raises (R345). -/
def gdrSource (bit h : Nat) : Nat :=
  (if bit < 2 then 0x08 else if bit < 4 then 0x0E else if bit < 6 then 0x14 else if bit < 8 then 0x98 else if bit = 8 then 0xA0 else 0x100) + h

/-- GDR_FIRST names a cause, which a cause with a lower source number in the same tick displaces (R307). -/
def gdrFirstHeld (s : State) (h bit : Nat) : Bool :=
  s.flag Reg.GDR_FIRST 31 &&
    !(s.getN Reg.GDR_FIRST_NS == s.nowNs && s.getN Reg.GDR_FIRST_SEC == s.nowSec
      && decide (gdrSource bit h < gdrSource (s.fld Reg.GDR_FIRST 11 8) (s.fld Reg.GDR_FIRST 2 0)))

/-- A cause is latched: summary, first cause, conditions (R309, R311). -/
def gdrLatch (s : State) (h bit : Nat) : State :=
  let s := s.setFlag (Reg.GDR_HB_FLT h) bit true
  let s := s.setFlag Reg.GDR_FLT_SUM h true
  let s := if s.gdrFirstHeld h bit then s
    else ((s.putN Reg.GDR_FIRST (0x80000000 + 256 * bit + h)).putN Reg.GDR_FIRST_NS s.nowNs).putN Reg.GDR_FIRST_SEC s.nowSec
  s.legStat h

/-- A short-circuit trip of one switch: soft turn-off, latch, the other switch off (R304, R305, R307). A second cause on the same
switch in the same tick joins the first record. -/
def gdrTrip (s : State) (h : Nat) (hi : Bool) (bit : Nat) : State :=
  let joined := (s.leg h).trip == some (s.tickNo, hi)
  let s := if (s.sw h hi).soft then s else s.startSoft h (32 * s.tickNo) hi
  let s := s.gdrLatch h bit
  let s := ((s.inc (Reg.GDR_HB_CNT_SC h)).inc Reg.GDR_CNT_SC).gdrEvt 0
  let s := if joined then s else (s.setLeg h fun l => { l with trip := some (s.tickNo, hi) }).gateOff h (32 * s.tickNo) !hi
  let v := s.getN (Reg.GDR_HB_FLT h)
  if joined then
    let code := (if bit / 2 = 0 then 0x08 else if bit / 2 = 1 then 0x0E else 0x14) + h
    let s := s.setFlag (Reg.FLT_ACTIVE (code / 32)) (code % 32) true
    let amend := fun (r : FltRec) =>
      let c := leAt r.bytes 4 1
      if r.tick == s.tickNo && leAt r.bytes 26 2 == h && (c == 0x08 + h || c == 0x0E + h || c == 0x14 + h) then
        { r with bytes := r.bytes.take 28 ++ leBytes 4 v } else r
    { s with flt := { s.flt with queue := s.flt.queue.map amend } }
  else s.gdrConds h

/-- UVLO, SEG_LOSS or PWR latched: the leg turns off (R297, R298, R308). -/
def gdrLatchOff (s : State) (h bit : Nat) : State := ((s.legOff h (32 * s.tickNo)).gdrLatch h bit).gdrConds h

/-- The turn-on rail of a switch is low (R297): under bootstrap the high-side monitor is checked only while its switch is commanded on. A
switch that is on turns off softly, and where R306 would have it so that counts as its soft turn-off. -/
def uvlo (s : State) (h : Nat) (hi : Bool) : State :=
  let w := s.sw h hi
  let s := s.setFlag (Reg.GDR_HB_STAT h) (if hi then 6 else 7) false
  if hi && s.flag (Reg.GDR_HB_CFG h) 0 && !(w.on || w.pending || w.waiting) then s
  else
    let t := 32 * s.tickNo
    let s := if w.on then (let (soft, s) := s.judgeSoft h t hi; if soft then (s.startSoft h t hi).countSoft h else s.startSoft h t hi) else s
    ((s.gdrLatchOff h (if hi then 6 else 7)).inc Reg.GDR_CNT_UVLO).gdrEvt 2

/-- The rail is within limits (R297, R310). -/
def railBack (s : State) (h : Nat) (hi : Bool) : State :=
  (s.setSw h hi fun w => { w with railSince := s.tickNo }).setFlag (Reg.GDR_HB_STAT h) (if hi then 6 else 7) true

/-- The segment's link is lost (R308). -/
def segLost (s : State) (h : Nat) : State :=
  let s := (s.gdrLatchOff h 8).setFlag Reg.GDR_STAT (16 + h) false
  ((s.inc Reg.GDR_CNT_SEG).gdrEvt 3).legStat h

/-- The inputs of a leg that takes commands again: a command that is present begins now (log entry 193). -/
def legResume (s : State) (h : Nat) : State := s.legInput h (32 * s.tickNo) (s.leg h).a (s.leg h).b

/-- The link carries valid symbols again (R308, R310). -/
def segBack (s : State) (h : Nat) : State :=
  let s := (s.setFlag Reg.GDR_STAT (16 + h) true).setLeg h fun l => { l with linkSince := s.tickNo }
  (s.legStat h).legResume h

/-- A switch is on, or was when this tick began: a trip of the tick, of this switch or of another, has turned it off (R307). -/
def onInTick (s : State) (h : Nat) (hi : Bool) : Bool :=
  (s.sw h hi).on || ((s.sw h hi).edgeOff && decide (32 * s.tickNo ≤ (s.sw h hi).offAt))

/-- The comparator of a switch has read above VTH for `ns` ns: it trips after 20 ns once blanking is over (R304, R307). -/
def desatTrips (s : State) (h : Nat) (hi : Bool) (ns : Nat) : Bool :=
  decide (20 ≤ ns) && s.onInTick h hi && s.passedNs (s.sw h hi).onAt (s.blankNs h + 20)

/-- The gate of a switch can have stayed on the plateau for longer than T_GCM after the on-command (R305, R307). -/
def gcmTrips (s : State) (h : Nat) (hi : Bool) : Bool :=
  s.onInTick h hi && !(s.sw h hi).measured && s.passedNs (s.sw h hi).onAt (s.gcmNs h)

/-- The gate of a switch can have been above VON for 20 ns (R305, R307). -/
def govTrips (s : State) (h : Nat) (hi : Bool) : Bool := s.onInTick h hi && s.passedNs (s.sw h hi).onAt 20

/-- The comparator of a switch reads above VTH for `ns` ns now, 0 where it reads below (R304, R310, R312). -/
def desatTrip (s : State) (h : Nat) (hi : Bool) (ns : Nat) : State :=
  let trips := s.desatTrips h hi ns
  let s := s.setFlag (Reg.GDR_HB_STAT h) (if hi then 9 else 10) (ns != 0)
  if trips then s.gdrTrip h hi (if hi then 0 else 1) else s

/-- A switch that waits beyond its dead time turns on when the other gate is low and no soft turn-off of its own runs (R291, R303). -/
def gateRelease (s : State) (h : Nat) (hi : Bool) : State :=
  let w := s.sw h hi
  if w.waiting && !w.soft && (s.sw h !hi).low && !(s.sw h !hi).on && !s.legBlocked h then s.gateOn h (32 * s.tickNo) hi else s

/-- A soft turn-off ends; above says what the comparator then reads (R303, R310). -/
def softEnd (s : State) (h : Nat) (hi above : Bool) : State :=
  let s := (s.setSw h hi fun w => { w with soft := false }).setFlag (Reg.GDR_HB_STAT h) (if hi then 9 else 10) above
  (s.legStat h).gateRelease h hi

/-- The gate of one switch has been sensed low: a switch of the leg that waits for it turns on (R291). -/
def gateLow (s : State) (h : Nat) (hi : Bool) : State := (s.setSw h hi fun w => { w with low := true }).gateRelease h !hi

/-- The dead time of a command that is still present has ended within the tick (R288). -/
def deadTimeOver (s : State) (h : Nat) (hi : Bool) : Bool :=
  let w := s.sw h hi
  w.pending && !s.legBlocked h && s.passedNs w.cmdAt w.dead

/-- Dead times that end in this tick. -/
def gdrTick (s : State) : State :=
  (List.range 6).foldl (fun s h => [true, false].foldl (fun s hi => if s.deadTimeOver h hi then s.deadTimeEnd h hi else s) s) s

/-- Every latched cause of the half-bridge is gone (R310). -/
def gdrGone (s : State) (h : Nat) : Bool :=
  let v := s.getN (Reg.GDR_HB_FLT h)
  let l := s.leg h
  let one := fun (hi : Bool) =>
    let w := s.sw h hi
    let o := if hi then 0 else 1
    (!(bitAt v o || bitAt v (2 + o) || bitAt v (4 + o)) || (!w.soft && !s.flag (Reg.GDR_HB_STAT h) (9 + o)))
    && (!bitAt v (6 + o) || (s.flag (Reg.GDR_HB_STAT h) (6 + o) && s.elapsed w.railSince 1000000))
  one true && one false
  && (!bitAt v 8 || (s.segUp h && s.elapsed l.linkSince 1000000))
  && (!bitAt v 9 || decide (s.fld (Reg.GDR_HB_PWR h) 15 0 < 2250))

/-- The keyed clear for the half-bridges in the mask (R310). -/
def gdrClear (s : State) (mask : Nat) : State :=
  let one := fun (s : State) (h : Nat) =>
    if !s.gdrLatched h then s
    else if s.gdrGone h then
      let s := ((s.putN (Reg.GDR_HB_FLT h) 0).setFlag Reg.GDR_FLT_SUM h false).gdrEvt 9
      let s := (s.setLeg h fun l => { l with pwrRun := 0, trip := none }).gdrConds h
      (s.legStat h).legResume h
    else (s.inc Reg.GDR_CNT_CLR_KEPT).gdrEvt 8
  let s := (bitsOf 6 mask).foldl one s
  if s.fld Reg.GDR_FLT_SUM 5 0 = 0 then ((s.putN Reg.GDR_FIRST 0).putN Reg.GDR_FIRST_NS 0).putN Reg.GDR_FIRST_SEC 0 else s

/-- Every GDR_DIRECT bit clears when the module leaves COMMISSION (R293). -/
def gdrLeaveCommission (s : State) : State :=
  (List.range 6).foldl (fun s h =>
    if s.direct h then
      let s := (s.legOff h (32 * s.tickNo)).setFlag Reg.GDR_DIRECT h false
      (s.setLeg h fun l => { l with conflict := false, a := false, b := false }).legStat h
    else s) s

/-! ## Drive strength (R299-R301) -/

/-- Live steps, in the order HS source, HS sink, LS source, LS sink, lie at these bit offsets of STEP_LIVE. -/
def stepLo (i : Nat) : Nat := 24 - 8 * i
def liveStep (s : State) (h i : Nat) : Nat := s.fld (Reg.GDR_HB_STEP_LIVE h) (stepLo i + 5) (stepLo i)
def setLiveStep (s : State) (h i n : Nat) : State := s.setFld (Reg.GDR_HB_STEP_LIVE h) (stepLo i + 5) (stepLo i) n

def adaptOn (s : State) (h : Nat) : Bool := s.flag (Reg.GDR_HB_ADAPT h) 0

/-- Live steps from DRIVE, at a START or a transfer of DRIVE (R299). -/
def stepsFromDrive (s : State) (h : Nat) : State :=
  let lo := s.fld (Reg.GDR_HB_ADAPT h) 13 8
  let hi := s.fld (Reg.GDR_HB_ADAPT h) 21 16
  let cl := fun x => if s.adaptOn h then min (max x lo) hi else x
  let src := cl (s.actFld (Reg.GDR_HB_DRIVE h) 5 0)
  let snk := cl (s.actFld (Reg.GDR_HB_DRIVE h) 13 8)
  let s := (((s.setLiveStep h 0 src).setLiveStep h 1 snk).setLiveStep h 2 src).setLiveStep h 3 snk
  s.setLeg h fun l => { l with satRun := [0, 0, 0, 0] }

/-- A write of DRIVE waits for a transfer (R299). -/
def driveWritten (s : State) (h : Nat) : State :=
  s.setLeg h fun l => { l with drive := some (l.drive.getD s.tickNo), driveLast := s.tickNo }

/-- A transfer at unit time t carries a write of DRIVE: one of this tick waits for the next boundary (R13). -/
def driveMoves (s : State) (h t : Nat) : Bool :=
  match (s.leg h).drive with
  | some d => decide (d < s.tickNo) || decide (32 * (s.tickNo + 1) ≤ t)
  | none => false

/-- DRIVE has transferred at unit time t: the live steps start from it (R299). -/
def driveMoved (s : State) (h t : Nat) : State :=
  (s.stepsFromDrive h).setLeg h fun l =>
    { l with drive := if l.driveLast = s.tickNo ∧ t < 32 * (s.tickNo + 1) then some s.tickNo else none }

/-- At a START adaptation begins afresh (R299, R301). -/
def adaptStart (s : State) (h : Nat) : State :=
  let f := s.flag (Reg.GDR_HB_ADAPT h) 1
  (s.stepsFromDrive h).setLeg h fun l => { l with fast := [f, f, f, f] }

/-- The history registers show the newest sixteen edges (R300, R312). -/
def histRegs (s : State) (h : Nat) : State :=
  (List.range 16).foldl (fun s k => s.put (Reg.GDR_HB_SWT_HIST h k) ((s.leg h).hist.getD k 0)) s

/-- SNAP: the registers hold the history as it stands now (R311). -/
def histFreeze (s : State) : State :=
  let s := (List.range 6).foldl histRegs s
  { s with gdr := { s.gdr with frozen := true } }

/-- One measured edge moves its live step (R301). i is the index of the step. -/
def adaptEdge (s : State) (h i t : Nat) : State :=
  if !s.adaptOn h then s
  else
    let a := Reg.GDR_HB_ADAPT h
    let tgt := 10 + 2 * (if i % 2 = 0 then s.actFld (Reg.GDR_HB_ADAPT_TGT h) 6 0 else s.actFld (Reg.GDR_HB_ADAPT_TGT h) 22 16)
    let db := 2 * s.fld a 7 4
    let st := s.liveStep h i
    let k := if s.flag a 1 && (s.leg h).fast.getD i false then 2 else 1
    let inBand := decide (t ≤ tgt + db) && decide (tgt ≤ t + db)
    let n := if tgt + db < t then st + k else if t + db < tgt then st - k else st
    let n := min (max n (s.fld a 13 8)) (s.fld a 21 16)
    let s := s.setLiveStep h i n
    let s := if inBand then s.setLeg h fun l => { l with fast := modNth (fun _ => false) i l.fast } else s
    let sat := st == s.fld a 21 16 && decide (tgt + db < t)
    let r := if sat then (s.leg h).satRun.getD i 0 + 1 else 0
    let s := s.setLeg h fun l => { l with satRun := modNth (fun _ => if r = 64 then 0 else r) i l.satRun }
    if r = 64 then ((s.inc (Reg.GDR_HB_CNT_ADSAT h)).gdrEvt 7).pulse (0xA8 + h) h (s.getN (Reg.GDR_HB_FLT h)) else s

/-- The time of an edge that counts as measured: not of a soft turn-off, of an edge that ends an interval cut short, nor one under 4 ns or
above 3 µs (R300). -/
def measuredTime (s : State) (h : Nat) (hi on : Bool) (t : Option Nat) : Option Nat :=
  let w := s.sw h hi
  if (!on && w.softOff) || w.cut == some on then none else t.filter fun n => decide (4 ≤ n) && decide (n ≤ 3000)

/-- The edge of this kind has still to be reported (R300). -/
def edgeOpen (s : State) (h : Nat) (hi on : Bool) : Bool := if on then (s.sw h hi).edgeOn else (s.sw h hi).edgeOff

/-- An edge of a switch, with the time in ns in which its gate crossed the window, none where it did not (R300, R301). The step it used is the
live one, or for a soft turn-off the soft sink step (R303, R312). -/
def gateEdge (s : State) (h : Nat) (hi on : Bool) (crossed : Option Nat) : State :=
  let kind := (if hi then 0 else 2) + (if on then 0 else 1)
  let t := s.measuredTime h hi on crossed
  let step := if !on && (s.sw h hi).softOff then s.fld (Reg.GDR_HB_STOFF h) 5 0 else s.liveStep h kind
  let v := (t.getD 0xFFFF) % 65536
  let s := s.setSw h hi fun w => { w with measured := w.measured || (on && crossed.isSome && w.on), cut := w.cut.filter (· != on),
                                          edgeOn := w.edgeOn && !on, edgeOff := w.edgeOff && on }
  let word := BitVec.ofNat 32 (kind * 2 ^ 30 + step * 2 ^ 24 + v)
  let s := s.setLeg h fun l => { l with hist := (word :: l.hist).take 16 }
  let s := if s.gdr.frozen then s else s.histRegs h
  match t with
  | none => s.inc (Reg.GDR_HB_CNT_NOMEAS h)
  | some t =>
    let reg := if hi then Reg.GDR_HB_SWT_H h else Reg.GDR_HB_SWT_L h
    let s := if on then s.setFld reg 15 0 v else s.setFld reg 31 16 v
    (s.adaptEdge h kind t).evt (0x054 + h)

/-- The rail voltages of GDR_HBh_VSUP: the manual says neither when they are taken nor what they are, so every window gives a free pair
(log entry 23). -/
def railRead (s : State) (h : Nat) : State :=
  let (v, s) := s.free
  s.put (Reg.GDR_HB_VSUP h) v

/-- One 1 ms window of gate power (R298): readings in mW per half-bridge. -/
def gatePower (s : State) (pw : List Nat) : State :=
  let s := (List.range 6).foldl (fun s h =>
    let s := s.railRead h
    let p := pw.getD h 0
    let s := s.setFld (Reg.GDR_HB_PWR h) 15 0 (min p 0xFFFF)
    let r := if 2500 < p then (s.leg h).pwrRun + 1 else 0
    let s := s.setLeg h fun l => { l with pwrRun := r }
    if r = 10 then (s.gdrLatchOff h 9).gdrEvt 4 else s) s
  let tot := (List.range 6).foldl (fun n h => n + pw.getD h 0) 0
  let s := s.setFld Reg.GDR_PWR_TOT 15 0 (min tot 0xFFFF)
  let s := s.setFld Reg.GDR_PWR_MAX 15 0 (max (s.fld Reg.GDR_PWR_MAX 15 0) (min tot 0xFFFF))
  let r := if 14000 < tot then s.gdr.totRun + 1 else 0
  let s := { s with gdr := { s.gdr with totRun := r } }
  let s := if r = 10 then s.gdrEvt 4 else s
  s.setCond 0x93 (decide (10 ≤ r)) 0xFFFF (Fl.to32 (Fl.div32 (Fl.ofNat tot) (Fl.ofNat 1000)))

def gdrCntClr (s : State) : State :=
  let s := [Reg.GDR_CNT_SC, Reg.GDR_CNT_SEG, Reg.GDR_CNT_CLR_KEPT, Reg.GDR_CNT_UVLO, Reg.GDR_CNT_SOFT, Reg.GDR_PWR_MAX].foldl (fun s a => s.putN a 0) s
  let s := (List.range 6).foldl (fun s h =>
    [Reg.GDR_HB_CNT_SC h, Reg.GDR_HB_CNT_SOFT h, Reg.GDR_HB_CNT_SHORT h, Reg.GDR_HB_CNT_INTLK h, Reg.GDR_HB_CNT_NOMEAS h,
      Reg.GDR_HB_CNT_ADSAT h, Reg.GDR_HB_CNT_UVLO h].foldl (fun s a => s.putN a 0) s) s
  let s := { s with gdr := { s.gdr with frozen := false } }
  (List.range 6).foldl histRegs s

end State
end Sys2Proof.Machine
end

