-- ==== Sys2Proof/Machine/Pwm.lean ====
section
/-!
DEFINITION. The local PWM (chapter 9): groups and timebases, waveform, shadows, minimum pulse, mask table, bootstrap refresh,
safe state.
-/
namespace Sys2Proof.Machine

/-- The group of a half-bridge and its local index (R267). -/
def hbGroup (h : Nat) : Nat := if h < 4 then 0 else 1
def hbLocal (h : Nat) : Nat := if h < 4 then h else h - 4
def groupHbs (g : Nat) : List Nat := if g = 0 then [0, 1, 2, 3] else [4, 5]

/-- n × d / 2^k rounded to nearest, ties to even. -/
def roundShift (n k : Nat) : Nat :=
  let q := n / 2 ^ k
  let r := n % 2 ^ k
  if 2 ^ k < 2 * r ∨ (2 * r = 2 ^ k ∧ q % 2 = 1) then q + 1 else q

/-- What shapes one half-bridge's period (R270, R271). -/
structure Wave where
  p : Nat
  a : Nat
  b : Nat
  phase : Nat
  align : Nat

/-- High intervals before the phase shift, as start and end in [0, p]. -/
def Wave.spans (w : Wave) : List (Nat × Nat) :=
  let wid := min w.a w.p
  let a := min w.a (w.p - 1)
  let b := min w.b (w.p - 1)
  if w.align = 0 then [(0, wid)]
  else if w.align = 1 then [((w.p - wid) / 2, (w.p - wid) / 2 + wid)]
  else if a < b then [(a, b)] else if b < a then [(a, w.p), (0, b)] else []

/-- PULSE of the waveform stage at counter value u. -/
def Wave.level (w : Wave) (u : Nat) : Bool :=
  let v := if w.p = 0 then u else (u + w.p - w.phase % w.p) % w.p
  w.spans.any fun i => decide (i.1 ≤ v) && decide (v < i.2)

/-- Instants of a period at which the level may change. -/
def Wave.instants (w : Wave) : List Nat :=
  if w.p = 0 then [] else 0 :: w.spans.flatMap fun i => [(i.1 + w.phase) % w.p, (i.2 + w.phase) % w.p]

/-- A stretch of the waveform stage: the wave whose counter is 0 at unit time start, in force until stop. -/
structure Piece where
  start : Nat
  stop : Nat
  w : Wave

/-- The instants of a piece at which the level may change, in order, with the level from then on. -/
def Piece.edges (p : Piece) : List (Nat × Bool) :=
  ((sortBy (fun a b => decide (a < b)) p.w.instants).map fun v => (p.start + v, p.w.level v)).filter fun e => decide (e.1 < p.stop)

/-- The first instant from t on at which the stage, whose level before is raw, goes to lv. -/
def firstEdge (t : Nat) (raw lv : Bool) : List (Nat × Bool) → Option Nat
  | [] => none
  | e :: es =>
    if e.1 < t then firstEdge t raw lv es
    else if e.2 == lv && raw != lv then some e.1
    else firstEdge t e.2 lv es

namespace State

def grp (s : State) (g : Nat) : PwmGroup := s.pwm.groups.getD g {}
def setGrp (s : State) (g : Nat) (f : PwmGroup → PwmGroup) : State := { s with pwm := { s.pwm with groups := modNth f g s.pwm.groups } }
def hb (s : State) (h : Nat) : PwmHb := s.pwm.hb.getD h {}
def setHb (s : State) (h : Nat) (f : PwmHb → PwmHb) : State := { s with pwm := { s.pwm with hb := modNth f h s.pwm.hb } }

/-- PWM_EVT bit i; source 41 fires when it is set (R481). -/
def pwmEvt (s : State) (i : Nat) : State := s.setEvt Reg.PWM_EVT i 41

def tsrc (s : State) (g : Nat) : Nat := s.fld (Reg.PWM_G_CFG g) 5 4
def hbSrc (s : State) (h : Nat) : Bool := s.flag (Reg.PWM_HB_CFG h) 0
def hbMinp (s : State) (h : Nat) : Nat := s.fld (Reg.PWM_HB_MINP h) 15 0
def hbBoot (s : State) (h : Nat) : Bool := s.flag (Reg.GDR_HB_CFG h) 0

/-- The output map of the program names the half-bridge (R276); while the engine is stopped the program is the one that ran last (log entry 82). -/
def kneNamed (s : State) (h : Nat) : Bool :=
  let b := s.activeBank
  let d := s.kneDesc b s.kne.prog
  (s.umap b d).any fun e => e.kind == 2 && e.index == h

/-- The half-bridge belongs to the engine that runs (R276). -/
def kneOwned (s : State) (h : Nat) : Bool := s.kneRunning && s.kneNamed h

/-- The period of a group in units: PERIOD, or Pm under SYN (R268, R270). -/
def periodOf (s : State) (g : Nat) : Nat :=
  if s.tsrc g = 2 then s.fld (Reg.PWM_G_SYNPER g) 23 0 else s.actN (Reg.PWM_G_PERIOD g) % 2 ^ 24

/-- Unit time of the next cycle boundary. -/
def nextBound (s : State) : Nat := 32 * s.tickNo + s.unitsTo s.time64 s.tim.next

/-- Length in units, on the time base, of the cycle that runs and of the one after it (R269). A step within the cycle leaves what the clock gives. -/
def cycleUnits (s : State) : Nat :=
  let stepped := match s.tim.stepTick with | some k => decide (s.tim.cycleStart ≤ k) | none => false
  if stepped then s.nextBound - s.tim.boundUnit else 4 * (diff64 s.tim.next (s.tim.boundSec * 1000000000 + s.tim.boundNs)).toNat
def nextUnits (s : State) : Nat :=
  let mode := match s.sys.pend with | some p => if p.atCycle = s.tim.cycleNext then p.target else s.mode | none => s.mode
  let p := s.periodOfMode mode
  4 * (diff64 (gridFrom p (s.tim.next + 8 * p)) s.tim.next).toNat

/-- What the time base still gives the cycle in which unit time t lies, and the unit time of the boundary that ends it. -/
def cycleLeft (s : State) (t : Nat) : Nat × Nat :=
  if t < s.nextBound then (s.cycleUnits - (t - s.tim.boundUnit), s.nextBound)
  else (s.nextUnits - (t - s.nextBound), s.nextBound + s.nextUnits)

/-- End of a period of p units that begins at unit time t. Under CYCLE a period that fills the cycle on the time base ends at the boundary, whatever
the rate of the time base: one that divides the cycle never truncates (R268, R269). -/
def periodEnd (s : State) (g t p : Nat) : Nat :=
  if s.tsrc g ≠ 1 then t + p
  else
    let (left, e) := s.cycleLeft t
    if left ≤ p then e else min (t + p) e

/-- The unit time is one of a later tick. -/
def laterTick (s : State) (t : Nat) : Bool := decide (32 * (s.tickNo + 1) ≤ t)

/-- What a transfer at unit time t carries: a write of the boundary's own tick waits (R13). -/
def moving (s : State) (t a : Nat) : Word := if s.laterTick t then s.get a else s.shadow a

/-- The period that a transfer at unit time t puts in force. -/
def periodAt (s : State) (g t : Nat) : Nat := if s.tsrc g = 2 then s.periodOf g else (s.moving t (Reg.PWM_G_PERIOD g)).toNat % 2 ^ 24

/-- A compare or phase value in units (R270). -/
def toUnits (s : State) (g p n : Nat) : Nat := if s.tsrc g = 2 then roundShift (n % 2 ^ 17 * p) 16 else n % 2 ^ 24

/-- The wave of a half-bridge from register values, with period p. -/
def waveFrom (s : State) (h p : Nat) (v : Nat → Word) : Wave :=
  let conv := fun a => s.toUnits (hbGroup h) p (v a).toNat
  { p, a := conv (Reg.PWM_HB_CMPA h), b := conv (Reg.PWM_HB_CMPB h), phase := conv (Reg.PWM_HB_PHASE h),
    align := s.fld (Reg.PWM_HB_CFG h) 5 4 }

/-- The wave in force. -/
def waveOf (s : State) (h : Nat) : Wave := s.waveFrom h (s.periodOf (hbGroup h)) s.act

/-- The Kneader word that a transfer at unit time t would carry (R276). -/
def wordAt (s : State) (h t : Nat) : Option Word :=
  match (s.hb h).word with
  | some w => some w
  | none =>
    if s.nextBound ≤ t ∧ s.fld (Reg.PWM_HB_CFG h) 5 4 ≠ 2 then ((s.hb h).duty.find? fun d => d.1 == (s.cycle + 1) % 2 ^ 32).map (·.2) else none

/-- CMPA of a Kneader word for period p (R276). -/
def dutyCompare (s : State) (g p : Nat) (w : Word) : Nat :=
  let f := Fl.of32 w.toNat
  let f := if f.isNan || Fl.lt f Fl.zero then Fl.zero else if Fl.lt (Fl.ofNat 1) f then Fl.ofNat 1 else f
  (Fl.nearest (Fl.mul f (Fl.ofNat (if s.tsrc g = 2 then 65536 else p)))).toNat

/-- The shadows of the group transfer at a boundary at unit time t: at any while PAIRED = 0, else after an ARM written before, and the engine arms
the group with a word (R274, R276). -/
def willTransfer (s : State) (g t : Nat) : Bool :=
  !s.flag (Reg.PWM_G_CFG g) 3
    || (s.flag (Reg.PWM_G_STAT g) 1 && (decide ((s.grp g).armTick < s.tickNo) || s.laterTick t))
    || (groupHbs g).any fun h => (s.wordAt h t).isSome

/-- The period that a transfer at unit time t would put in force is shorter than 2 × MINP of a half-bridge with SRC = 0 (R275). Before
the first Pm there is none to judge. -/
def periodTooShort (s : State) (g t : Nat) : Bool :=
  let p := s.periodAt g t
  !(s.tsrc g == 2 && p == 0) && (groupHbs g).any fun h => !s.hbSrc h && decide (p < 2 * s.hbMinp h)

/-- The wave after a boundary at unit time t, as the shadows stand (R274-R276). -/
def waveAt (s : State) (h t : Nat) : Wave :=
  let g := hbGroup h
  if !s.willTransfer g t || s.periodTooShort g t then s.waveOf h
  else
    let p := s.periodAt g t
    let w := s.waveFrom h p (s.moving t)
    match s.wordAt h t with
    | some d => { w with a := s.toUnits g p (s.dutyCompare g p d) }
    | none => w

/-- The periods that follow a boundary at unit time t, n of them. -/
def piecesFrom (s : State) (h t : Nat) : Nat → List Piece
  | 0 => []
  | n + 1 =>
    let w := s.waveAt h t
    let e := s.periodEnd (hbGroup h) t w.p
    { start := t, stop := e, w } :: s.piecesFrom h e n

/-- The waveform stage of a half-bridge from the period that runs on, as far as the minimum-pulse rule looks (R278). -/
def pieces (s : State) (h : Nat) : List Piece :=
  let g := hbGroup h
  let e := s.periodEnd g (s.grp g).start (s.periodOf g)
  { start := (s.grp g).start, stop := e, w := s.waveOf h } :: s.piecesFrom h e 3

/-! ## The stages after the waveform (R273, R280, R282, R283) -/

/-- PULSE and EN of every half-bridge are forced low (R48, R283). -/
def pwmGated (s : State) : Bool :=
  !s.live || decide (s.mode ≤ 1) || s.flag Reg.PWM_STAT 5 || s.flag Reg.PWM_STAT 7

/-- The mask entry in force of the group. -/
def maskIdx (s : State) (g : Nat) : Nat := s.fld (Reg.PWM_G_MSK_STAT g) 3 0
def maskOn (s : State) (g : Nat) : Bool := s.flag (Reg.PWM_G_MSK_CFG g) 0

/-- PULSE after the mask has been high for RF_INT by unit time t (R282). -/
def refreshRipe (s : State) (h t : Nat) : Bool :=
  match (s.hb h).highSince with
  | some y => s.hbBoot h && !s.hbSrc h && decide (s.fld (Reg.PWM_HB_RF_CFG h) 31 16 * 4000 ≤ t - y)
  | none => false

/-- The stages from mask to safe-state gating, and what reaches the driver (R273). t is the unit time. The outputs of a group that does not run
are low but for the half-bridges that take their pins (R272, R277). -/
def pwmDrive (s : State) (h t : Nat) : State :=
  let g := hbGroup h
  let gr := s.grp g
  let x := s.hb h
  let src := s.hbSrc h
  let pulse0 := if src then s.flag Reg.PWM_EXT_IN h else x.pulse && gr.run
  let en0 := if src then s.flag Reg.PWM_EXT_IN (8 + h) else s.flag (Reg.PWM_HB_CFG h) 2 && gr.run
  let f := fieldOf (s.getN (Reg.PWM_MSK_FORCE g (s.maskIdx g))) (4 * hbLocal h + 2) (4 * hbLocal h)
  let on := s.maskOn g
  let pulse1 := if on && f % 4 == 1 then false else if on && f % 4 == 2 then true else pulse0
  let en1 := if on && f / 4 == 0 then false else en0
  let masked := on && (f % 4 != 0 || f / 4 == 0)
  let refresh := match x.refreshEnd with | some e => decide (t < e) | none => false
  let pulse2 := pulse1 && !refresh
  let forced := s.pwmGated || gr.forced || gr.haltForced || decide (6 ≤ s.sys.roles.getD h 0xFF)
  let off := forced || (!src && !gr.run)
  let pulse := pulse2 && !off
  let en := en1 && !off
  let ripe := x.refreshDue || (!pulse1 && s.refreshRipe h t)
  let counts := masked && gr.run && !gr.waiting && !x.masked
  let s := if counts then s.inc (Reg.PWM_HB_CNT_MASK h) else s
  let s := s.setHb h fun x => { x with
    masked := x.masked || counts,
    refreshDue := ripe,
    highSince := if pulse1 && !refresh then (match x.highSince with | some y => some y | none => some t) else none,
    refreshEnd := if refresh then x.refreshEnd else none }
  let s := (s.setFlag Reg.PWM_OUT h pulse).setFlag Reg.PWM_OUT (8 + h) en
  let s := s.setFld (Reg.PWM_HB_STAT h) 4 0 (16 * b2n (s.hbBoot h) + 8 * b2n masked + 4 * b2n forced + 2 * b2n en + b2n pulse)
  let a := if s.direct h then (if src then s.flag Reg.PWM_EXT_IN h else s.flag (Reg.GDR_HB_DIRSW h) 0) && !forced else pulse
  let b := if s.direct h then (if src then s.flag Reg.PWM_EXT_IN (8 + h) else s.flag (Reg.GDR_HB_DIRSW h) 1) && !forced else en
  if (s.leg h).a == a && (s.leg h).b == b then s else s.legInput h t a b

def pwmDriveAll (s : State) : State := (List.range 6).foldl (fun s h => s.pwmDrive h (32 * s.tickNo)) s

/-! ## Minimum pulse (R278) -/

/-- An edge of PULSE issued at unit time t. -/
def issueEdge (s : State) (h t : Nat) (lv : Bool) : State :=
  let x := s.hb h
  let wdt := min (t - x.edgeAt) 0xFFFFFF
  let s := if x.pulse then s.setFld (Reg.PWM_HB_EFF_HI h) 23 0 wdt else s.setFld (Reg.PWM_HB_EFF_LO h) 23 0 wdt
  s.setHb h fun x => { x with pulse := lv, edgeAt := t }

def countStretch (s : State) (h : Nat) : State := ((s.inc (Reg.PWM_HB_CNT_STRETCH h)).pwmEvt 2).evt 0x053
def countPwmDrop (s : State) (h : Nat) : State := ((s.inc (Reg.PWM_HB_CNT_DROP h)).pwmEvt 1).evt 0x052

/-- An interval of level lv would start at unit time t: it lasts to the edge that ends it, after phase shift, truncation and transfer as
they stand (R269, R278). -/
def beginInterval (s : State) (h t : Nat) (lv : Bool) : State :=
  let short := match firstEdge t (s.hb h).raw (!lv) ((s.pieces h).flatMap Piece.edges) with
    | some e => decide (e - t < s.hbMinp h)
    | none => false
  if !short then s.issueEdge h t lv
  else if s.flag (Reg.PWM_HB_CFG h) 8 then
    ((s.issueEdge h t lv).setHb h fun x => { x with hold := some (t + s.hbMinp h, lv, false) }).countStretch h
  else s.countPwmDrop h

/-- The waveform stage goes to level lv at unit time t. In a stretched interval the first edge that would end it is the moved one, every other is
discarded. An interval that ends before MINP after its issued start is lengthened to MINP (log entry 106). -/
def stageEdge (s : State) (h t : Nat) (lv : Bool) : State :=
  let x := s.hb h
  if lv == x.raw then s
  else
    let s := s.setHb h fun x => { x with raw := lv }
    match x.hold with
    | some (e, last, ended) =>
      if lv != last && !ended then s.setHb h fun x => { x with hold := some (e, last, true) }
      else (s.inc (Reg.PWM_HB_CNT_DISC h)).pwmEvt 3
    | none =>
      if lv == x.pulse then s
      else if t < x.edgeAt + s.hbMinp h then
        (s.setHb h fun x => { x with hold := some (x.edgeAt + s.hbMinp h, x.pulse, true) }).countStretch h
      else s.beginInterval h t lv

/-- A stretched interval ends: the moved edge applies, and what begins there is checked in turn. -/
def holdEnd (s : State) (h t : Nat) : State :=
  match (s.hb h).hold with
  | some (e, last, ended) =>
    if e ≤ t then
      let s := s.setHb h fun x => { x with hold := none }
      if ended then s.beginInterval h e !last else s
    else s
  | none => s

/-- The next instant at which a stretched interval or a refresh pulse ends. -/
def nextSettle (s : State) (h : Nat) : Option Nat :=
  match (s.hb h).hold, (s.hb h).refreshEnd with
  | some (e, _, _), some r => some (min e r)
  | some (e, _, _), none => some e
  | none, r => r

/-- A refresh pulse that would end at unit time e less than the dead time before PULSE falls lasts until PULSE has fallen: no pulse shorter than the
dead time reaches the driver (R279; log entry 226). -/
def refreshStay (s : State) (h e : Nat) : State :=
  let x := s.hb h
  let g := hbGroup h
  let forced := s.maskOn g && fieldOf (s.getN (Reg.PWM_MSK_FORCE g (s.maskIdx g))) (4 * hbLocal h + 1) (4 * hbLocal h) != 0
  let falls := match x.hold with
    | some (f, true, true) => some f
    | _ => firstEdge e x.raw false ((s.pieces h).flatMap Piece.edges)
  match falls with
  | some f =>
    if x.refreshEnd = some e ∧ x.pulse ∧ !forced ∧ f - e < 4 * s.deadTime h then s.setHb h fun x => { x with refreshEnd := some (f + 1) } else s
  | none => s

/-- Stretched intervals and refresh pulses that end by unit time t. The fuel bounds how many follow one another. -/
def settleTo (h t : Nat) : Nat → State → State
  | 0, s => s
  | k + 1, s =>
    match s.nextSettle h with
    | some e => if e ≤ t then settleTo h t k (((s.holdEnd h e).refreshStay h e).pwmDrive h e) else s
    | none => s

/-- One edge of the waveform stage passes the stages that follow. -/
def passEdge (h : Nat) (s : State) (e : Nat × Bool) : State := ((settleTo h e.1 4 s).stageEdge h e.1 e.2).pwmDrive h e.1

/-- The edges of the period that runs, before unit time t, form on PULSE of a half-bridge that takes it from its group (R271-R273). -/
def formTo (s : State) (h t : Nat) : State :=
  let g := hbGroup h
  let from' := (s.hb h).formed
  let s := if s.hbSrc h || s.direct h then s
    else
      let stop := min t (s.periodEnd g (s.grp g).start (s.periodOf g))
      let es := Piece.edges { start := (s.grp g).start, stop, w := s.waveOf h }
      settleTo h (t - 1) 4 ((es.filter fun e => decide (from' ≤ e.1)).foldl (passEdge h) s)
  s.setHb h fun x => { x with formed := max x.formed t }

/-! ## Periods (R268-R277) -/

/-- RWB registers of a group (R274, R292). -/
def groupShadows (g : Nat) : List Nat :=
  Reg.PWM_G_PERIOD g :: (groupHbs g).flatMap fun h => [Reg.PWM_HB_CMPA h, Reg.PWM_HB_CMPB h, Reg.PWM_HB_PHASE h, Reg.GDR_HB_DT h,
    Reg.GDR_HB_DRIVE h, Reg.GDR_HB_ADAPT_TGT h]

/-- A Kneader word becomes CMPA with the period that the transfer puts in force (R276). -/
def wordMove (s : State) (h t : Nat) : State :=
  match (s.hb h).word with
  | some w =>
    let v := BitVec.ofNat 32 (s.dutyCompare (hbGroup h) (s.periodAt (hbGroup h) t) w)
    ((s.put (Reg.PWM_HB_CMPA h) v).putAct (Reg.PWM_HB_CMPA h) v).setHb h fun x => { x with word := none }
  | none => s

/-- Every shadow of the group transfers at unit time t, unless R275 withholds it; a DRIVE that transfers sets the live steps (R299). An ARM written
in the boundary's tick stays for the next one (R274). -/
def groupTransfer (s : State) (g t : Nat) : State :=
  if s.periodTooShort g t then s.pwmEvt 4
  else
    let moved := (groupHbs g).filter fun h => s.driveMoves h t
    let keep := !s.laterTick t && decide ((s.grp g).armLast = s.tickNo) && s.flag (Reg.PWM_G_STAT g) 1
    let p := groupShadows g
    let old := s
    let s := p.foldl (fun s a => s.putAct a (old.moving t a)) s
    let s := (groupHbs g).foldl (fun s h => s.wordMove h t) s
    let s := (s.setFlag (Reg.PWM_G_STAT g) 1 keep).setGrp g fun x => { x with armTick := x.armLast }
    moved.foldl (fun s h => s.driveMoved h t) s

/-- A refresh pulse starts at the boundary at unit time t: due, and PULSE has not risen within the dead time before (R279, R282; log entry 226). -/
def refreshStarts (s : State) (h t : Nat) : Bool :=
  ((s.hb h).refreshDue || s.refreshRipe h t) && (match (s.hb h).highSince with
    | some y => decide (4 * s.deadTime h ≤ t - y)
    | none => true)

/-- One half-bridge at the start of a period: mask count, clamp, refresh, first edge (R271, R278, R282, R286). -/
def hbPeriod (s : State) (h t : Nat) : State :=
  let s := s.setHb h fun x => { x with masked := false }
  if s.hbSrc h || s.direct h then s.pwmDrive h t
  else
    let w := s.waveOf h
    let s := if w.align ≤ 1 ∧ w.p ≤ w.a then (s.inc (Reg.PWM_HB_CNT_CLAMP h)).pwmEvt 0 else s
    let s := if s.refreshStarts h t then (s.setHb h fun x => { x with refreshEnd := some (t + s.fld (Reg.PWM_HB_RF_CFG h) 15 0), refreshDue := false, highSince := none }).inc (Reg.PWM_HB_CNT_RFR h) else s
    let s := passEdge h s (t, w.level 0)
    s.setHb h fun x => { x with formed := t + 1 }

/-- A core named in HALT_MASK is halted by debug (R283). -/
def maskedHalt (s : State) : Bool := (List.range 4).any fun n => s.flag Reg.PWM_CTRL n && (s.coreSt n).halted

/-- The mask takes an entry (R280, R281). -/
def maskEnter (s : State) (g k : Nat) : State :=
  (s.setFld (Reg.PWM_G_MSK_STAT g) 3 0 k).setGrp g fun x => { x with entryTick := s.tickNo, moved := false, next := none }

/-- A period of the group begins at unit time t. -/
def groupPeriod (s : State) (g t : Nat) : State :=
  let back := (s.grp g).haltForced && !s.maskedHalt && s.flag Reg.PWM_CTRL 8
  let s := s.setGrp g fun x => { x with start := t, waiting := false, haltForced := x.haltForced && !back }
  let s := match (s.grp g).next with
    | some k => s.maskEnter g k
    | none => s
  (groupHbs g).foldl (fun s h => s.hbPeriod h t) s

/-- The waveforms of a group that runs form up to unit time t; a FREE counter begins at the PWM clock after its START (R277). -/
def groupTo (s : State) (g t : Nat) : State :=
  let x := s.grp g
  let s := if x.run && x.waiting && s.tsrc g == 0 && decide (x.start < t) then s.groupPeriod g x.start else s
  if x.run && !(s.grp g).waiting then (groupHbs g).foldl (fun s h => s.formTo h t) s else s

/-- A period boundary of the group at unit time t (R274, R481). -/
def pwmBoundary (s : State) (g t : Nat) : State :=
  let s := s.groupTo g t
  let s := if s.willTransfer g t then s.groupTransfer g t else s
  ((s.groupPeriod g t).irq (39 + g)).evt (0x050 + g)

def runFlag (s : State) (g : Nat) (b : Bool) : State :=
  ((s.setFlag Reg.PWM_STAT g b).setFlag (Reg.PWM_G_STAT g) 0 b).setGrp g fun x => { x with run := b, waiting := b && x.waiting }

/-- A half-bridge whose group is stopped forms nothing. -/
def pulseIdle (x : PwmHb) : PwmHb :=
  { x with raw := false, pulse := false, hold := none, refreshEnd := none, refreshDue := false, highSince := none,
           masked := false }

/-- The group stops and its counter is reset (R277). -/
def groupStop (s : State) (g : Nat) : State :=
  let s := (s.runFlag g false).setGrp g fun x => { x with autoDue := none, next := none }
  (groupHbs g).foldl (fun s h => (s.setHb h pulseIdle).pwmDrive h (32 * s.tickNo)) s

/-- A group that does not run starts: every shadow transfers, a write of this tick included (log entry 196), and the counter begins at the next PWM
clock, cycle boundary or SYN edge (R277). START of a group that runs only lets its outputs go (log entry 105). -/
def groupStart (s : State) (g : Nat) : State :=
  let t := 32 * (s.tickNo + 1)
  let s := if (s.grp g).run then s
    else
      let s := s.groupTransfer g t
      let s := (groupHbs g).foldl adaptStart s
      let s := s.runFlag g true
      let s := s.setGrp g fun x => { x with waiting := true, autoDue := none, start := t }
      let s := (groupHbs g).foldl (fun s h => s.setHb h fun x => { pulseIdle x with edgeAt := 0, formed := 0 }) s
      if s.flag (Reg.PWM_G_MSK_CFG g) 0 then s.maskEnter g (s.fld (Reg.PWM_G_MSK_CFG g) 19 16) else s
  let s := (s.setFlag (Reg.PWM_G_STAT g) 2 false).setGrp g fun x => { x with forced := false, haltForced := x.haltForced && s.maskedHalt }
  let s := if g = 1 then s.setCond 0x90 false else s
  (groupHbs g).foldl (fun s h => s.pwmDrive h (32 * s.tickNo)) s

/-- START in the permitted modes (R277). -/
def pwmStart (s : State) (g : Nat) : State :=
  if s.mode < 3 then s.pwmEvt 9 else if s.flag Reg.PWM_STAT 5 then s else s.groupStart g

/-- The outputs of all six half-bridges are forced low (R283, R284). -/
def pwmForce (s : State) : State := (s.inc Reg.PWM_FORCE_CNT).pwmDriveAll

/-- Entry into SAFE or STANDBY (R48, R283). -/
def pwmSafe (s : State) : State :=
  let s := (s.setFlag Reg.PWM_STAT 6 true).setGrp 0 fun x => { x with forced := true }
  let s := s.setGrp 1 fun x => { x with forced := true }
  ((s.groupStop 0).groupStop 1).pwmForce

/-- A debug halt of core n (R283, R492). -/
def pwmHalt (s : State) (n : Nat) : State :=
  if !s.flag Reg.PWM_CTRL n then s
  else
    let s := (s.setGrp 0 fun x => { x with haltForced := true }).setGrp 1 fun x => { x with haltForced := true }
    (((s.setFlag Reg.PWM_STAT 4 true).inc Reg.PWM_HALT_CNT).pwmEvt 11).pwmForce

/-- After a resume PWM_STAT.HALTED shows whether a named core is still halted. -/
def pwmResume (s : State) : State := s.setFlag Reg.PWM_STAT 4 s.maskedHalt

/-- The PWM clock stops (R283). -/
def pwmClockStop (s : State) : State :=
  let s := (s.setFlag Reg.PWM_STAT 5 true).pwmEvt 12
  let s := (s.setGrp 0 fun x => { x with forced := true }).setGrp 1 fun x => { x with forced := true }
  (((s.groupStop 0).groupStop 1).pwmForce).setCond 0x8F true

/-- The PWM clock runs again (R283). -/
def pwmClockBack (s : State) : State := (s.setFlag Reg.PWM_STAT 5 false).setCond 0x8F false

/-- Levels of the J3 pins of half-bridge h (R272, R293). -/
def j3Input (s : State) (h : Nat) (pulse en : Bool) : State :=
  ((s.setFlag Reg.PWM_EXT_IN h pulse).setFlag Reg.PWM_EXT_IN (8 + h) en).pwmDrive h (32 * s.tickNo)

/-- The counter of half-bridge h reaches the value u (R271). -/
def compareEdge (s : State) (h u : Nat) : State := s.formTo h ((s.grp (hbGroup h)).start + u + 1)

/-- The safety island removes or returns its enable (R283). -/
def pwmIsland (s : State) (removed : Bool) : State :=
  if s.flag Reg.PWM_STAT 7 = removed then s
  else
    let s := s.setFlag Reg.PWM_STAT 7 removed
    if removed then s.pwmForce else s.pwmDriveAll

/-- Kneader words whose cycle boundary, at unit time t, has come reach the CMPA shadows and arm the group, while the engine runs (R276). -/
def dutyApply (s : State) (t : Nat) : State :=
  (List.range 6).foldl (fun s h =>
    let g := hbGroup h
    let now := (s.hb h).duty.find? fun d => d.1 == s.cycle
    let s := s.setHb h fun x => { x with duty := x.duty.filter fun d => d.1 != s.cycle }
    match if s.kneRunning then now else none with
    | none => s
    | some d =>
      if s.fld (Reg.PWM_HB_CFG h) 5 4 = 2 then s.pwmEvt 8
      else
        let p := if s.periodTooShort g t then s.periodOf g else s.periodAt g t
        let s := (s.putN (Reg.PWM_HB_CMPA h) (s.dutyCompare g p d.2)).setHb h fun x => { x with word := some d.2 }
        (s.setFlag (Reg.PWM_G_STAT g) 1 true).setGrp g fun x => { x with armTick := 0 }) s

/-- A word of U for a local half-bridge, held for the boundary that starts cycle cyc (R276). -/
def dutyHold (s : State) (h cyc : Nat) (w : Word) : State :=
  (s.put (Reg.PWM_HB_DUTY h) w).setHb h fun x => { x with duty := (cyc, w) :: x.duty.filter fun d => d.1 != cyc }

/-- End of the period of a group that runs. -/
def periodDue (s : State) (g : Nat) : Nat := s.periodEnd g (s.grp g).start (s.periodOf g)

/-- The period of a group on FREE or CYCLE ends within the tick; under CYCLE an end at the cycle boundary is the boundary's (R268). -/
def periodEnds (s : State) (g : Nat) : Bool :=
  let x := s.grp g
  x.run && !x.waiting && s.tsrc g != 2 && decide (x.start < s.periodDue g) && decide (s.periodDue g < 32 * (s.tickNo + 1))
    && (s.tsrc g != 1 || decide (s.periodDue g < s.nextBound))

/-- The cycle boundary at unit time t cuts the period that runs (R269). -/
def truncates (s : State) (g t : Nat) : Bool :=
  let x := s.grp g
  x.run && !x.waiting && s.tsrc g == 1 && decide (x.start < t) && s.cycleUnits != x.start - s.tim.boundUnit + s.periodOf g

/-- What the groups have done before the cycle boundary at unit time t, while the cycle's length is still known: periods that end, edges, and a period
that the boundary cuts (R33, R268, R269, R278). -/
def pwmBefore (s : State) (t : Nat) : State :=
  [0, 1].foldl (fun s g =>
    let s := if s.periodEnds g && decide (s.periodDue g < t) then s.pwmBoundary g (s.periodDue g) else s
    let s := s.groupTo g t
    if s.truncates g t then (s.incFld (Reg.PWM_G_STAT g) 31 16).pwmEvt 5 else s) s

/-- The PWM's actions at a cycle boundary (R268, R276, R277). -/
def pwmCycle (s : State) : State :=
  let t := s.tim.boundUnit
  let s := s.dutyApply t
  [0, 1].foldl (fun s g =>
    let auto := match (s.grp g).autoDue with | some c => c != s.cycle && decide (3 ≤ s.mode) | none => false
    let s := if auto then s.groupStart g else s
    let x := s.grp g
    if !x.run || s.tsrc g != 1 then s
    else if !x.waiting && x.start == t then s
    else s.pwmBoundary g t) s

/-- Entry into ENERGIZE or a run mode: AUTO starts at the first cycle boundary after it (R277). -/
def pwmAuto (s : State) : State :=
  [0, 1].foldl (fun s g => if s.flag (Reg.PWM_G_CFG g) 2 && !(s.grp g).run then s.setGrp g fun x => { x with autoDue := some s.cycle } else s) s

/-- G1 follows another output, or another timebase: Pm is the interval of two edges of that output, of which none has come (R270; log entry 225). -/
def synFresh (s : State) : State := (s.setGrp 1 fun x => { x with synEdge := none }).setFld (Reg.PWM_G_SYNPER 1) 23 0 0

/-- A rising edge of the OUTn that G1 follows, at unit time t (R270): the period in progress ends with the Pm it began with. -/
def synEdge (s : State) (t : Nat) : State :=
  let old := (s.grp 1).synEdge
  match old with
  | none =>
    let s := s.setGrp 1 fun x => { x with synEdge := some t }
    if (s.grp 1).run && (s.grp 1).waiting then s.pwmBoundary 1 t else s
  | some y =>
    let pm := t - y
    if pm < 400 then s
    else
      let s := s.setGrp 1 fun x => { x with synEdge := some t }
      if 16777215 < pm then s
      else
        let s := (s.groupTo 1 t).setFld (Reg.PWM_G_SYNPER 1) 23 0 pm
        if (s.grp 1).run then s.pwmBoundary 1 t else s

/-- No SYN edge within 2 × Pm (R270). -/
def synLost (s : State) : State :=
  let s := ((s.pwmEvt 6).setFlag (Reg.PWM_G_STAT 1) 2 true).setGrp 1 fun x => { x with forced := true, waiting := true, synEdge := none }
  s.pwmDriveAll.setCond 0x90 true

/-- A commutation event of the group at unit time t: what forms before it passes the entry that it ends (R281, R442). -/
def commutate (s : State) (g t : Nat) : State :=
  let x := s.grp g
  let ign := fun (s : State) => (s.incFld (Reg.PWM_G_MSK_STAT g) 31 16).pwmEvt 10
  if !s.flag (Reg.PWM_G_MSK_CFG g) 0 then s
  else
    let k := s.maskIdx g
    let held := s.fld (Reg.PWM_MSK_HOLD g k) 15 0
    if x.next.isSome || (x.moved && x.entryTick == s.tickNo) || decide (s.tickNo - x.entryTick < held) then ign s
    else
      let n := s.fld (Reg.PWM_MSK_HOLD g k) 19 16
      if s.flag (Reg.PWM_G_MSK_CFG g) 1 then s.setGrp g fun x => { x with next := some n }
      else
        let s := ((s.groupTo g t).maskEnter g n).setGrp g fun x => { x with moved := true }
        (groupHbs g).foldl (fun s h => s.pwmDrive h t) s

/-- A commutation source: 0 software, 1 COMM_IN, 2 a comparator (R281). -/
def maskSource (s : State) (g src : Nat) : Bool := s.fld (Reg.PWM_G_MSK_CFG g) 5 4 == src

/-- An edge of COMM_IN (R281, R493). -/
def commEdge (s : State) (rising : Bool) : State :=
  let s := { s.evt 0x074 with cores := { (s.evt 0x074).cores with comm := rising } }
  [0, 1].foldl (fun s g =>
    let e := s.fld (Reg.PWM_G_MSK_CFG g) 7 6
    if s.maskSource g 1 && (e == 2 || (e == 0 && rising) || (e == 1 && !rising)) then s.commutate g (32 * s.tickNo) else s) s

/-- A match of time comparator k, u units into the tick (R281). -/
def maskMatch (s : State) (k u : Nat) : State :=
  [0, 1].foldl (fun s g => if s.maskSource g 2 && s.fld (Reg.PWM_G_MSK_CFG g) 10 8 == k then s.commutate g (32 * s.tickNo + u) else s) s

/-- What a group that runs does by the end of the tick: edges, stretched intervals and refresh pulses that end, a period that ends
(R268-R282). -/
def pwmTick (s : State) : State :=
  [0, 1].foldl (fun s g =>
    let s := if s.periodEnds g then s.pwmBoundary g (s.periodDue g) else s
    s.groupTo g (32 * (s.tickNo + 1))) s

def pwmCntClr (s : State) : State :=
  let s := (s.putN Reg.PWM_HALT_CNT 0).putN Reg.PWM_FORCE_CNT 0
  let s := [0, 1].foldl (fun s g => (s.setFld (Reg.PWM_G_STAT g) 31 16 0).setFld (Reg.PWM_G_MSK_STAT g) 31 16 0) s
  (List.range 6).foldl (fun s h =>
    [Reg.PWM_HB_CNT_DROP h, Reg.PWM_HB_CNT_STRETCH h, Reg.PWM_HB_CNT_CLAMP h, Reg.PWM_HB_CNT_RFR h, Reg.PWM_HB_CNT_DISC h,
      Reg.PWM_HB_CNT_MASK h].foldl (fun s a => s.putN a 0) s) s

end State
end Sys2Proof.Machine
end

