-- ==== Sys2Proof/Machine/Clock.lean ====
section
/-!
DEFINITION. Clocks and frequency synthesis (chapter 15): REFCLK and the system PLL, the SYN and its outputs, SYNC, holdover, Rise
profiles, and the consumers of the time comparators (R442).
-/
namespace Sys2Proof.Machine
namespace State

def setClk (s : State) (f : Clk → Clk) : State := { s with clk := f s.clk }
def clkEvt (s : State) (i : Nat) : State := s.setEvt Reg.CLK_EVT i 43

def synHold (s : State) : Bool := s.flag Reg.CLK_STAT 2
def synWord (s : State) : Nat := s.getN Reg.CLK_SYN_WORD
def riseRun (s : State) (p : Nat) : Bool := s.flag (Reg.CLK_RISEP_STAT p) 0
def riseRef (s : State) (p : Nat) : Bool := s.flag (Reg.CLK_RISEP_CFG p) 0
def refk (s : State) (p : Nat) : Nat := s.fld (Reg.CLK_RISEP_CFG p) 7 4
def riseOf (s : State) (p : Nat) : Rise := s.clk.rise.getD p {}
def setRise (s : State) (p : Nat) (f : Rise → Rise) : State := s.setClk fun c => { c with rise := modNth f p c.rise }
def seg (s : State) (p k : Nat) : Nat × Word := s.clk.segs.getD (16 * p + k) (0, 0)

/-- Output frequency 25 MHz × WORD / 2^24 / DIV (R410, R423). -/
def outFreq (s : State) (n : Nat) : Nat :=
  Fl.to32 (Fl.quot (Fl.mul (Fl.ofNat 25000000) (Fl.ofDyadic s.synWord (-24))) (Fl.ofNat (s.fld (Reg.CLK_OUTN_CFG n) 16 0)))

def freqShow (s : State) : State := (List.range 8).foldl (fun s n => s.putN (Reg.CLK_OUTN_FREQ n) (s.outFreq n)) s

def setWord (s : State) (w : Nat) : State := if s.synWord = w then s else (s.putN Reg.CLK_SYN_WORD w).freqShow

/-- A SYN profile runs (R411). -/
def synProfile (s : State) : Bool := [0, 1, 2, 3].any fun p => s.riseRun p && !s.riseRef p

/-! ## The output dividers (R410, R412-R415) -/

/-- Phase units of the VCO in 250 ps: WORD with the servo's correction, which holdover freezes and to which it adds an error (R410, R416). -/
def vcoRate (s : State) : Nat :=
  let add : Int := if s.synHold then s.clk.heldAdd else if s.flag Reg.CLK_STAT 4 then s.addend else 0
  ((s.synWord : Int) * (2 ^ 33 + add) + s.clk.heldErr).toNat

/-- The VCO runs (R422, CLK_SYN_CFG.EN). -/
def vcoRuns (s : State) : Bool := s.flag Reg.CLK_SYN_CFG 0

def outDiv (s : State) (n : Nat) : OutDiv := s.clk.outs.getD n {}

/-- One VCO period, the period of output n, and its high phase of ⌈DIV / 2⌉ VCO periods, in phase units (R412). -/
def vcoPeriod : Nat := 160 * 2 ^ 57
def outPeriodOf (s : State) (n : Nat) : Nat := vcoPeriod * s.fld (Reg.CLK_OUTN_CFG n) 16 0
def outHigh (s : State) (n : Nat) : Nat := vcoPeriod * ((s.fld (Reg.CLK_OUTN_CFG n) 16 0 + 1) / 2)

/-- The phase of divider n at unit time t of this tick. -/
def outPhase (s : State) (n t : Nat) : Int :=
  let o := s.outDiv n
  o.phase + ((t - max o.start (32 * s.tickNo)) * s.vcoRate : Nat)

/-- A multiple of d that is not below 0 lies in [a, b). -/
def multipleIn (d : Nat) (a b : Int) : Bool := decide (0 < d) && decide (0 < b) && decide ((((a.toNat + d - 1) / d * d : Nat) : Int) < b)

/-- Divider n has a rising edge in the units from t up to t1, both of this tick (R412, R414). -/
def outRises (s : State) (n t t1 : Nat) : Bool :=
  s.vcoRuns && decide ((s.outDiv n).start < t1) && multipleIn (s.outPeriodOf n) (s.outPhase n t) (s.outPhase n t1)

/-- The pin and the copy for PWM G1 rise at unit time t: the output is requested, and the gate is on or goes on with this edge (R413). -/
def outEdge (s : State) (n t : Nat) : Bool := s.flag Reg.CLK_OUT_EN n && s.outRises n t (t + 1)

/-- Divider n is high through the whole tick. -/
def outStaysHigh (s : State) (n : Nat) : Bool :=
  let a := s.outPhase n (32 * s.tickNo)
  let r := a % (s.outPeriodOf n : Int)
  s.vcoRuns && decide ((s.outDiv n).start ≤ 32 * s.tickNo) && decide (0 ≤ a)
    && decide (r + (32 * s.vcoRate : Nat) < (s.outHigh n : Int))

/-- The gate of output n at the end of the tick: on from a rising edge while it is requested, off with the end of the high phase (R413). -/
def outGate (s : State) (n : Nat) : Bool :=
  let on := s.flag (Reg.CLK_OUTN_STAT n) 0
  if !s.vcoRuns then false
  else if s.flag Reg.CLK_OUT_EN n then on || s.outRises n (32 * s.tickNo) (32 * (s.tickNo + 1))
  else on && s.outStaysHigh n

/-- One tick of the dividers and their gates. -/
def outTick (s : State) : State :=
  let s := (List.range 8).foldl (fun s n =>
    let g := s.outGate n
    if s.flag (Reg.CLK_OUTN_STAT n) 0 = g then s else s.setFlag (Reg.CLK_OUTN_STAT n) 0 g) s
  if !s.vcoRuns then s
  else
    let t1 := 32 * (s.tickNo + 1)
    let next := fun (n : Nat) =>
      let p := s.outPhase n t1
      ({ start := (s.outDiv n).start, phase := if 0 ≤ p ∧ 0 < s.outPeriodOf n then p % (s.outPeriodOf n : Int) else p } : OutDiv)
    s.setClk fun c => { c with outs := (List.range 8).map next }

/-- The main die's newest temperature in 1/16 °C (R331). -/
def mainDie (s : State) : Option Int := (s.hk.temps.find? (·.1 == 8)).map (·.2)

/-- How far the held VCO may be off, in ppb: 0.1 ppm, 0.2 ppm a second of holdover and 3 ppm a degree of change of the main die's temperature,
at most 200 ppm (R416). The temperature is the newest result of sensor 8; without one only the 200 ppm bind (log entry 13). -/
def heldLimit (s : State) : Nat :=
  match s.clk.holdTemp, s.mainDie with
  | some a, some b => min 200000 (100 + 200 * (s.tickNo + 1 - s.clk.holdFrom) / 125000000 + 3000 * (b - a).natAbs / 16)
  | _, _ => 200000

/-- The held VCO's error in the next tick: a free value within the limit (R416; log entry 13). -/
def heldDrift (s : State) : State :=
  if !s.synHold then (if s.clk.heldErr = 0 then s else s.setClk fun c => { c with heldErr := 0 })
  else
    let f := s.free
    let lim : Int := ((s.synWord * 2 ^ 33 * s.heldLimit / 1000000000 : Nat) : Int)
    f.2.setClk fun c => { c with heldErr := (f.1.toNat : Int) * (2 * lim + 1) / 2 ^ 32 - lim }

/-- The VCO starts: the phase of each divider is a free value until a SYNC event (log entry 13). -/
def vcoStart (s : State) : State :=
  (List.range 8).foldl (fun s n =>
    let f := s.free
    f.2.setClk fun c => { c with outs := modNth (fun _ => { start := 0, phase := ((f.1.toNat * s.outPeriodOf n / 2 ^ 32 : Nat) : Int) }) n c.outs }) s

/-- CLK_SYN_BASE is written: WORD slews to it (R411). -/
def baseWritten (s : State) : State := s.setClk fun c => { c with slewing := true, slewRem := 0 }

/-- One tick of a slew to b: at most 20 MHz/ms, which is 2^30 / 10^7 of a WORD step in 8 ns (R417). -/
def slewTick (s : State) (b : Nat) : State :=
  let w := s.synWord
  if w = b then s.setClk fun c => { c with slewing := false, slewRem := 0 }
  else
    let acc := s.clk.slewRem + 2 ^ 30
    let d := acc / 10000000
    let s := s.setClk fun c => { c with slewRem := acc % 10000000 }
    if w < b then s.setWord (min b (w + d)) else s.setWord (max b (w - d))

/-! ## SYNC (R414, R415) -/

/-- A SYNC event at unit time t: each divider of the mask is low until t + 40 ns + DLY × T_VCO. -/
def syncEvent (s : State) (t : Nat) : State :=
  let close := match s.clk.syncAt with
    | some y => decide (t < y + 4000)
    | none => false
  if s.flag Reg.CLK_SYNC_CFG 3 && !s.flag Reg.CLK_SYNC_STAT 1 then s
  else if close then s.incFld Reg.CLK_CNT_SYNC 31 16
  else
    let at2 := s.stamp (t - 32 * s.tickNo)
    let s := s.setClk fun c => { c with syncAt := some t }
    let s := (s.setFlag Reg.CLK_SYNC_STAT 1 false).setFlag Reg.CLK_SYNC_STAT 0 true
    let s := ((s.putN Reg.CLK_SYNC_NS at2.2.1).putN Reg.CLK_SYNC_SEC (at2.1 % 2 ^ 32)).incFld Reg.CLK_CNT_SYNC 15 0
    (List.range 8).foldl (fun s n =>
      let hit := s.flag Reg.CLK_SYNC_CFG (16 + n)
      let s := s.setFlag (Reg.CLK_OUTN_STAT n) 1 hit
      if hit then
        let d := s.fld (Reg.CLK_OUTN_DLY n) 7 0
        s.setClk fun c => { c with outs := modNth (fun _ => { start := t + 160, phase := -((vcoPeriod * d : Nat) : Int) }) n c.outs }
      else s) s

/-- An edge of the SYNC pin u units into the tick. -/
def syncPin (s : State) (rising : Bool) (u : Nat) : State :=
  let s := s.evt 0x075
  if s.fld Reg.CLK_SYNC_CFG 1 0 = 0 ∧ s.flag Reg.CLK_SYNC_CFG 2 = !rising then s.syncEvent (32 * s.tickNo + u) else s

/-- A write of CLK_SYNC_SW.SYNC acts whatever SRC holds. -/
def syncSw (s : State) : State := s.syncEvent (32 * s.tickNo)

def syncArm (s : State) : State := s.setFlag Reg.CLK_SYNC_STAT 1 true

/-! ## Rise profiles (R418-R420) -/

/-- Number of segments: the first with DUR = 0 ends the list. -/
def segCount (s : State) (p : Nat) : Nat := ((List.range 16).takeWhile fun k => (s.seg p k).1 != 0).length

/-- CLK_RISEp_TOTAL follows the list. -/
def totalShow (s : State) (p : Nat) : State :=
  s.putN (Reg.CLK_RISEP_TOTAL p) (((List.range (s.segCount p)).map fun k => (s.seg p k).1).foldl (· + ·) 0)

/-- The segment registers show the segment that CLK_SEG_ADDR names (R422). -/
def segShow (s : State) : State :=
  let a := s.fld Reg.CLK_SEG_ADDR 5 0
  let x := s.clk.segs.getD a (0, 0)
  (s.putN Reg.CLK_SEG_DUR x.1).put Reg.CLK_SEG_END x.2

/-- A write of CLK_SEG_DUR or CLK_SEG_END reaches the segment. -/
def segStore (s : State) : State :=
  let a := s.fld Reg.CLK_SEG_ADDR 5 0
  let x := (s.fld Reg.CLK_SEG_DUR 23 0, s.get Reg.CLK_SEG_END)
  (s.setClk fun c => { c with segs := modNth (fun _ => x) a c.segs }).totalShow (a / 16)

/-- A SYN segment from w0 to w1 in d µs is allowed: its END is a WORD, and its slope at most 20 MHz/ms (R410, R419). -/
def synSegOk (w0 w1 d : Nat) : Bool :=
  decide (0xC8000000 ≤ w1) && decide (w1 ≤ 0xF0000000) && decide ((if w0 ≤ w1 then w1 - w0 else w0 - w1) * 1250 ≤ 2 ^ 24 * d)

/-- Every segment of a SYN list is allowed, from WORD w0; of a loop, also the way back. -/
def synListOk (segs : List (Nat × Word)) (w0 : Nat) (loop : Bool) : Bool :=
  let ends := segs.map fun x => x.2.toNat
  let ok := ((w0 :: ends).zip segs).all fun x => synSegOk x.1 x.2.2.toNat x.2.1
  let back := match segs.head?, ends.getLast? with
    | some f, some l => synSegOk l f.2.toNat f.1
    | _, _ => true
  ok && (!loop || back)

/-- CLK_RISE_STAT shows RUN and PAUSED of every profile. -/
def riseShow (s : State) : State :=
  (List.range 4).foldl (fun s p =>
    (s.setFlag Reg.CLK_RISE_STAT p (s.riseRun p)).setFlag Reg.CLK_RISE_STAT (4 + p) (s.flag (Reg.CLK_RISEP_STAT p) 1)) s

/-- Time in a segment or since the start, in 2^-32 ns; frozen in a pause. -/
def riseClock (s : State) (p extra : Nat) : Nat := match (s.riseOf p).pausedAt with
  | some t => t
  | none => s.clk.mono + extra

/-- A profile starts u units into the tick, or the start is refused (R419, R420). -/
def riseStart (s : State) (p u : Nat) : State :=
  let n := s.segCount p
  let segs := (List.range n).map (s.seg p)
  let isRef := s.riseRef p
  let w := s.synWord
  if n = 0 then s.clkEvt 3
  else if !isRef && !synListOk segs w (s.flag (Reg.CLK_RISEP_CFG p) 9) then s.clkEvt 4
  else if [0, 1, 2, 3].any fun q => q != p && s.riseRun q && (if isRef then s.riseRef q && s.refk q == s.refk p else !s.riseRef q) then s.clkEvt 5
  else
    let at2 := s.stamp u
    let t := s.clk.mono + u * 2 ^ 30
    let v := if isRef then s.get (Reg.CLK_RISEP_V0 p) else BitVec.ofNat 32 w
    let paused := s.synHold
    let s := s.setRise p fun _ => { t0 := t, tSeg := t, pausedAt := if paused then some t else none, start := v }
    let s := (s.putN (Reg.CLK_RISEP_STAT p) (1 + 2 * b2n paused)).put (Reg.CLK_RISEP_VAL p) v
    let s := ((s.putN (Reg.CLK_RISEP_TS_NS p) at2.2.1).putN (Reg.CLK_RISEP_TS_SEC p) (at2.1 % 2 ^ 32)).putN (Reg.CLK_RISEP_HOLDT p) 0
    let s := if isRef then s else s.setClk fun c => { c with slewing := false, slewRem := 0 }
    ((s.putN (Reg.CLK_RISEP_ELAPSED p) 0).totalShow p).riseShow

/-- A profile stops: WORD stands, R takes KNE_REF again at the next boundary (R420). -/
def riseStop (s : State) (p : Nat) : State :=
  if s.riseRun p then ((s.setFld (Reg.CLK_RISEP_STAT p) 1 0 0).setRise p fun r => { r with pausedAt := none }).riseShow else s

/-- Entry into SAFE or STANDBY (R420). -/
def riseSafe (s : State) : State :=
  [0, 1, 2, 3].foldl (fun s p => if s.riseRef p || s.flag (Reg.CLK_RISEP_CFG p) 10 then s.riseStop p else s) s

/-- Current segment; the profile has ended and holds its last END. -/
def riseSeg (s : State) (p : Nat) : Nat := s.fld (Reg.CLK_RISEP_STAT p) 7 4
def riseEnded (s : State) (p : Nat) : Bool := s.flag (Reg.CLK_RISEP_STAT p) 2

/-- Time elapsed in the running segment u units into the tick, in 2^-32 ns, at most DUR. -/
def riseTau (s : State) (p u : Nat) : Nat :=
  min (s.riseClock p (u * 2 ^ 30) - (s.riseOf p).tSeg) ((s.seg p (s.riseSeg p)).1 * 1000 * 2 ^ 32)

/-- WORD of a running SYN profile: start + round((END − start) × τ / DUR), ties to even (R418). -/
def riseWord (s : State) (p : Nat) : Nat :=
  let x := s.seg p (s.riseSeg p)
  let a : Int := ((s.riseOf p).start.toNat : Int)
  let d : Int := (x.2.toNat : Int) - a
  if s.riseEnded p then x.2.toNat
  else (a + Fl.nearest (Fl.quot (Fl.mul (Fl.ofInt d) (Fl.ofNat (s.riseTau p 0))) (Fl.ofNat (x.1 * 1000 * 2 ^ 32)))).toNat

/-- Value of a running REF profile u units into the tick: the extended format, rounded once (R418). -/
def riseValue (s : State) (p u : Nat) : Word :=
  let x := s.seg p (s.riseSeg p)
  if s.riseEnded p then x.2
  else
    let a := Fl.of32 (s.riseOf p).start.toNat
    let d := Fl.roundExt (Fl.sub (Fl.of32 x.2.toNat) a)
    let q := Fl.divExt (Fl.mul d (Fl.ofNat (s.riseTau p u))) (Fl.ofNat (x.1 * 1000 * 2 ^ 32))
    BitVec.ofNat 32 (Fl.to32 (Fl.roundExt (Fl.add a q)))

/-- DUR of the running segment has elapsed by the end of the tick (R418). -/
def riseDue (s : State) (p : Nat) : Bool :=
  s.riseRun p && !s.riseEnded p && (s.riseOf p).pausedAt.isNone
    && decide ((s.seg p (s.riseSeg p)).1 * 1000 * 2 ^ 32 ≤ s.clk.mono + (s.advance 4).1 * 2 ^ 32 - (s.riseOf p).tSeg)

/-- A segment ends: the next one starts, the list loops, or the last END is held (R418). -/
def riseSegEnd (s : State) (p : Nat) : State :=
  let k := s.riseSeg p
  let x := s.seg p k
  let t := (s.riseOf p).tSeg + x.1 * 1000 * 2 ^ 32
  let s := if s.riseRef p then s else s.setWord x.2.toNat
  if k + 1 < s.segCount p then (s.setFld (Reg.CLK_RISEP_STAT p) 7 4 (k + 1)).setRise p fun r => { r with tSeg := t, start := x.2 }
  else
    let s := s.inc (Reg.CLK_RISEP_CNT p)
    if s.flag (Reg.CLK_RISEP_CFG p) 9 then
      let v := if s.riseRef p then s.get (Reg.CLK_RISEP_V0 p) else x.2
      (s.setFld (Reg.CLK_RISEP_STAT p) 7 4 0).setRise p fun r => { r with tSeg := t, start := v }
    else (s.setFlag (Reg.CLK_RISEP_STAT p) 2 true).put (Reg.CLK_RISEP_VAL p) x.2

/-- At a cycle boundary u units into the tick, REF profiles write R + REFK (R418). -/
def riseRefs (s : State) (u : Nat) : State :=
  [0, 1, 2, 3].foldl (fun s p =>
    if s.riseRun p && s.riseRef p then
      let v := s.riseValue p u
      (s.setVec (0x440 + s.refk p) v).put (Reg.CLK_RISEP_VAL p) v
    else s) s

/-- AUTO starts at the boundary at which the engine starts in ENERGIZE (R419). -/
def riseAuto (s : State) (u : Nat) : State :=
  if s.mode != ENERGIZE then s else [0, 1, 2, 3].foldl (fun s p => if s.flag (Reg.CLK_RISEP_CFG p) 8 then s.riseStart p u else s) s

/-- A running segment whose DUR elapses within the tick and that no command has ended ends now (R418). -/
def riseEnds (s : State) : State := [0, 1, 2, 3].foldl (fun s p => if s.riseDue p then s.riseSegEnd p else s) s

/-- The SYN reacquires: SYN_HOLD clears and paused profiles resume (R417). -/
def synBack (s : State) : State :=
  let s := (((s.setFlag Reg.CLK_STAT 2 false).setFlag Reg.CLK_STAT 3 s.vcoRuns).servoShow).setClk fun c => { c with reacq := false }
  let s := [0, 1, 2, 3].foldl (fun s p =>
    match (s.riseOf p).pausedAt with
    | some t =>
      let d := s.clk.mono - t
      (s.setFlag (Reg.CLK_RISEP_STAT p) 1 false).setRise p fun r =>
        { r with pausedAt := none, t0 := r.t0 + d, tSeg := r.tSeg + d, heldFor := r.heldFor + d }
    | none => s) s
  s.riseShow.setCond 0x8E false

/-- The WORD due when the holdover ends: that of the paused profile, or BASE without one (R411, R417). -/
def synDue (s : State) : Nat := match [0, 1, 2, 3].find? fun p => s.riseRun p && !s.riseRef p with
  | some p => s.riseWord p
  | none => s.getN Reg.CLK_SYN_BASE

/-- The lock is back: WORD first moves to the value due; then the holdover ends (R417). -/
def synReacquire (s : State) : State :=
  if s.synWord == s.synDue then s.synBack
  else s.setClk fun c => { c with reacq := true, slewing := true, slewRem := 0 }

/-- One tick of WORD: a move to BASE at the slope limit, and the end of a reacquisition that has reached the value due (R411, R417). -/
def wordTick (s : State) : State :=
  if s.clk.reacq then (let s := s.slewTick s.synDue; if s.synWord = s.synDue then s.synBack else s)
  else if !s.synHold && s.clk.slewing && !s.synProfile then s.slewTick (s.getN Reg.CLK_SYN_BASE) else s

/-- One event tick of the clocks: dividers and gates, segments that end, running SYN profiles, slews, elapsed and holdover times
(R412-R418, R424). -/
def clkTick (s : State) : State :=
  let s := s.outTick.riseEnds
  let s := s.setClk fun c => { c with mono := c.mono + ((4 * (2 * 2 ^ 32 + s.addend)).toNat) }
  let s := if s.synHold then s.putN Reg.CLK_SYN_HOLDT (min ((s.tickNo + 1 - s.clk.holdFrom) / 125) 0xFFFFFFFF) else s
  let s := s.wordTick.heldDrift
  [0, 1, 2, 3].foldl (fun s p =>
    if !s.riseRun p then s
    else
      let r := s.riseOf p
      match r.pausedAt with
      | some t => s.putN (Reg.CLK_RISEP_HOLDT p) ((r.heldFor + (s.clk.mono - t)) / 2 ^ 32 / 1000 % 2 ^ 32)
      | none =>
        let s := s.putN (Reg.CLK_RISEP_ELAPSED p) ((s.clk.mono - r.t0) / 2 ^ 32 / 1000 % 2 ^ 32)
        if s.riseRef p then s else (let w := s.riseWord p; (s.setWord w).putN (Reg.CLK_RISEP_VAL p) w)) s

/-! ## Losses and holdover (R407-R409, R416, R417) -/

/-- The SYN enters holdover; a loss while it reacquires ends the move of WORD (R416). -/
def synHoldEnter (s : State) : State :=
  if s.synHold then s.setClk fun c => { c with reacq := false }
  else if !s.vcoRuns then s
  else
    let s := s.setClk fun c => { c with heldAdd := if s.flag Reg.CLK_STAT 4 then s.addend else 0 }
    let s := ((s.setFlag Reg.CLK_STAT 2 true).setFlag Reg.CLK_STAT 3 false).clkEvt 2
    let s := ((s.inc Reg.CLK_CNT_HOLD).putN Reg.CLK_SYN_HOLDT 0).setClk fun c => { c with holdFrom := s.tickNo, holdTemp := s.mainDie }
    let s := [0, 1, 2, 3].foldl (fun s p =>
      if s.riseRun p && !s.riseRef p && (s.riseOf p).pausedAt.isNone then
        (s.setFlag (Reg.CLK_RISEP_STAT p) 1 true).setRise p fun r => { r with pausedAt := some s.clk.mono }
      else s) s
    s.riseShow.setCond 0x8E true

/-- CLK_SYN_CFG is written: the VCO runs while EN is 1. One that starts while REFCLK is not good is in holdover from its start (R407). -/
def synCfgWritten (s : State) : State :=
  let ran := s.clk.vcoOn
  let s := s.setClk fun c => { c with vcoOn := s.vcoRuns }
  let s := (s.setFlag Reg.CLK_STAT 3 (s.vcoRuns && !s.synHold)).servoShow
  if !s.vcoRuns || ran then s
  else if s.flag Reg.CLK_STAT 0 || s.clk.sysHold then s.vcoStart.synHoldEnter else s.vcoStart

/-- What the registers of chapter 15 show when the cores take over, with or without a Recipe (R422-R424). -/
def clkShow (s : State) : State := [0, 1, 2, 3].foldl totalShow ((s.synCfgWritten.freqShow).segShow)

/-- The REFCLK monitor declares loss (R408). Before the handover it holds boot (R406). -/
def refLoss (s : State) : State :=
  let again := s.flag Reg.CLK_STAT 0
  let s := s.setClk fun c => { c with refGone := true }
  if !s.live then s else
  let s := s.setClk fun c => { c with lossTick := s.tickNo, sysHold := true, relocking := false }
  if again then s.synHoldEnter
  else (((s.setFlag Reg.CLK_STAT 0 true).clkEvt 0).inc Reg.CLK_CNT_REF).synHoldEnter.setCond 0x8C true

/-- REFCLK counts as good again (R409). A boot that waited for it takes its times from here (R406). -/
def refGood (s : State) : State :=
  let s := s.setClk fun c => { c with refGone := false }
  if s.live then (s.setFlag Reg.CLK_STAT 0 false).setClk fun c => { c with relocking := true, goodTick := s.tickNo }
  else { s with sys := { s.sys with released := if s.sys.phase = .boot then s.tickNo else s.sys.released } }

/-- The system PLL or a derived clock leaves its window (R407, R408). -/
def sysUnlock (s : State) : State :=
  if s.flag Reg.CLK_STAT 1 then s else (((s.setFlag Reg.CLK_STAT 1 true).clkEvt 1).inc Reg.CLK_CNT_SYSUL).setCond 0x8D true

/-- The system PLL settles after REFCLK has come back: it relocks (ok), or 1 ms has passed without (R409). A lock lost while REFCLK was good
comes back too (log entry 243). -/
def pllSettles (s : State) (ok : Bool) : Bool :=
  if s.clk.relocking then ok || s.elapsed s.clk.goodTick 1000000 else ok && s.flag Reg.CLK_STAT 1 && !s.clk.sysHold

/-- The system PLL has relocked (R409). -/
def sysRelock (s : State) : State :=
  let s := (s.setFlag Reg.CLK_STAT 1 false).setClk fun c => { c with sysHold := false, relocking := false }
  (s.setCond 0x8C false).setCond 0x8D false

def clkCntClr (s : State) : State :=
  let s := [Reg.CLK_CNT_REF, Reg.CLK_CNT_SYSUL, Reg.CLK_CNT_HOLD, Reg.CLK_CNT_SYNC].foldl (fun s a => s.putN a 0) s
  (List.range 4).foldl (fun s p => s.putN (Reg.CLK_RISEP_CNT p) 0) s

/-! ## Time comparator match (R442) -/

/-- The match toggles the gates of the event counters that name it (R494). -/
def gateToggle (s : State) (k : Nat) : State :=
  (List.range 32).foldl (fun s i =>
    if s.flag (Reg.EVC_CFG i) 31 && s.fld (Reg.EVC_CFG i) 17 16 == 3 && s.fld (Reg.EVC_CFG i) 14 12 == k then
      { s with cores := { s.cores with gate3 := modNth (fun b => !b) i s.cores.gate3 } }
    else s) s

/-- Comparator k matches: its state, and its consumers from the match instant. -/
def cmpMatch (s : State) (k : Nat) : State :=
  let u := s.cmpInstant k
  let s := ((((s.cmpAdvance k).evt (0x008 + k)).irq (4 + k)).gateToggle k).maskMatch k u
  let s := if s.fld Reg.CLK_SYNC_CFG 1 0 = 1 ∧ s.fld Reg.CLK_SYNC_CFG 10 8 = k then s.syncEvent (32 * s.tickNo + u) else s
  [0, 1, 2, 3].foldl (fun s p =>
    if s.flag (Reg.CLK_RISEP_CFG p) 15 && s.fld (Reg.CLK_RISEP_CFG p) 18 16 == k then s.riseStart p u else s) s

end State
end Sys2Proof.Machine
end

