-- ==== Sys2Proof/Machine/Cores.lean ====
section
/-!
DEFINITION. Supervisor cores, the interrupt controller and the event counters (chapter 18). What a core's software does between two
commands comes with the commands: the pc, mstatus, mtvec and privilege of an entry are operands.
-/
namespace Sys2Proof.Machine
namespace State

/-! ## Cores (R475-R480) -/

/-- The core fetches: not in reset, not stopped, not halted, not asleep (R483). -/
def coreRuns (s : State) (n : Nat) : Bool :=
  let c := s.coreSt n
  c.released && !c.stopped && !c.halted && !c.asleep

/-- ICU_TGT_STAT byte n (R496). -/
def tgtShow (s : State) (n : Nat) : State :=
  let c := s.coreSt n
  let b := b2n (c.entry.isSome || c.exit.isSome) * 128 + b2n (!c.released || c.stopped || c.halted) * 64 + b2n c.asleep * 32
    + (match c.level with | none => 16 | some l => l % 16)
  s.setFld Reg.ICU_TGT_STAT (8 * n + 7) (8 * n) b

/-- A change of core n, shown in ICU_TGT_STAT. -/
def coreDo (s : State) (n : Nat) (f : CoreSt → CoreSt) : State := (s.setCore n f).tgtShow n

/-- The core is released at ENTRY in machine mode with all else at reset (R480). -/
def coreRelease (s : State) (n entry : Nat) : State :=
  s.coreDo n fun _ => { released := true, pc := BitVec.ofNat 32 entry }

/-- The watchdog of core n runs: TIMEOUT is not 0, and the core is out of reset (R59, R480). -/
def wdtOn (s : State) (n : Nat) : Bool := (s.coreSt n).released && s.fld (Reg.SYS_WDT_CFG n) 15 0 != 0

/-- A watchdog stops counting and keeps its count, and goes on (R480, R492). -/
def wdtPause (s : State) (n : Nat) : State :=
  if (s.sys.wdtPaused.getD n none).isSome then s
  else { s with sys := { s.sys with wdtPaused := modNth (fun _ => some (s.tickNo - s.sys.wdtKick.getD n 0)) n s.sys.wdtPaused } }
def wdtResume (s : State) (n : Nat) : State :=
  match s.sys.wdtPaused.getD n none with
  | some d => { s with sys := { s.sys with wdtPaused := modNth (fun _ => none) n s.sys.wdtPaused, wdtKick := modNth (fun _ => s.tickNo - d) n s.sys.wdtKick } }
  | none => s

/-- CSRs that survive the run of a core's program unchanged: those that only debug writes. -/
def debugCsrs (l : List (Nat × Word)) : List (Nat × Word) := l.filter fun x => decide (0x7A0 ≤ x.1) && decide (x.1 ≤ 0x7BF)

/-- mstatus after a trap from privilege priv: MPIE = MIE, MIE = 0, MPP = priv. -/
def trapStatus (m : Word) (priv : Nat) : Word :=
  let m := m.toNat
  BitVec.ofNat 32 (putField (putField (putField m 7 7 (fieldOf m 3 3)) 3 3 0) 12 11 priv)

/-- A bus error, or a misaligned access, of a core's program: the trap of R15's privileged edition with that cause, at BASE of mtvec (R7, R36,
R38, R475). The program's pc, mstatus, mtvec and mtval of that moment are not known to the module: free values (log entry 167). -/
def coreTrap (s : State) (n cause : Nat) : State :=
  if !s.coreRuns n then s
  else
    let (epc, s) := s.free
    let (st, s) := s.free
    let (tvec, s) := s.free
    let (tval, s) := s.free
    s.coreDo n fun c =>
      { c with pc := BitVec.ofNat 32 (tvec.toNat / 4 * 4), priv := 3, waiting := false,
               csr := [(0x300, trapStatus st c.priv), (0x305, tvec), (0x341, epc), (0x342, BitVec.ofNat 32 cause), (0x343, tval)] ++ debugCsrs c.csr }

/-- A read that returns an uncorrectable word is flagged as failed; a core's load ends in a bus error (R36). -/
def readFail (s : State) (core : Option Nat) (a : Nat) : State :=
  let s : State := { s with sys := { s.sys with readFailed := some (core, a) } }
  match core with | some n => s.coreTrap n 5 | none => s

/-- A core and its shadow disagree: both stop until reset (R477). -/
def lockstep (s : State) (n : Nat) : State := (s.coreDo n fun c => { c with stopped := true, csr := debugCsrs c.csr }).setCond (0x83 + n) true n

/-- A debug halt of core n at pc (R492). A core that waits in WFI leaves it. -/
def debugHalt (s : State) (n cause : Nat) (pc : Word) : State :=
  let s := s.coreDo n fun c =>
    { c with halted := true, asleep := false, waiting := false, haltCause := cause, pc := pc, x := [], f := [], csr := debugCsrs c.csr }
  (s.wdtPause n).pwmHalt n

/-- A halted core resumes (R492). -/
def debugResume (s : State) (n : Nat) : State :=
  let s := s.coreDo n fun c => { c with halted := false, haltCause := 0, resumeAck := true, x := [], f := [] }
  (s.wdtResume n).pwmResume

/-! ## The interrupt controller (R482-R487) -/

def prioOf (s : State) (src : Nat) : Nat := s.icuCfg src % 16
def targetOf (s : State) (src : Nat) : Nat := fieldOf (s.icuCfg src) 6 5

/-- The sources pending for target n whose entry can begin in this tick. -/
def icuWaiting (s : State) (n : Nat) : List Nat :=
  (List.range 320).filter fun i => s.icuPending i && s.targetOf i == n && !s.cores.held.any fun h => h.1 == i && decide (s.tickNo < h.2)

/-- The highest PRIO, and the lowest number among equals (R483). -/
def icuPick (s : State) (l : List Nat) : Option Nat :=
  l.foldl (fun o i => match o with
    | none => some i
    | some x => if s.prioOf x < s.prioOf i then some i else some x) none

/-- PRIO p passes a level; at the thread level mstatus.MIE must be 1 (R483). -/
def prioPasses (level : Option Nat) (mie : Bool) (p : Nat) : Bool :=
  match level with
  | none => mie
  | some l => decide (l < p)

/-- The source whose entry begins on core n now, and its PRIO; mie is mstatus.MIE (R483, R486). -/
def icuDeliver (s : State) (n : Nat) (mie : Bool) : Option (Nat × Nat) :=
  if !s.coreRuns n then none
  else
    let level := (s.coreSt n).level
    let own := match s.icuPick (s.icuWaiting n) with
      | some i => if prioPasses level mie (s.prioOf i) then some (i, s.prioOf i) else none
      | none => none
    let late := s.cores.commits.filter fun c =>
      c.1 == n && decide (c.2.2.2.1 ≤ s.tickNo) && decide (s.tickNo ≤ c.2.2.2.2) && prioPasses level mie c.2.2.1
    late.foldl (fun o c => match o with
      | some a => if c.2.2.1 < a.2 then some a else some (c.2.1, c.2.2.1)
      | none => some (c.2.1, c.2.2.1)) own

/-- No entry or exit runs on core n. -/
def coreFree (s : State) (n : Nat) : Bool := (s.coreSt n).entry.isNone && (s.coreSt n).exit.isNone

/-- The core runs no instruction between what the ICU or WFI left and an entry in this tick: its pc, mstatus and privilege are the state's
(R485, R487). -/
def ctxKnown (s : State) (n : Nat) : Bool := (s.coreSt n).waiting || (s.coreSt n).known == some s.tickNo

/-- mstatus as the state has it. -/
def coreStatus (s : State) (n : Nat) : Word := Assoc.get 0 (s.coreSt n).csr 0x300

/-- The interrupted pc, mstatus and privilege of an entry in this tick: the core's own where the state has them, else those that the command
gives. -/
def entryCtx (s : State) (n : Nat) (pc mstatus : Word) (priv : Nat) : Word × Word × Nat :=
  if s.ctxKnown n then ((s.coreSt n).pc, s.coreStatus n, (s.coreSt n).priv) else (pc, mstatus, priv)

/-- Entry of source src with PRIO p on core n (R484). -/
def icuEnter (s : State) (n src p : Nat) (pc mstatus mtvec : Word) (priv : Nat) : State :=
  let s := (s.setPending src false).setFlag (Reg.ICU_ACT (src / 32)) (src % 32) true
  let s := { s with cores := { s.cores with commits := s.cores.commits.filter fun c => !(c.1 == n && c.2.1 == src) } }
  let csr := fun (l : List (Nat × Word)) =>
    Assoc.ins (Assoc.ins (Assoc.ins (Assoc.ins l 0x300 (trapStatus mstatus priv)) 0x341 pc) 0x342 (BitVec.ofNat 32 (0x80000010 + src))) 0x305 mtvec
  let s := s.coreDo n fun c =>
    { c with slots := (p, { src, pc, mstatus, priv, level := c.level }) :: c.slots.filter (·.1 != p), level := some p, priv := 3,
             waiting := false, entry := some (s.tickNo, src), csr := csr c.csr,
             pc := BitVec.ofNat 32 (mtvec.toNat / 4 * 4 + 4 * (16 + src)) }
  s.evt (0x061 + n)

/-- icuret written: the exit starts, or is ignored at the thread level (R485). -/
def icuReturn (s : State) (n : Nat) : State :=
  match (s.coreSt n).level with
  | none => s.setFlag Reg.ICU_STAT 17 true
  | some _ => s.coreDo n fun c => { c with exit := some s.tickNo }

/-- The handler's slot and active bit are released, and pc, mstatus, privilege and level come from the slot (R485). -/
def icuLeave (s : State) (n : Nat) : State :=
  match (s.coreSt n).level with
  | none => s.coreDo n fun c => { c with exit := none }
  | some l =>
    match (s.coreSt n).slots.find? (·.1 == l) with
    | none => s.coreDo n fun c => { c with exit := none, level := none }
    | some x =>
      let s := s.setFlag (Reg.ICU_ACT (x.2.src / 32)) (x.2.src % 32) false
      s.coreDo n fun c => { c with exit := none, level := x.2.level, pc := x.2.pc, priv := x.2.priv,
                                   slots := c.slots.filter (·.1 != l), csr := Assoc.ins c.csr 0x300 x.2.mstatus }

end State

/-- The slot of the current level (R484). -/
def CoreSt.below (c : CoreSt) : Option IcuSlot :=
  match c.level with
  | some l => (c.slots.find? fun (x : Nat × IcuSlot) => x.1 == l).map Prod.snd
  | none => none

namespace State

/-- The sources whose event the ICU has sampled in this tick as a new request of target n. -/
def icuNew (s : State) (n : Nat) : List Nat :=
  s.cores.fired.filter fun i => s.icuPending i && s.targetOf i == n && s.cores.held.contains (i, s.tickNo + 1)

/-- The end of a tick on core n: an entry ends with its second tick; an exit ends with its second tick, or is abandoned for a request
above the level it restores that is sampled while it runs (R484, R485). On a core that its shadow has stopped they stand (R477). -/
def icuTick (s : State) (n : Nat) : State :=
  let c := s.coreSt n
  if c.stopped then s else
  let s := match c.entry with
    | some (t, _) => if t < s.tickNo then s.coreDo n fun c => { c with entry := none, known := some (s.tickNo + 1) } else s
    | none => s
  match c.exit with
  | none => s
  | some t =>
    let lv := match c.below with | some x => x.level | none => none
    let mie := match c.below with | some x => bitAt x.mstatus.toNat 3 | none => false
    if (s.icuNew n).any fun i => prioPasses lv mie (s.prioOf i) then (s.icuLeave n).setCore n fun c => { c with known := some (s.tickNo + 1) }
    else if t < s.tickNo then s.icuLeave n else s

/-- A delivery that a write in this tick no longer prevents (R486, R487): the entry that the selection of the tick before has chosen, which
begins in this tick, and with next also the one that this tick's selection chooses, which begins in the next. -/
def icuCommit (s : State) (src : Nat) (next : Bool) : State :=
  let n := s.targetOf src
  let before := s.icuPick (s.icuWaiting n) == some src
  let after := next && s.icuPick ((List.range 320).filter fun i => s.icuPending i && s.targetOf i == n) == some src
  if s.icuPending src && s.coreRuns n && (before || after) then
    let first := if before then s.tickNo else s.tickNo + 1
    let last := if after then s.tickNo + 1 else s.tickNo
    { s with cores := { s.cores with commits := (n, src, s.prioOf src, first, last) :: s.cores.commits.filter fun c => decide (s.tickNo ≤ c.2.2.2.2) } }
  else s

/-- A write of the configuration byte of one source (R482, R486, R487). -/
def icuCfgByte (s : State) (src v : Nat) : State :=
  if 48 ≤ src ∧ src ≤ 55 then s
  else
    let old := s.icuCfg src
    let s := if bitAt old 4 && (!bitAt v 4 || decide (v % 16 < old % 16)) then s.icuCommit src true else s
    let s := if fieldOf old 6 5 != fieldOf v 6 5 then
        let t := s.icuCommit src false
        { t with cores := { t.cores with held := (src, s.tickNo + 2) :: t.cores.held } }
      else s
    let s := s.setFld (Reg.ICU_SRCCFG (src / 4)) (8 * (src % 4) + 7) (8 * (src % 4)) v
    if bitAt old 4 && !bitAt v 4 then s.setPending src false else s

def icuCfgWrite (s : State) (k v : Nat) : State :=
  [0, 1, 2, 3].foldl (fun s b => s.icuCfgByte (4 * k + b) (fieldOf v (8 * b + 7) (8 * b))) s

/-- Writes of ICU_CTRL (R496). -/
def icuSwi (s : State) (mask : Nat) : State := (bitsOf 8 mask).foldl (fun s j => s.irq (56 + j)) s
def icuClr (s : State) : State := (s.putN Reg.ICU_LOST 0).setFlag Reg.ICU_STAT 17 false

/-- A core executes WFI (R487). -/
def coreWfi (s : State) (n : Nat) (deep : Bool) (pc mstatus : Word) : State :=
  s.coreDo n fun c => { c with asleep := deep, waiting := true, pc := pc,
                               csr := Assoc.ins (Assoc.ins c.csr 0x300 mstatus) 0x7C2 (BitVec.ofNat 32 (b2n deep)) }

/-- A pending source with WAKE wakes the sleeping core (R487). -/
def wakeWaits (s : State) (n : Nat) : Bool :=
  (s.coreSt n).asleep && (List.range 320).any fun i => s.icuPending i && s.targetOf i == n && bitAt (s.icuCfg i) 7

def coreWake (s : State) (n : Nat) : State := s.coreDo n fun c => { c with asleep := false, waiting := false }

/-! ## Retention (R489) -/

def icuSave (s : State) : State :=
  let r : Retention := { cfg := (List.range 80).map fun k => s.get (Reg.ICU_SRCCFG k), pend := (List.range 10).map fun k => s.get (Reg.ICU_PEND k),
                         act := (List.range 10).map fun k => s.get (Reg.ICU_ACT k), levels := s.cores.core.map (·.level),
                         slots := s.cores.core.map (·.slots) }
  { s.setFlag Reg.ICU_STAT 16 false with cores := { (s.setFlag Reg.ICU_STAT 16 false).cores with ret := some r } }

/-- At wake the saved state comes back, together with the pending bits set in STANDBY. ICU_LOST has counted on in the meantime. -/
def icuRestore (s : State) : State :=
  match s.cores.ret with
  | none => s
  | some r =>
    let s := (List.range 80).foldl (fun s k => s.put (Reg.ICU_SRCCFG k) (r.cfg.getD k 0)) s
    let s := (List.range 10).foldl (fun s k => (s.put (Reg.ICU_PEND k) (s.get (Reg.ICU_PEND k) ||| r.pend.getD k 0)).put (Reg.ICU_ACT k) (r.act.getD k 0)) s
    let s := { s with cores := { s.cores with ret := none } }
    let s := [0, 1, 2, 3].foldl (fun s n => s.coreDo n fun c => { c with level := r.levels.getD n none, slots := r.slots.getD n [] }) s
    s.icuCount.setFlag Reg.ICU_STAT 16 true

/-! ## Event counters (R493-R495) -/

/-- The gate of counter k at the end of the tick (R494). -/
def gateOpen (s : State) (k : Nat) : Bool :=
  match s.fld (Reg.EVC_CFG k) 17 16 with
  | 0 => true
  | 1 => engineMode s.mode
  | 2 => s.cores.comm
  | _ => s.cores.gate3.getD k false

/-- EVC_STAT and EVC_GATE show the counters. -/
def evcShow (s : State) : State :=
  (s.putN Reg.EVC_STAT (maskOf 32 fun k => s.flag (Reg.EVC_CFG k) 31)).putN Reg.EVC_GATE (maskOf 32 s.gateOpen)

def setEvc (s : State) (k n : Nat) : State :=
  { s with cores := { s.cores with evc := modNth (fun _ => n) k s.cores.evc } }.putN (Reg.EVC_LIVE k) (n % 2 ^ 32)

/-- The end of a tick: every enabled counter whose event occurred and whose gate is open adds 1 (R493); in STANDBY they hold. -/
def evcTick (s : State) : State :=
  if s.mode = STANDBY then s
  else
    let s := s.evcShow
    (List.range 32).foldl (fun s k =>
      let sel := s.fld (Reg.EVC_CFG k) 9 0
      if s.flag (Reg.EVC_CFG k) 31 && s.gateOpen k && (sel == 0 || s.cores.evts.contains sel) then
        let n := s.cores.evc.getD k 0 + 1
        if n = 2 ^ 48 then (s.setEvc k 0).stick Reg.EVC_OVF k else s.setEvc k n
      else s) s

/-- The count of counter k as it stood before the tick: a clear of the tick comes after a snapshot (R495). -/
def evcBefore (s : State) (k : Nat) : Nat := (s.cores.evcWas.lookup k).getD (s.cores.evc.getD k 0)

/-- EVC_SNAP: counts as they stood before the tick, with the tick's time and cycle number (R495). -/
def evcSnap (s : State) (mask : Nat) : State :=
  let s := (bitsOf 32 mask).foldl (fun s k =>
    let n := s.evcBefore k
    (s.putN (Reg.EVC_SNAP_LO k) (n % 2 ^ 32)).putN (Reg.EVC_SNAP_HI k) (n / 2 ^ 32)) s
  ((s.putN Reg.EVC_SNAP_NS s.nowNs).putN Reg.EVC_SNAP_SEC s.nowSec).putN Reg.EVC_SNAP_CYC s.cycle

/-- EVC_CLR zeroes the counters that the mask names. -/
def evcClr (s : State) (mask : Nat) : State :=
  (bitsOf 32 mask).foldl (fun s k =>
    let n := s.evcBefore k
    let s := { s with cores := { s.cores with evcWas := (k, n) :: s.cores.evcWas } }
    s.setEvc k 0) s

/-- EVC_CFGk is written: the toggled gate closes when EN becomes 1 (R494). -/
def evcWritten (s : State) (k : Nat) (old : Nat) : State :=
  let s := if !bitAt old 31 && s.flag (Reg.EVC_CFG k) 31 then { s with cores := { s.cores with gate3 := modNth (fun _ => false) k s.cores.gate3 } } else s
  s.evcShow

end State
end Sys2Proof.Machine
end

