-- ==== Sys2Proof/Machine/Modulator.lean ====
section
/-!
DEFINITION. The modulator (chapter 7): volt-seconds and carry, sorted dwell, widths, slots and edges, dead-time compensation,
rotation and debts, DAB commands, commissioning, command records.
-/
namespace Sys2Proof.Machine

/-- The value listed for a key, or a default. -/
def lookOr {α : Type} (d : α) : List (Nat × α) → Nat → α
  | [], _ => d
  | (k, v) :: l, c => if k = c then v else lookOr d l c

/-- Round to binary32. -/
def r32 (x : Fl) : Fl := Fl.round32 x

/-- A sum accumulated in the extended format (R212). -/
def sumExt (xs : List Fl) : Fl := xs.foldl (fun a x => Fl.roundExt (Fl.add a x)) Fl.zero

/-- Fractional part x - floor(x) of a finite value. -/
def fracF (x : Fl) : Fl := Fl.sub x (Fl.ofInt (Fl.floor x))

/-- One step of the rotation generator (R221): output bit and next state. -/
def lfsrStep (st : Nat) : Bool × Nat :=
  let b := bitAt st 30 != bitAt st 27
  (b, (st * 2 + b2n b) % 2 ^ 31)

/-- A 16-bit key: 16 output bits, the first as the most significant (R221). -/
def lfsrKey : Nat → Nat → Nat → Nat × Nat
  | 0, k, st => (k, st)
  | n + 1, k, st => let (b, st) := lfsrStep st; lfsrKey n (2 * k + b2n b) st

/-- cos(2π x) for x in turns with an error below 2^-40, as an integer in units of 2^-60: Taylor series on the angle. -/
def cosTurns (x : Fl) : Int :=
  let t : Int := Fl.floor (Fl.mul (fracF x) (.fin false 1 64))
  let half : Int := 2 ^ 63
  let t := if half < t then 2 ^ 64 - t else t
  let (t, flip) := if 2 ^ 62 < t then (half - t, true) else (t, false)
  -- 2π in units of 2^-60
  let ang : Int := t * 7244019458077122842 / 2 ^ 64
  let sq : Int := ang * ang / 2 ^ 60
  let one : Int := 2 ^ 60
  let r := ([24, 22, 20, 18, 16, 14, 12, 10, 8, 6, 4, 2].foldl (fun (acc : Int) (k : Nat) =>
    one - sq * acc / 2 ^ 60 / ((k : Int) * ((k : Int) - 1))) one)
  if flip then -r else r

namespace State

def mdt (s : State) : Nat := s.fld Reg.MOD_PULSE_CFG 31 16
def minp (s : State) : Nat := s.fld Reg.MOD_PULSE_CFG 15 0

/-- The modulator counts as running (R207). -/
def modRuns (s : State) : Bool := s.live && decide (3 ≤ s.mode)

def slowOf (s : State) (c : Nat) : SlowCell := Assoc.get {} s.mod.slow c
def setSlow (s : State) (c : Nat) (x : SlowCell) : State := { s with mod := { s.mod with slow := Assoc.set {} s.mod.slow c x } }

def inWord (ws : List (Nat × Word)) (i : Nat) : Fl := Fl.of32 (Assoc.get (0 : Word) ws i).toNat

/-- Clearing at entry into ENERGIZE and into COMMISSION, and of what shows the debts and slots (R233, R236, R237). -/
def modClear (s : State) : State :=
  let s := s.putN Reg.MOD_LFSR (s.getN Reg.MOD_LFSR_SEED % 2 ^ 31)
  let s := ((s.putN Reg.MOD_ROT_STAT 0).putN Reg.MOD_SS_STAT 0x10000).setFlag Reg.MOD_STAT 0 true
  let s := (List.range 144).foldl (fun s c => s.putN (Reg.MOD_CELL_DEBT c) 0) s
  let s := [0, 1, 2].foldl (fun s p => (List.range 12).foldl (fun s j => s.putN (Reg.MOD_SLOT p j) 0xFFFFFFFF) s) s
  { s with mod := { s.mod with rotEl := 0, anglePrev := 0, carry := [0, 0, 0], slow := [], fresh := true, lastAct := [], evtAct := [],
                               run := none, theta := 0, hold := false, commStop := false, adopt := none } }

/-- The modulator stops (R233): a run in progress is discarded. -/
def modStop (s : State) : State :=
  let s := s.setFlag Reg.MOD_STAT 0 false
  { s with mod := { s.mod with run := none, hold := false } }

/-- STANDBY discards the modulator's state (R41). -/
def modDiscard (s : State) : State :=
  let s := s.modClear.modStop
  { ([Reg.MOD_LFSR, Reg.MOD_ROT_STAT, Reg.MOD_SS_STAT].foldl (fun s a => s.putN a 0) s) with mod := {} }

/-- The record of a cell in the telemetry set that feeds the run (R211). -/
def fedOf (s : State) (cell : Nat) : Option TlmRec := s.mod.fed.find? fun r => r.cell == cell

/-- The VCAP a cell counts with, and whether MOD_VNOM stands in (R211). -/
def vcapOf (s : State) (c : Nat) : Fl × Bool :=
  let nom := (Fl.of32 (s.getN Reg.MOD_VNOM), true)
  match s.fedOf c with
  | none => nom
  | some r => if r.vcap.isFinite && Fl.lt Fl.zero r.vcap then (r.vcap, false) else nom

/-- Decoded CELL_CMD (R210): 0 BLOCK, 1 RUN, 2 BYPASS. -/
def cellMode (ws : List (Nat × Word)) (c : Nat) : Nat :=
  let k := Fl.nearest (inWord ws (16 + c))
  if k = 0 then 1 else if k = 1 then 2 else 0

def activeOf (s : State) (ws : List (Nat × Word)) (p : Nat) : List Nat := (s.cellsOfPhase p).filter fun c => cellMode ws c == 1

/-- ESW of a cell in that set; none where it is not valid (R211). -/
def eswOf (s : State) (c : Nat) : Option Nat := (s.fedOf c).map (·.esw)

/-- A saturating counter of a cell or a phase and its total. -/
def countDrop (s : State) (c p : Nat) : State :=
  ((s.inc (Reg.MOD_CELL_CNT_DROP c)).inc (Reg.MOD_PH_CNT_DROP p)).stick Reg.MOD_EVT 2

def countFull (s : State) (c p : Nat) : State := (s.inc (Reg.MOD_CELL_CNT_FULL c)).inc (Reg.MOD_PH_CNT_FULL p)

/-- The debts of one phase at a rotation event (R222; the SNAP of an ESW that is not valid is free, log entry 25): the state, and the valid differences by cell. -/
def updateDebts (s : State) (p : Nat) : State × List (Nat × Nat) × Option Nat :=
  let cs := s.cellsOfPhase p
  let des := cs.filterMap fun c =>
    let x := s.slowOf c
    match s.eswOf c with
    | some e => if x.slot ≠ 0xFF ∧ x.snapValid ∧ (e + 2 ^ 32 - x.snap) % 2 ^ 32 < 2 ^ 31 then some (c, (e + 2 ^ 32 - x.snap) % 2 ^ 32) else none
    | none => none
  let s := cs.foldl (fun s c =>
    let s := s.putN (Reg.MOD_CELL_ELAST c) (lookOr 0xFFFFFFFF des c)
    let (x, s) := match s.eswOf c with
      | some e => ({ s.slowOf c with snap := e, snapValid := true }, s)
      | none => let (w, s) := s.free; ({ s.slowOf c with snap := w.toNat, snapValid := false }, s)
    (s.setSlow c x).putN (Reg.MOD_CELL_SNAP c) x.snap) s
  if des.isEmpty then (s, [], none)
  else
    let mean := des.foldl (fun n d => n + d.2) 0 / des.length
    let lim : Int := s.getN Reg.MOD_EQ_LIM % 2 ^ 31
    let s := des.foldl (fun s d =>
      let x := s.slowOf d.1
      let v := x.debt + (d.2 : Int) - (mean : Int)
      let cl := clampInt (-lim) lim v
      let s := if cl = v then s else s.stick Reg.MOD_EVT 5
      (s.setSlow d.1 { x with debt := cl }).putN (Reg.MOD_CELL_DEBT d.1) (unsigned 32 cl)) s
    let mx := des.foldl (fun m d => max m d.2) 0
    let mn := des.foldl (fun m d => min m d.2) (2 ^ 32)
    let s := (s.putN (Reg.MOD_PH_SPREAD p) (mx - mn)).putN (Reg.MOD_PH_EMEAN p) mean
    let s := s.putN (Reg.MOD_PH_SPMAX p) (max (s.getN (Reg.MOD_PH_SPMAX p)) (mx - mn))
    (s, des, some mean)

/-- Keys of the rotation generator for the cells of phases A, B and C in turn (R221). -/
def rotationKeys (s : State) : State × List (Nat × Nat) :=
  let all := [0, 1, 2].flatMap s.cellsOfPhase
  let q0 : Nat × List (Nat × Nat) := (s.getN Reg.MOD_LFSR, [])
  let (st, ks) := all.foldl (fun (q : Nat × List (Nat × Nat)) (c : Nat) => ((lfsrKey 16 0 q.1).2, (c, (lfsrKey 16 0 q.1).1) :: q.2)) q0
  (s.putN Reg.MOD_LFSR st, ks)

/-- Slots of one phase (R223). -/
def assignSlots (s : State) (p : Nat) (act : List Nat) (keys : List (Nat × Nat)) (des : List (Nat × Nat)) (mean : Option Nat) : State :=
  let eq := s.flag Reg.MOD_CTRL 0
  let key : Nat → Nat := fun (c : Nat) => lookOr 0 keys c
  let band := fun (c : Nat) => (s.slowOf c).debt / (max 1 (s.fld Reg.MOD_EQ_CFG 15 0) : Int)
  let before : Nat → Nat → Bool := fun a b =>
    if eq ∧ band a ≠ band b then decide (band b < band a)
    else if key a = key b then decide (a < b)
    else decide (key a < key b)
  let order := sortBy before act
  let n := act.length
  let same := act == (s.mod.evtAct.filter fun c => (s.cellsOfPhase p).contains c)
  let loss : Nat → Nat := fun (q : Nat) =>
    match (s.cellsOfPhase p).find? fun c => (s.slowOf c).slot == q with
    | some c => lookOr (mean.getD 0) des c
    | none => mean.getD 0
  let slots := if eq ∧ same then sortBy (fun a b => decide (loss a < loss b) || (loss a == loss b && decide (a < b))) (List.range n) else List.range n
  let s := (s.cellsOfPhase p).foldl (fun s c => s.setSlow c { s.slowOf c with slot := 0xFF }) s
  (order.zip slots).foldl (fun s a => s.setSlow a.1 { s.slowOf a.1 with slot := a.2 }) s

/-- MOD_SLOT registers of a phase: the cell in each slot (R236). -/
def slotRegs (s : State) (p : Nat) : State :=
  let cellIn := fun q => (match (s.cellsOfPhase p).find? fun c => (s.slowOf c).slot == q with | some c => c | none => 0xFF)
  (List.range 12).foldl (fun s j => s.putN (Reg.MOD_SLOT p j) (cellIn (4 * j) + 256 * (cellIn (4 * j + 1) + 256 * (cellIn (4 * j + 2) + 256 * cellIn (4 * j + 3))))) s

/-- The slow-state image (R231). -/
def slowImage (s : State) : List Byte :=
  leBytes 2 (s.fld Reg.MOD_SS_STAT 15 0) ++ leBytes 2 144 ++ List.replicate 12 0 ++ (List.range 144).flatMap fun c =>
    let x := s.slowOf c
    leBytes 4 (unsigned 32 x.debt) ++ leBytes 4 x.snap ++ leBytes 1 x.slot ++ leBytes 1 (b2n x.snapValid) ++ [0, 0]

/-- The slow state taken from an image (R231, R265). -/
def loadSlow (s : State) (im : List Byte) : State :=
  let s := (List.range 144).foldl (fun s c =>
    let e := slice im (16 + 12 * c) 12
    let x : SlowCell := { debt := signed 32 (leAt e 0 4), snap := leAt e 4 4, slot := leAt e 8 1, snapValid := bitAt (leAt e 9 1) 0 }
    ((s.setSlow c x).putN (Reg.MOD_CELL_DEBT c) (unsigned 32 x.debt)).putN (Reg.MOD_CELL_SNAP c) x.snap) s
  let s := (s.stick Reg.MOD_EVT 3).putN Reg.MOD_SS_STAT (0x10000 + leAt im 0 2)
  { s with mod := { s.mod with adopt := none } }

/-- A slow-state image that waits is adopted, if it is the one of this ROT_SEQ (R231). -/
def adoptSlow (s : State) (seq : Nat) : State :=
  match s.mod.adopt with
  | some im => if leAt im 0 2 = seq then s.loadSlow im else s
  | none => s

/-- A rotation event (R220-R223): cause, new keys, debts, slots. A waiting image of the ROT_SEQ that the module stands at is taken over before
the event works on it, one of the ROT_SEQ that the event gives after it (R231, DEDUCED: either way the image is that of the same event; log
entry 192). -/
def rotate (s : State) (cause : Nat) (acts : List (List Nat)) : State :=
  let s := s.adoptSlow (s.fld Reg.MOD_ROT_STAT 15 0)
  let seq := (s.fld Reg.MOD_ROT_STAT 15 0 + 1) % 65536
  let s := (s.setFld Reg.MOD_ROT_STAT 15 0 seq).setFld Reg.MOD_ROT_STAT 17 16 cause
  let s := (s.stick Reg.MOD_EVT 6).evt 0x005
  let (s, keys) := s.rotationKeys
  let s := [0, 1, 2].foldl (fun s p =>
    let (s, des, mean) := s.updateDebts p
    s.assignSlots p (acts.getD p []) keys des mean) s
  let s := s.setFld Reg.MOD_SS_STAT 15 0 seq
  let s := [0, 1, 2].foldl slotRegs (s.adoptSlow seq)
  { s with mod := { s.mod with rotEl := 0, evtAct := acts.flatten, fresh := false } }

/-- A pulse's place in the cycle (R216): start and end. -/
def placePulse (pu minp n slot w : Nat) : Nat × Nat :=
  let c := (2 * slot + 1) * pu / (2 * n)
  let st := min (c - w / 2) (pu - w)
  let st := if 0 < st ∧ st < minp then 0
    else if 0 < pu - (st + w) ∧ pu - (st + w) < minp then pu - w else st
  (st, st + w)

/-- Dead-time advance of an edge (R218): rise at the start of POS, and so on. late marks the edges advanced by DT for I ≥ I_DTC. -/
def dtcAdvance (s : State) (lateWhenPos : Bool) (i : Fl) : Nat :=
  let dt := s.mdt
  let lim := Fl.of32 (s.getN Reg.MOD_DTC_CFG)
  if !s.flag Reg.MOD_CTRL 1 then 0
  else if Fl.lt i.abs lim then dt / 2
  else if Fl.le lim i then (if lateWhenPos then dt else 0)
  else if lateWhenPos then 0 else dt

/-- An EDGE word (R142). -/
def edgeWord (time st : Nat) : Nat := st * 2 ^ 24 + time % 2 ^ 24

/-- The edge list of an active cell (R217, R218): a is 1 POS or 2 NEG. -/
def edgeList (s : State) (pu w st en a : Nat) (i : Fl) : List Nat :=
  let adS := s.dtcAdvance (a == 2) i
  let adE := s.dtcAdvance (a == 1) i
  if w = 0 then [edgeWord 0 4]
  else if w = pu then [edgeWord 0 a]
  else if st = 0 then [edgeWord 0 a, edgeWord (en - adE) 4]
  else if en = pu then [edgeWord 0 4, edgeWord (st - adS) a]
  else [edgeWord 0 4, edgeWord (st - adS) a, edgeWord (en - adE) 4]

/-- A command record (R142). -/
def recordBytes (cell flags mode : Nat) (edges : List Nat) (dab prof : Nat) : List Byte :=
  leBytes 1 cell ++ leBytes 1 flags ++ leBytes 1 mode ++ leBytes 1 edges.length
    ++ ((edges ++ List.replicate 4 0).take 4).flatMap (leBytes 4) ++ leBytes 2 dab ++ leBytes 1 prof ++ List.replicate 9 0

/-- A record enters the schedule; the cell's registers describe it, and hold 0 for what a cell without pulse does not have (R237). -/
def emitRecord (s : State) (cell flags mode : Nat) (edges : List Nat) (dab prof : Nat) : State :=
  let r := recordBytes cell flags mode edges dab prof
  let s := { s with mod := { s.mod with recs := s.mod.recs ++ [(cell, r)] } }
  let s := s.putWords (Reg.MOD_CELL_EDGE cell 0) ((edges ++ List.replicate 4 0).take 4)
  let s := s.putN (Reg.MOD_CELL_DAB cell) (flags % 2 * 2 ^ 24 + prof * 2 ^ 16 + dab)
  let s := s.putN (Reg.MOD_CELL_CRC cell) (crc32 r)
  let s := s.putN (Reg.MOD_CELL_STAT cell) (s.chainPhase (cell / 12) * 2 ^ 22 + (s.slowOf cell).slot * 2 ^ 8 + mode)
  let s := [Reg.MOD_CELL_VCAP cell, Reg.MOD_CELL_DWELL cell, Reg.MOD_CELL_KEY cell, Reg.MOD_CELL_CMDW cell].foldl (fun s a => s.putN a 0) s
  let s := s.setFlag (Reg.MOD_RUNMAP (cell / 32)) (cell % 32) (mode == 1)
  let s := s.setFlag (Reg.MOD_BYPMAP (cell / 32)) (cell % 32) (mode == 2)
  s.setFlag (Reg.MOD_DROPMAP (cell / 32)) (cell % 32) false

/-- A BLOCK record, with FLAGS.TEST in COMMISSION (R207). -/
def emitBlock (s : State) (cell : Nat) : State :=
  s.emitRecord cell (if s.mode = COMMISSION then 2 else 0) 0 [] 0 0

/-- Flags and DAB fields of a RUN cell (R225). -/
def dabFields (s : State) (ws : List (Nat × Word)) (p cell : Nat) : Nat × Nat × Nat :=
  let x := Fl.nearest (Fl.mul (Fl.add (inWord ws (7 + p)) (inWord ws (160 + cell))) (Fl.ofNat 65536))
  let on := Fl.le (Fl.ofDyadic 1 (-1)) (inWord ws 10)
  let prof := if s.mode = ENERGIZE then s.fld Reg.MOD_DAB_CFG 15 8 else s.fld Reg.MOD_DAB_CFG 7 0
  (b2n on, unsigned 16 (clampInt (-32768) 32767 x), prof)

/-- One phase of a schedule (R212-R218). ticks is the length of the cycle the schedule serves. -/
def modPhase (s : State) (ws : List (Nat × Word)) (ticks p : Nat) (act : List Nat) : State :=
  let ps := r32 (Fl.div32 (Fl.ofNat (8 * ticks)) (Fl.ofNat 1000000000))
  let pu := 32 * ticks
  let n := act.length
  let mp := s.minp
  let test := if s.mode = COMMISSION then 2 else 0
  let vref := inWord ws p
  let target := r32 (Fl.add (Fl.mul vref ps) (Fl.of32 (s.mod.carry.getD p 0).toNat))
  let s := s.putN (Reg.MOD_PH_VREF p) (Fl.to32 vref)
  let cmdReg := fun (s : State) (c : Nat) => s.putN (Reg.MOD_CELL_CMDW c) (Fl.to32 (inWord ws (16 + c)))
  let idle := (s.cellsOfPhase p).filter fun c => !act.contains c
  let s := idle.foldl (fun s c =>
    cmdReg (s.emitRecord c test (cellMode ws c) [] 0 0) c) s
  if n = 0 then
    let s := { s with mod := { s.mod with carry := modNth (fun _ => 0) p s.mod.carry } }
    [Reg.MOD_PH_STAT p, Reg.MOD_PH_CARRY p, Reg.MOD_PH_DUTY p, Reg.MOD_PH_IARM p].foldl (fun s a => s.putN a 0) s
  else
    let vs := act.map fun c => (c, s.vcapOf c)
    let vof := fun c => (match vs.find? (·.1 == c) with | some v => v.2.1 | none => Fl.zero)
    let vsum := r32 (sumExt (vs.map fun v => v.2.1))
    let pos := !(Fl.lt target Fl.zero)
    let d0 := Fl.div32 target.abs (Fl.mul vsum ps)
    let ovm := Fl.lt (Fl.ofNat 1) d0
    let d := if ovm then Fl.ofNat 1 else d0
    let ias := (act.filterMap s.fedOf).map (·.iarm) |>.filter Fl.isFinite
    let i := if ias.isEmpty then Fl.zero else Fl.div32 (sumExt ias) (Fl.ofNat ias.length)
    let si := if pos then i else i.neg
    let sigma : Int := if Fl.lt i.abs (Fl.of32 (s.getN Reg.MOD_DTC_CFG)) || si.isZero then 0 else if si.isNeg then -1 else 1
    let vbar := r32 (Fl.div32 vsum (Fl.ofNat n))
    let keyOf := fun c => r32 (Fl.div32 (Fl.mul (Fl.neg (Fl.ofInt sigma)) (Fl.sub (vof c) vbar)) vbar)
    let ranked := sortBy (fun a b => Fl.lt (keyOf b) (keyOf a) || (!Fl.lt (keyOf a) (keyOf b) && decide (a < b))) act
    let b0 := inWord ws (3 + p)
    let beta := if Fl.lt b0 Fl.zero || b0.isNan then Fl.zero else if Fl.lt (Fl.ofNat 1) b0 then Fl.ofNat 1 else b0
    let delta := fun (r : Nat) =>
      if n = 1 ∨ !s.flag Reg.MOD_CTRL 2 then d
      else Fl.min2 (Fl.ofNat 1) (Fl.div32 (Fl.mul d (Fl.add (Fl.ofNat (n - 1)) (Fl.mul beta (Fl.ofInt ((n : Int) - 1 - 2 * (r : Int)))))) (Fl.ofNat (n - 1)))
    let s := act.foldl (fun s c =>
      let (v, sub) := s.vcapOf c
      let rank := ranked.idxOf c
      let w0 := if ovm then pu else (Fl.nearest (Fl.mul (delta rank) (Fl.ofNat pu))).toNat
      let dropped := decide (0 < w0) && decide (w0 < mp)
      let filled := decide (pu - mp < w0) && decide (w0 < pu)
      let w := if dropped then 0 else if filled then pu else w0
      let s := if dropped then s.countDrop c p else if filled then s.countFull c p else s
      let (st, en) := placePulse pu mp n (s.slowOf c).slot w
      let edges := s.edgeList pu w st en (if pos then 1 else 2) i
      let (on, dab, prof) := s.dabFields ws p c
      let s := cmdReg (s.emitRecord c (test + on) 1 edges dab prof) c
      let s := (s.putN (Reg.MOD_CELL_VCAP c) (Fl.to32 v)).putN (Reg.MOD_CELL_DWELL c) w
      let s := s.putN (Reg.MOD_CELL_KEY c) (Fl.to32 (keyOf c))
      let s := s.setFld (Reg.MOD_CELL_STAT c) 5 2 (1 + 2 * b2n dropped + 4 * b2n filled + 8 * b2n sub)
      let s := s.setFld (Reg.MOD_CELL_STAT c) 21 16 rank
      s.setFlag (Reg.MOD_DROPMAP (c / 32)) (c % 32) dropped) s
    let wOf := fun c => s.getN (Reg.MOD_CELL_DWELL c)
    let issued := Fl.div32 (sumExt (act.map fun c => Fl.mul (Fl.ofNat (wOf c)) (vof c))) (Fl.ofNat 4000000000)
    let carry0 := if ovm then Fl.zero else r32 (Fl.sub target (if pos then issued else issued.neg))
    let limit := Fl.div32 (Fl.mul (Fl.ofNat (2 * mp)) vsum) (Fl.ofNat (4000000000 * n))
    let sat := Fl.lt limit carry0.abs
    let carry := if sat then (if carry0.isNeg then limit.neg else limit) else carry0
    let nd := (act.filter fun c => s.flag (Reg.MOD_CELL_STAT c) 3).length
    let nf := (act.filter fun c => s.flag (Reg.MOD_CELL_STAT c) 4).length
    let s := if ovm then (s.stick Reg.MOD_EVT 0).inc (Reg.MOD_PH_CNT_OVM p) else s
    let s := if sat then (s.stick Reg.MOD_EVT 1).inc (Reg.MOD_PH_CNT_CSAT p) else s
    let s := { s with mod := { s.mod with carry := modNth (fun _ => f32w carry) p s.mod.carry } }
    let s := s.putN (Reg.MOD_PH_STAT p) (n + 64 * b2n (!pos) + 128 * b2n ovm + 256 * nd + 16384 * nf)
    let s := (s.putN (Reg.MOD_PH_CARRY p) (Fl.to32 carry)).putN (Reg.MOD_PH_DUTY p) (Fl.to32 d)
    s.putN (Reg.MOD_PH_IARM p) (Fl.to32 i)

/-- The causes of a rotation event in this run, highest code first (R220). -/
def rotationCause (s : State) (ws : List (Nat × Word)) (acts : List Nat) : Option Nat :=
  let a := fracF (inWord ws 6)
  let pr := fracF (Fl.of32 s.mod.anglePrev.toNat)
  let wrap := Fl.lt a (Fl.sub pr (Fl.ofDyadic 1 (-1)))
  if s.mod.fresh then some 3
  else if acts ≠ s.mod.lastAct then some 2
  else if s.fld Reg.MOD_ROT_CFG 15 0 * 1250 ≤ s.mod.rotEl then some 1
  else if wrap ∧ s.fld Reg.MOD_ROT_CFG 31 16 * 1250 ≤ s.mod.rotEl then some 0
  else none

/-- A run on input words for the boundary that starts cycle cyc, a cycle of the given length (R207-R230). -/
def modRun (s : State) (ws : List (Nat × Word)) (cyc ticks src : Nat) : State :=
  let s := { s with mod := { s.mod with recs := [], recsCycle := cyc, words := ws } }
  let odd := s.cells.any fun c => !(inWord ws (16 + c)).isInt
  let s := if odd then s.stick Reg.MOD_EVT 4 else s
  let acts := [0, 1, 2].map (s.activeOf ws)
  let flat := acts.flatten
  let cause := s.rotationCause ws flat
  let s := match cause with
    | some c => s.rotate c acts
    | none => s
  let s := [0, 1, 2].foldl (fun s p => s.modPhase ws ticks p (acts.getD p [])) s
  let n := s.cells.length
  let t := 140 + 5 * n / 2 + (if cause.isSome then 160 + n else 0)
  let s := (s.setFld Reg.MOD_TIME 15 0 t).setFld Reg.MOD_TIME 31 16 (max t (s.fld Reg.MOD_TIME 31 16))
  let s := (s.setFld Reg.MOD_STAT 31 16 (cyc % 65536)).setFld Reg.MOD_STAT 2 1 src
  { s with mod := { s.mod with rotEl := s.mod.rotEl + ticks, anglePrev := f32w (inWord ws 6), lastAct := flat, run := none } }

/-- A schedule of BLOCK records only (R207). -/
def modBlock (s : State) (cyc : Nat) : State :=
  let s := { s with mod := { s.mod with recs := [], recsCycle := cyc } }
  let s := s.cells.foldl emitBlock s
  (s.setFld Reg.MOD_STAT 31 16 (cyc % 65536)).setFld Reg.MOD_STAT 2 1 0

/-- The schedule of a jog (R227). -/
def modJog (s : State) (cyc : Nat) : State :=
  let s := { s with mod := { s.mod with recs := [], recsCycle := cyc } }
  let c := s.actFld Reg.MOD_JOG_CFG 7 0
  let ne := s.actFld Reg.MOD_JOG_CFG 15 12
  let dab := s.actN Reg.MOD_JOG_DAB
  let s := s.cells.foldl (fun s x =>
    if x = c then s.emitRecord x (2 + s.actFld Reg.MOD_JOG_CFG 9 9) (s.actFld Reg.MOD_JOG_CFG 11 10)
        ((List.range ne).map fun i => s.actN (Reg.MOD_JOG_EDGE i)) (dab % 65536) (dab / 65536 % 256)
    else s.emitBlock x) s
  (s.setFld Reg.MOD_STAT 31 16 (cyc % 65536)).setFld Reg.MOD_STAT 2 1 3

/-- The input words of open-loop modulation (R227). Each is any value within the error bound of R227: the free
value where it lies there (log entry 9). -/
def olWords (s : State) : State × List (Nat × Word) :=
  let th := r32 (fracF (r32 (Fl.add (Fl.of32 s.mod.theta.toNat) (Fl.of32 (s.actN Reg.MOD_OL_ARATE)))))
  let s := { s with mod := { s.mod with theta := f32w th } }
  let one := fun (s : State) (p : Nat) =>
    let (fv, s) := s.free
    let amp := Fl.of32 (s.actN (Reg.MOD_OL_AMP p))
    let x := Fl.sub th (Fl.ofDyadic ((p : Int) * 2 ^ 64 / 3) (-64))
    let v := Fl.mul amp (Fl.ofDyadic (cosTurns x) (-60))
    let fits := (Fl.of32 fv.toNat).isFinite && Fl.lt (Fl.sub (Fl.of32 fv.toNat) v).abs (Fl.mul amp.abs (Fl.ofDyadic 1 (-20)))
    (s, if fits then fv else f32w v)
  let (s, a) := one s 0
  let (s, b) := one s 1
  let (s, c) := one s 2
  let w := fun r => s.act r
  let on : Word := if s.actFlag Reg.MOD_OL_CTRL 1 then 0x3F800000 else 0
  let ws := [(0, a), (1, b), (2, c), (3, w Reg.MOD_OL_BAL), (4, w Reg.MOD_OL_BAL), (5, w Reg.MOD_OL_BAL), (6, f32w th),
    (7, w Reg.MOD_OL_DAB), (8, w Reg.MOD_OL_DAB), (9, w Reg.MOD_OL_DAB), (10, on)]
  (s, ws.filter fun p => p.2 != 0)

/-- Frames of the schedule released on all used chains (R147), their records in position order (R142); the records are kept for R150. -/
def releaseFrames (s : State) : State :=
  let cyc := s.mod.recsCycle
  let s := s.usedChains.foldl (fun s c =>
    s.releaseFrame c cyc ((sortBy (fun a b => decide (a.1 < b.1)) (s.mod.recs.filter fun r => r.1 / 12 == c)).flatMap (·.2))) s
  { s with mod := { s.mod with hold := false },
           mby := { s.mby with sent := (s.mod.recs.map fun r => (cyc, r.1, r.2)) ++ s.mby.sent.filter fun r => decide ((cyc + 2 ^ 32 - r.1) % 2 ^ 32 ≤ 3) } }

/-- The COMMISSION schedule for the next boundary (R227): jog, open loop, or BLOCK. -/
def modCommission (s : State) (ticks : Nat) : State :=
  let cyc := (s.cycle + 1) % 2 ^ 32
  if s.mod.commStop then s.modBlock cyc
  else if s.actFlag Reg.MOD_JOG_CFG 8 then s.modJog cyc
  else if s.actFlag Reg.MOD_OL_CTRL 0 then
    let (s, ws) := s.olWords
    s.modRun ws cyc ticks 2
  else s.modBlock cyc

/-- Counters, longest run and spread maxima become 0 (R236). -/
def modCntClr (s : State) : State :=
  let s := (List.range 144).foldl (fun s c => (s.putN (Reg.MOD_CELL_CNT_DROP c) 0).putN (Reg.MOD_CELL_CNT_FULL c) 0) s
  let s := [0, 1, 2].foldl (fun s p =>
    [Reg.MOD_PH_CNT_DROP p, Reg.MOD_PH_CNT_FULL p, Reg.MOD_PH_CNT_OVM p, Reg.MOD_PH_CNT_CSAT p, Reg.MOD_PH_SPMAX p].foldl (fun s a => s.putN a 0) s) s
  s.setFld Reg.MOD_TIME 31 16 0

end State
end Sys2Proof.Machine
end

