-- ==== Sys2Proof/Machine/Partner.lean ====
section
/-!
DEFINITION. The pair (chapter 8): roles and terms, partner-lane frames, state copies, NEED and relays, disagreement, yielding,
silence, joining.
-/
namespace Sys2Proof.Machine
namespace State

def setPtn (s : State) (f : Ptn → Ptn) : State := { s with ptn := f s.ptn }

/-- a is ahead of b by signed 16-bit difference (R239). -/
def termAhead (a b : Nat) : Bool := decide (0 < (a + 65536 - b) % 65536) && decide ((a + 65536 - b) % 65536 < 32768)

/-- PTN_EVT bit i; source 37 fires when it is set (R481). -/
def ptnEvt (s : State) (i : Nat) : State := s.setEvt Reg.PTN_EVT i 37

/-- Partner lane k (L12 + k) is UP. -/
def plUp (s : State) (k : Nat) : Bool := s.laneUp (12 + k)

def inStep (s : State) : Bool := s.flag Reg.PTN_STAT 24
def partnerInStep (s : State) : Bool := s.flag Reg.PTN_STAT 23
def absent (s : State) : Bool := s.flag Reg.PTN_STAT 21
def detached (s : State) : Bool := s.flag Reg.PTN_STAT 20
def bankSplit (s : State) : Bool := s.flag Reg.PTN_STAT 19
def joinStep (s : State) : Nat := s.fld Reg.PTN_STAT 31 28
def setJoin (s : State) (n : Nat) : State := s.setFld Reg.PTN_STAT 31 28 n

/-- IN_STEP: a FOLLOW that comes into step ends its join (R255, R265). -/
def setInStep (s : State) (b : Bool) : State :=
  let s := s.setFlag Reg.PTN_STAT 24 b
  if b then s.setJoin 0 else s.setPtn fun p => { p with equalRun := 0 }

/-- The highest term held or received becomes t, if t is ahead of it; MRAM takes it while it can be written (R239, R507). -/
def keepTerm (s : State) (t : Nat) : State :=
  if termAhead t s.ptn.storedTerm then
    s.setPtn fun p => { p with storedTerm := t, termMram := if s.mramBarred then p.termMram else t }
  else s

/-- The own term; the stored term keeps the highest one held or received (R239). -/
def setTerm (s : State) (t : Nat) : State := (s.setFld Reg.PTN_TERM 15 0 t).keepTerm t

def setRole (s : State) (r : Nat) : State := s.setFld Reg.PTN_STAT 26 25 r

/-- With no partner declared the module is LEAD alone (R238). -/
def loneLead (s : State) : State := if s.paired then s else s.setRole 1

/-- The module becomes LEAD with a term one above the highest it has held or received (R239, R259, R262, R263). -/
def promote (s : State) : State :=
  let s := ((s.setRole 1).setTerm ((s.ptn.storedTerm + 1) % 65536)).setInStep false
  let s := s.setJoin 0
  (s.ptnEvt 0).pulse 0x54

/-- A LEAD becomes FOLLOW (R254); its IN_STEP starts clear (log entry 237). -/
def stepDown (s : State) : State :=
  let s := (s.setRole 2).setInStep false
  (s.setPtn fun p => { p with yielded := false, deposedRun := 0 }).pulse 0x54

/-- A LEAD that R264 demotes also adopts the partner's term t and sets DEPOSED. -/
def deposeTo (s : State) (t : Nat) : State := ((s.setTerm t).ptnEvt 10).stepDown

/-- The same, with the term that the partner's frames gave. -/
def depose (s : State) : State := s.deposeTo (s.fld Reg.PTN_TERM 31 16)

/-- The module yields (R259); not on command it also withdraws and enters SAFE through PTN_YIELD. -/
def yieldNow (s : State) (onCommand : Bool) : State :=
  let s := (s.setPtn fun p => { p with yielded := true }).ptnEvt 1
  if onCommand then (s.setRole 2).setFlag Reg.PTN_STAT 24 true
  else (s.setFlag Reg.PTN_STAT 22 true).pulse 0x51

/-! ## Frames (R243-R247) -/

/-- A frame for the partner; a module without a role sends ROLE 0 (R243). -/
def partnerFrame (s : State) (type c cyc : Nat) (body : List Byte) : List Byte :=
  let h := s.headerBytes type c (cyc % 65536) cyc body.length
  let h := if s.roleNo = 0 then h.take 2 ++ [0] ++ h.drop 3 else h
  withCrc (h ++ body)

/-- The frame is queued for partner lane k if that lane is UP; it starts in the order of R244. -/
def sendPartner (s : State) (k : Nat) (f : List Byte) : State :=
  if s.plUp k then s.setPtn fun p => { p with wait := p.wait ++ [(k, f)] } else s

def sendBoth (s : State) (f : List Byte) : State := (s.sendPartner 0 f).sendPartner 1 f

/-- PFLAGS of R247. -/
def pflags (s : State) : Nat :=
  b2n s.ptn.yielded + 2 * b2n s.inStep + 4 * b2n s.ptn.gvReq + 8 * b2n s.ptn.gvDone + 16 * b2n (s.flag Reg.PTN_STAT 15)
    + 32 * b2n s.ptn.stop + 64 * b2n s.ptn.resetReq + 128 * b2n s.withdrawn

/-- TMODE and TCYCLE (R245, R247). -/
def tmode (s : State) : Nat := match s.sys.pend with | some p => p.target | none => 0xFF
def tcycle (s : State) : Nat := match s.sys.pend with | some p => p.atCycle | none => 0

/-- NEED as 18 bytes (R247, R248). -/
def needBytes (s : State) : List Byte := (s.getBytes (Reg.PTN_NEED 0) 5).take 18

/-- The body of a STATUS (R247). -/
def statusBody (s : State) : List Byte :=
  leBytes 1 s.mode ++ leBytes 1 s.pflags ++ leBytes 1 s.tmode ++ leBytes 1 (s.fld Reg.SYS_MODE 11 8) ++ leBytes 4 s.tcycle
    ++ s.needBytes ++ leBytes 4 (s.getN Reg.PTN_BDIG) ++ [0, 0]

def sendStatus (s : State) : State :=
  if s.paired && s.awake then s.sendBoth (s.partnerFrame 0x11 0xFF s.cycle s.statusBody) else s

/-- What makes the module queue a further STATUS when it changes (R247). -/
def statusKey (s : State) : Nat × Nat × List Byte := (s.pflags, s.tmode, s.needBytes)

/-- The body of a HELLO (R243). -/
def helloBody (s : State) : List Byte :=
  leBytes 8 s.fuses.uid ++ (s.getBytes (Reg.TRU_RCP_DIG 0) 12).take 16 ++ leBytes 2 s.ptn.storedTerm ++ leBytes 1 s.roleNo
    ++ leBytes 1 s.mode ++ leBytes 1 s.joinStep ++ [0, 0, 0]

/-- The partner's role as last heard: in its STATUS or HELLO header. -/
def partnerRole (s : State) : Nat := match s.ptn.status with | some p => p.role | none => 0

/-- At a boundary: HELLO while a role is missing or the partner is absent (R244). -/
def sendHello (s : State) : State :=
  if s.paired && s.awake && (s.roleNo == 0 || s.partnerRole == 0 || s.absent) then
    (s.sendBoth (s.partnerFrame 0x14 0xFF s.cycle s.helloBody)).setPtn fun p => { p with helloSent := p.helloSent || s.plUp 0 || s.plUp 1 }
  else s

/-- The body of a valid partner-lane frame of this type and length (R140, R243); len none where the length varies. -/
def partnerBody? (s : State) (lane type : Nat) (f : List Byte) (errored : Bool) : Option (FrameHead × List Byte) :=
  let h := frameHead f
  if s.paired && s.awake && decide (lane < 2) && s.plUp lane && !errored && frameCrcOk f && h.version == 1 && h.type == type
      && f.length == 20 + h.length && h.seq == h.cycle % 65536 && decide (h.role ≤ 2) then
    some (h, slice f 16 h.length)
  else none

/-- Every valid partner-lane frame: it ends the silence, and its term may be the highest heard (R239, R240, R262). -/
def heard (s : State) (h : FrameHead) : State :=
  let s := s.setFld Reg.PTN_TERM 31 16 h.term
  let s := (s.keepTerm h.term).setPtn fun p => { p with
    rx := true, bootQuiet := 0, silent := 0,
    highTerm := (match p.highTerm with | some t => some (if termAhead h.term t then h.term else t) | none => some h.term) }
  let s := if s.isFollow && h.role == 1 then s.setFld Reg.PTN_TERM 15 0 h.term else s
  if s.detached then (s.setFlag Reg.PTN_STAT 20 false).setCond 0x53 false else s

/-! ## Banks' tags (R251, R252) -/

/-- BANK_SPLIT follows the two tags. -/
def judgeSplit (s : State) : State :=
  let split := s.paired && s.ptn.status.isSome && s.getN Reg.PTN_BDIG != s.getN Reg.PTN_PBDIG
  let s := (s.setFlag Reg.PTN_STAT 19 split).setCond 0x92 split
  let s := if split then (s.ptnEvt 9).setInStep (s.inStep && !s.isFollow) else s
  if !split && s.joinStep == 2 then s.setJoin 3 else s

/-! ## The state copy (R245, R246, R255, R256, R260) -/

/-- The 32-byte modulator state (R230). -/
def modState (s : State) : List Byte :=
  leBytes 4 (s.getN Reg.MOD_LFSR) ++ leBytes 4 s.mod.rotEl ++ leBytes 4 s.mod.anglePrev.toNat
    ++ (s.mod.carry.flatMap fun c => leBytes 4 c.toNat) ++ leBytes 2 (s.fld Reg.MOD_ROT_STAT 15 0) ++ List.replicate 6 0

def loadModState (s : State) (b : List Byte) : State :=
  let s := (s.putN Reg.MOD_LFSR (leAt b 0 4)).setFld Reg.MOD_ROT_STAT 15 0 (leAt b 24 2)
  { s with mod := { s.mod with rotEl := leAt b 4 4, anglePrev := BitVec.ofNat 32 (leAt b 8 4),
                               carry := [12, 16, 20].map fun o => BitVec.ofNat 32 (leAt b o 4) } }

/-- MODE, TMODE, TCYCLE and BDIG of the copy header: the LEAD's, which a FOLLOW has as last heard. -/
def leadHeader (s : State) : Nat × Nat × Nat × Nat :=
  match s.ptn.lead with
  | some p => if s.isFollow then (p.1, p.2.1, p.2.2, s.getN Reg.PTN_PBDIG) else (s.mode, s.tmode, s.tcycle, s.getN Reg.PTN_BDIG)
  | none => (s.mode, s.tmode, s.tcycle, s.getN Reg.PTN_BDIG)

/-- The image: copy header, modulator state, and the Kneader's words in the modes in which the engine runs. -/
def stateImage (s : State) : List Byte :=
  let w := if engineMode s.mode then s.kne.image else []
  let h := s.leadHeader
  leBytes 1 h.1 ++ leBytes 1 h.2.1 ++ leBytes 2 w.length ++ leBytes 4 h.2.2.1 ++ leBytes 4 h.2.2.2
    ++ s.modState ++ w.flatMap fun x => leBytes 4 x.toNat

/-- Segments of 512 bytes. -/
def segmentsOf : Nat → List Byte → List (List Byte)
  | 0, _ => []
  | k + 1, b => if b.isEmpty then [] else b.take 512 :: segmentsOf k (b.drop 512)

/-- The image of this cycle is formed (R246). Segments that came before it stay: the LEAD's correction may end before one that a rerun or a check
has made late. -/
def imageForm (s : State) : State :=
  if !s.paired then s
  else
    let im := s.stateImage
    let cyc := if engineMode s.mode then s.kne.corrCycle else s.cycle
    s.setPtn fun p => { p with image := im, imageCycle := cyc, segs := p.segs.filter fun x => x.1 == cyc, copyDone := false,
                               copyStart := s.tickNo, others := [0, 0] }

/-- The LEAD sends its image on both lanes (R246). -/
def imageSend (s : State) : State :=
  if s.paired && s.isLead then
    ((segmentsOf 4 s.ptn.image).zipIdx).foldl (fun s g => s.sendBoth (s.partnerFrame 0x10 g.2 s.ptn.imageCycle g.1)) s
  else s

/-- The window of the copy is over on both lanes, and no check holds it back: S, the line time of the image and of the other frames since then,
and 100 ns (R246). -/
def copyOver (s : State) : Bool :=
  let n := s.ptn.image.length
  !s.ptn.gvHeld && s.elapsed s.ptn.copyStart (2 * (n + 22 * ((n + 511) / 512)) + max (s.ptn.others.getD 0 0) (s.ptn.others.getD 1 0) + 100)

/-- The words of an image loaded into persist ranges and biquad states, in copy order (R186, R260). -/
def loadKneWords (s : State) (ws : List Word) : State :=
  let b := s.kne.bank
  let d := s.kneDesc b s.kne.prog
  let places := ((s.persist b d).flatMap fun r => (List.range r.2).map fun i => (false, r.1 + i))
    ++ (s.biqUsed b d).flatMap fun q => [(true, 2 * q), (true, 2 * q + 1)]
  (places.zip ws).foldl (fun s p => if p.1.1 then s.setBiq p.1.2 p.2 else s.setVec p.1.2 p.2) s

/-- The FOLLOW adopts a copy; the prediction is rerun (R260). -/
def adoptCopy (s : State) (im : List Byte) : State :=
  let s := s.loadModState (slice im 12 32)
  let n := leAt im 2 2
  let s := s.loadKneWords ((List.range n).map fun i => BitVec.ofNat 32 (leAt im (44 + 4 * i) 4))
  let s := if s.kneRunning then
      let s := s.setPhase 3
      { s with kne := { s.kne with phaseStart := s.tickNo, done := 0 } }
    else s
  (((s.inc Reg.PTN_CNT_RESYNC).ptnEvt 6).evt 0x04F).setPtn fun p => { p with equalRun := 0 }

def dis (s : State) : Nat := s.fld Reg.PTN_STAT 13 12

/-- One cycle judged for disagreement (R256). -/
def judgeDis (s : State) (bad : Bool) : State :=
  if s.detached then s
  else if !bad then s.setFld Reg.PTN_STAT 13 12 0
  else
    let n := min 2 (s.dis + 1)
    let first := s.dis == 1
    let s := s.setFld Reg.PTN_STAT 13 12 n
    if first && n == 2 then
      let s := (s.inc Reg.PTN_CNT_DIS).ptnEvt 4
      if s.bankSplit then s
      else (s.setFlag Reg.PTN_STAT 16 true).setPtn fun p => { p with gvReq := true, gvDue := true, gvDone := false, gvOwn := none, gvPartner := none }
    else s

/-- A complete copy is compared, counted, adopted (R255, R256, R260). Its header tells of the LEAD alone, so the comparison takes the states and
the words (DEDUCED, log entry 223). -/
def copyComplete (s : State) (im : List Byte) : State :=
  let s := (s.setFld Reg.PTN_STAT 11 10 0).setPtn fun p => { p with copyDone := true }
  let same := im.drop 12 == s.ptn.image.drop 12
  if s.inStep then s.judgeDis (!same || s.ptn.accDis)
  else if same then
    let s := s.setPtn fun p => { p with equalRun := p.equalRun + 1 }
    if 2 ≤ s.ptn.equalRun ∧ !s.bankSplit ∧ s.flag Reg.MOD_SS_STAT 16 ∧ (!s.kneRunning ∨ s.kne.onTime) then s.setInStep true else s
  else if s.dis = 0 ∧ !s.detached then s.adoptCopy im
  else s

/-- A valid beacon came at the last boundary on a used chain lane that is UP (R148, R262). -/
def peerBeacons (s : State) : Bool := s.usedChains.any fun c => s.laneUp c && s.flag (Reg.LNK_CH_STAT c) 30

/-- Silence of the partner: ABSENT without beacons, DETACHED with them (R262, R263). A detached FOLLOW does not promote on silence. -/
def silence (s : State) : State :=
  if s.peerBeacons then
    if s.detached then s else ((s.setFlag Reg.PTN_STAT 20 true).ptnEvt 3).setCond 0x53 true
  else if s.absent then s
  else
    let s := ((s.setFlag Reg.PTN_STAT 21 true).ptnEvt 2).setCond 0x52 true
    if s.isFollow && !s.withdrawn && !s.detached then s.promote else s

/-- The copy of this cycle is missed (R246, R256, R262). -/
def copyMissed (s : State) : State :=
  let n := min 3 (s.fld Reg.PTN_STAT 11 10 + 1)
  let s := (((s.inc Reg.PTN_CNT_COPYMISS).setFld Reg.PTN_STAT 11 10 n).ptnEvt 7).evt 0x04E
  let s := s.setPtn fun p => { p with copyDone := true, equalRun := 0 }
  let s := if s.inStep then s.judgeDis s.ptn.accDis else s
  if n = 3 then s.silence else s

/-! ## At the boundary and at the deadline -/

/-- NEED of the cycle that ended (R248). -/
def judgeNeed (s : State) (cyc : Nat) : State :=
  let need := fun c => s.cellExists c && (!s.laneUp (c / 12) ||
    !(s.mby.recs.any fun r => r.cell == c && r.cycle == cyc && !r.late && !r.relayed))
  (List.range 5).foldl (fun s k => s.putN (Reg.PTN_NEED k) (maskOf 32 fun i => need (32 * k + i))) s

/-- What a boundary judges of the pair: NEED, and silence (R241, R248, R262). -/
def partnerBoundary (s : State) (ended : Nat) : State :=
  if !s.paired || !s.awake then s
  else
    let s := s.judgeNeed ended
    let quiet := !s.ptn.rx
    let s := s.setPtn fun p => { p with rx := false, relays := 0, silent := if quiet then p.silent + 1 else 0,
                                        bootQuiet := if quiet && !s.peerBeacons then p.bootQuiet + 1 else 0 }
    let s := if s.roleNo = 0 ∧ 3 ≤ s.ptn.bootQuiet ∧ !s.ptn.mismatch then
        ((((s.setRole 1).setTerm ((s.ptn.storedTerm + 1) % 65536)).setFlag Reg.PTN_STAT 21 true).ptnEvt 2).setCond 0x52 true
      else s
    if s.isLead ∧ 3 ≤ s.ptn.silent then s.silence else s

/-- ACC fields of the on-time records of this deadline against this module's schedule (R256, R263, R264). -/
def accTests (s : State) : State :=
  if !s.paired then s
  else
    let other := 2 - s.headNo
    let seq := s.cycle % 65536
    let ontime := s.mby.latched
    let foreign := fun (r : TlmRec) => r.accSeq == seq && r.accSrc % 4 == other
    let crcBad := fun (r : TlmRec) => s.mby.sent.any fun x => x.1 == s.cycle && x.2.1 == r.cell && crc32 x.2.2 != r.accCrc
    let bad := ontime.any fun r => foreign r && crcBad r
    let s := s.setPtn fun p => { p with accDis := bad }
    let s := if s.isLead && s.partnerInStep then s.judgeDis bad else s
    let ahead := ontime.filter fun r => r.accSrc % 4 == other && bitAt r.accSrc 2 && termAhead r.accTerm s.ownTerm
    let top := ahead.foldl (fun t r => if termAhead r.accTerm t then r.accTerm else t) s.ownTerm
    let none4 := !ontime.isEmpty && !(ontime.any fun r => bitAt r.accSrc 2)
    let s := s.setPtn fun p => { p with deposedRun := if !ahead.isEmpty then p.deposedRun + 1 else 0, noneRun := if none4 then p.noneRun + 1 else 0 }
    let s := if s.isLead && decide (2 ≤ s.ptn.deposedRun) then s.deposeTo top else s
    if s.isFollow && s.detached && decide (3 ≤ s.ptn.noneRun) then s.promote else s

/-- Record accepted directly and on time: relayed if the partner needs it (R249). -/
def relay (s : State) (r : TlmRec) : State :=
  let up := b2n (s.plUp 0) + b2n (s.plUp 1)
  if s.paired && !s.absent && s.flag Reg.PTN_CFG 0 && s.flag (Reg.PTN_PNEED (r.cell / 32)) (r.cell % 32) && decide (0 < up) then
    if s.ptn.relays < (if up = 2 then 72 else 24) then
      let k := if up = 2 then s.ptn.relays % 2 else if s.plUp 0 then 0 else 1
      let s := s.sendPartner k (s.partnerFrame 0x12 (r.cell / 12) r.cycle r.bytes)
      ((s.incFld Reg.PTN_CNT_RELAY 15 0).evt 0x04C).setPtn fun p => { p with relays := p.relays + 1 }
    else (s.inc Reg.PTN_CNT_RELAYDROP).ptnEvt 8
  else s

/-- Channel c belongs to the partner in a pair (R251). -/
def partnerOwns (s : State) (c : Nat) : Bool := s.paired && s.flag Reg.PTN_ADC_OWN c != s.sys.headB

/-! ## The golden-vector check (R257, R258) -/

/-- Both verdicts known, or the release time reached: the module releases what it holds. The LEAD starts the image of its correction, and the FOLLOW's window for
the copy opens (R257). -/
def gvRelease (s : State) : State :=
  if s.ptn.gvHeld then
    let s := s.setPtn fun p => { p with gvHeld := false, copyStart := s.tickNo, others := [0, 0] }
    let s := if s.mod.hold then s.releaseFrames else s
    s.imageSend
  else s

/-- The check has run: the request is met, and the count of disagreements that led to it ends (R256, R258). -/
def gvOver (s : State) : State := (s.setFld Reg.PTN_STAT 13 12 0).setPtn fun p => { p with gvReq := false }

/-- The verdicts judged (R258). -/
def gvJudge (s : State) : State :=
  match s.ptn.gvOwn, s.ptn.gvPartner with
  | some false, some false => (s.pulse 0x50).gvRelease.gvOver
  | some false, _ => if s.ptn.yielded then s else (s.yieldNow false).gvOver
  | some true, some true =>
    let s := s.gvRelease.gvOver
    if s.isFollow then s.setInStep false else s
  | some true, some false => s.gvRelease.gvOver
  | _, _ => s

/-- This module's check ends with its verdict (R257). -/
def gvDone (s : State) (pass : Bool) : State :=
  let s := s.incFld Reg.PTN_CNT_GV 15 0
  let s := if pass then s else s.incFld Reg.PTN_CNT_GV 31 16
  let s := ((s.setFlag Reg.PTN_STAT 16 false).setFlag Reg.PTN_STAT 15 (!pass)).ptnEvt 5
  (s.setPtn fun p => { p with gvOwn := some pass, gvDone := true }).gvJudge

/-- A partner's GV_REQ: the check runs with the next correction that ends (R257). -/
def gvRequest (s : State) : State :=
  if s.bankSplit || s.flag Reg.PTN_STAT 16 then s
  else (s.setFlag Reg.PTN_STAT 16 true).setPtn fun p => { p with gvDue := true, gvDone := false, gvOwn := none, gvPartner := none }

/-! ## Joining (R265) -/

/-- Steps of the join that need no event of their own. -/
def joinAdvance (s : State) : State :=
  let s := if s.joinStep = 1 ∧ s.ptn.status.isSome then s.setJoin (if s.getN Reg.PTN_BDIG = s.getN Reg.PTN_PBDIG then 3 else 2) else s
  let s := if s.joinStep = 3 ∧ s.flag Reg.MOD_SS_STAT 16 then s.setJoin 4 else s
  s

/-- The module joins as FOLLOW (R241, R265). -/
def joinPair (s : State) : State :=
  let s := (s.setRole 2).setFld Reg.PTN_TERM 15 0 (s.fld Reg.PTN_TERM 31 16)
  ((s.setJoin 1).setInStep false).setFlag Reg.MOD_SS_STAT 16 false

/-- A HELLO (R241, R262, R264): roles, join, return of an absent partner, mismatch. A module that holds a role keeps it when it hears an
incompatible HELLO. -/
def hello (s : State) (h : FrameHead) (b : List Byte) : State :=
  let s := (s.putN Reg.PTN_PUID_LO (leAt b 0 4)).putN Reg.PTN_PUID_HI (leAt b 4 4)
  let t := leAt b 24 2
  let s := s.keepTerm t
  let ok := h.head != s.headNo && slice b 8 16 == (s.getBytes (Reg.TRU_RCP_DIG 0) 12).take 16
  let role := leAt b 26 1
  let s := if s.absent then (s.setFlag Reg.PTN_STAT 21 false).setCond 0x52 false else s
  let s := if role = 0 then s.setPtn fun p => { p with resetReq := false } else s
  let s := if s.roleNo = 1 ∧ role = 1 ∧ (termAhead h.term s.ownTerm ∨ (h.term = s.ownTerm ∧ s.headNo = 1)) then s.depose else s
  if !ok then
    let s := if s.roleNo = 0 then s.setPtn fun p => { p with mismatch := true } else s
    s.setCond 0x91 true
  else if s.ptn.mismatch then s
  else
    let s := s.setCond 0x91 false
    if s.roleNo ≠ 0 then s
    else if role ≠ 0 then s.joinPair
    else if s.ptn.helloSent then (s.setRole (if s.headNo = 0 then 1 else 2)).setTerm ((s.ptn.storedTerm + 1) % 65536)
    else s

/-- BULK data stored (R265): bank bytes into the inactive bank, or the slow-state image, which waits for its rotation event. -/
def bulk (s : State) (b : List Byte) : State :=
  let kind := leAt b 0 1
  let off := leAt b 4 4
  let data := b.drop 8
  if kind = 1 then
    if s.joinStep ≠ 0 ∧ off + data.length ≤ 0x200000 ∧ s.tru.bank.isNone then s.setBytes (bankBase (1 - s.activeBank) + off) data else s
  else if kind = 2 ∧ s.joinStep ≠ 0 ∧ off + data.length ≤ 1744 then
    let parts := (off, data) :: s.ptn.bulk.filter (·.1 != off)
    let s := s.setPtn fun p => { p with bulk := parts }
    if (parts.map (·.2.length)).foldl (· + ·) 0 = 1744 then
      let im := (sortBy (fun a b => decide (a.1 < b.1)) parts).flatMap (·.2)
      { s with mod := { s.mod with adopt := some im }, ptn := { s.ptn with bulk := [] } }
    else s
  else s

def ptnCntClr (s : State) : State :=
  [Reg.PTN_CNT_COPYMISS, Reg.PTN_CNT_DIS, Reg.PTN_CNT_GV, Reg.PTN_CNT_RESYNC, Reg.PTN_CNT_RELAY, Reg.PTN_CNT_RELAYDROP].foldl (fun s a => s.putN a 0) s

end State
end Sys2Proof.Machine
end

