-- ==== Sys2Proof/Machine/Adc.lean ====
section
/-!
DEFINITION. The precision channels (chapter 11): outputs, status, settling, pairs, open-wire detection, limits, metering.
-/
namespace Sys2Proof.Machine
namespace State

def adcCh (s : State) (c : Nat) : AdcCh := s.adc.ch.getD c {}
def setAdcCh (s : State) (c : Nat) (f : AdcCh → AdcCh) : State := { s with adc := { s.adc with ch := modNth f c s.adc.ch } }

/-- A bit of ADC_CHc_EVT or of ADC_EVT; source 46 fires when it is set (R481). -/
def adcEvt (s : State) (c i : Nat) : State := s.setEvt (Reg.ADC_CH_EVT c) i 46

/-- The channel whose CFG and OW govern channel c (R319). -/
def govern (s : State) (c : Nat) : Nat := if s.pairMode c = 0 then c else c / 2 * 2

def adcCfg (s : State) (c : Nat) : Nat := s.actN (Reg.ADC_CH_CFG (s.govern c))
def adcOw (s : State) (c : Nat) : Nat := s.actN (Reg.ADC_CH_OW (s.govern c))
def adcEn (s : State) (c : Nat) : Bool := bitAt (s.adcCfg c) 31
def adcFir (s : State) (c : Nat) : Bool := bitAt (s.adcCfg c) 8

/-- Full scale of the range as n / 25 V (R316): 1.28 V is 32 / 25 and 0.25 V is 6.25 / 25. -/
def fs25 (s : State) (c : Nat) : Fl := if bitAt (s.adcCfg c) 16 then Fl.ofDyadic 25 (-2) else Fl.ofNat 32

/-- The engineering value with one rounding (R316). -/
def engValue (s : State) (c m : Nat) (code : Int) : Fl :=
  let g := Fl.of32 (s.actN (Reg.ADC_CH_GAIN m))
  let o := Fl.of32 (s.actN (Reg.ADC_CH_OFFSET m))
  Fl.div32 (Fl.add (Fl.mul (Fl.mul (Fl.ofDyadic code (-23)) (s.fs25 c)) g) (Fl.mul (Fl.ofNat 25) o)) (Fl.ofNat 25)

/-- T_out in units of 50 ns, and the output interval of a channel, half of it for an INTERLEAVED pair (R315, R320). -/
def outPeriod (s : State) (c : Nat) : Nat := 2 ^ (s.adcCfg c % 16) * (if s.adcFir c then 2 else 1)
def outInterval (s : State) (c : Nat) : Nat := if s.pairMode c = 1 then s.outPeriod c / 2 else s.outPeriod c

/-- An output of modulator m completes at instant t in ns: at s + k T_out after its restart at s (R317). -/
def outputDue (s : State) (m t : Nat) : Bool :=
  let d := (s.adcCh m).due
  decide (d ≤ t) && (t - d) % (50 * s.outPeriod m) == 0

/-- The modulator's next output after instant t. The windows of an INTERLEAVED pair's second modulator lie T_out / 2 behind those of the first
(R319, log entry 197). -/
def nextOutput (s : State) (m t : Nat) : State := s.setAdcCh m fun k => { k with due := t + 50 * s.outPeriod m }
def firstOutput (s : State) (m t : Nat) : State := s.nextOutput m (if s.pairedOdd m then t + 25 * s.outPeriod m else t)

def adcStatus (s : State) (c : Nat) : Nat := s.fld (Reg.ADC_CH_STAT c) 31 30
def settleLeft (s : State) (c : Nat) : Nat := s.fld (Reg.ADC_CH_STAT c) 22 16
def owOpen (s : State) (c : Nat) : Bool := s.flag (Reg.ADC_CH_STAT c) 27

/-- A settling count starts or is reloaded at instant t in ns (R323, R324): several events at one instant start one count. An INTERLEAVED pair has
one count, that of its channel 2k (R323). -/
def settle (s : State) (c t : Nat) : State :=
  if s.pairedOdd c || (s.adcCh c).settledAt == some t then s
  else
  let s := s.setAdcCh c fun k => { k with settledAt := some t }
  let n := (if s.adcFir c then 33 else 3) * (if s.pairMode c = 1 then 2 else 1)
  ((s.setFld (Reg.ADC_CH_STAT c) 22 16 n).inc (Reg.ADC_CH_CNT_SETTLE c)).adcEvt c 1

/-- ADC_STAT.RUN and the copies of the configuration in force in ADC_CHc_STAT (R337, R338). -/
def adcShow (s : State) (c : Nat) : State :=
  let v := s.adcCfg c
  let s := s.setFlag Reg.ADC_STAT c (bitAt v 31)
  let s := (s.setFlag (Reg.ADC_CH_STAT c) 29 (s.pairedOdd c)).setFlag (Reg.ADC_CH_STAT c) 28 (s.flag Reg.ADC_STAT (16 + c))
  s.setFld (Reg.ADC_CH_STAT c) 9 0 (b2n (bitAt v 16) * 512 + b2n (bitAt v 8) * 256 + v % 16)

/-- The channels that channel c governs. -/
def governed (s : State) (c : Nat) : List Nat := if s.pairMode c = 0 then [c] else if c % 2 = 0 then [c, c + 1] else []

/-- The registers that transfer at an output boundary of channel c: its own, and in modes 1 and 2 GAIN and OFFSET of the channel beside it
(R318-R321). -/
def outputShadows (s : State) (c : Nat) : List Nat :=
  [Reg.ADC_CH_CFG c, Reg.ADC_CH_OW c, Reg.ADC_CH_GAIN c, Reg.ADC_CH_OFFSET c]
    ++ (if c % 2 = 0 then [Reg.ADC_XTOL (c / 2)] else [])
    ++ (if s.pairMode c = 0 then [] else [Reg.ADC_CH_GAIN (c + 1), Reg.ADC_CH_OFFSET (c + 1)])

/-- The settling that a test has left for the next output boundary (R323) starts, or another cause of one; several at one boundary start one
count (R324). -/
def settleAt (s : State) (c t : Nat) (cause : Bool) : State :=
  let due := cause || (s.adcCh c).settleNext
  let s := s.setAdcCh c fun k => { k with settleNext := false }
  if due then s.settle c t else s

/-- The shadows of a channel transfer at its output boundary, instant t in ns. A change restarts both modulators of an INTERLEAVED pair there;
that restart starts no count of its own (R318, R320, R323, R324, log entry 197). -/
def adcTransfer (s : State) (c t : Nat) : State :=
  let regs := s.outputShadows c
  let u := s.transferAll regs
  let key := fun (v : Nat) => (bitAt v 31, fieldOf v 19 18, bitAt v 16, bitAt v 8, v % 16)
  let cfg := Reg.ADC_CH_CFG c
  let ow := Reg.ADC_CH_OW c
  let moved := key (s.actN cfg) != key (u.actN cfg) || s.actN ow % 16 != u.actN ow % 16
  let test := s.actN ow % 4 != u.actN ow % 4
  let restarts := u.pairMode c == 1 && regs.any fun a => s.act a != u.act a
  (u.governed c).foldl (fun s x =>
    let s := if test then (s.setFlag (Reg.ADC_CH_STAT x) 27 false).setAdcCh x fun k => { k with openRun := 0, closedRun := 0 } else s
    let s := if restarts then s.firstOutput x t else if moved then s.nextOutput x t else s
    (s.settleAt x t moved).adcShow x) u

/-- The decimator of a channel restarts at instant t in ns (R317, R323). -/
def adcRestart (s : State) (c t : Nat) : State := ((if s.adcEn c then s.settle c t else s).adcShow c).firstOutput c t

/-- The continuous open-wire judgement of one output (R326). -/
def judgeOpen (s : State) (c : Nat) (code : Int) : State :=
  let ow := s.adcOw c
  if ow % 4 != 1 then s
  else
    let lim : Int := (fieldOf ow 23 16 : Int) * 2 ^ 15
    let beyond := if bitAt ow 3 then decide (code < -lim) else decide (lim < code)
    let n := fieldOf ow 11 8
    let s := s.setAdcCh c fun k => { k with openRun := if beyond then k.openRun + 1 else 0, closedRun := if beyond then 0 else k.closedRun + 1 }
    let k := s.adcCh c
    if n ≤ k.openRun then s.setFlag (Reg.ADC_CH_STAT c) 27 true
    else if n ≤ k.closedRun then s.setFlag (Reg.ADC_CH_STAT c) 27 false
    else s

/-- Cross-check of a pair at a common boundary (R321). -/
def crossCheck (s : State) (c : Nat) : State :=
  let k := c / 2
  let a := s.adcCh (2 * k)
  let b := s.adcCh (2 * k + 1)
  if s.pairMode c != 2 || !a.has || !b.has || a.outTick != b.outTick || a.outOff != b.outOff || a.outTick != s.tickNo
      || s.adcStatus (2 * k) != 0 || s.adcStatus (2 * k + 1) != 0 then s
  else
    let d := Fl.abs (Fl.sub (Fl.of32 (s.getN (Reg.ADC_CH_DATA (2 * k)))) (Fl.of32 (s.getN (Reg.ADC_CH_DATA (2 * k + 1)))))
    let bad := Fl.lt (Fl.of32 (s.actN (Reg.ADC_XTOL k))) d
    let s := if bad then s.setEvt Reg.ADC_EVT k 46 else s
    (s.setFlag Reg.ADC_XCHK_STAT k bad).setCond (0xE0 + k) bad k

/-- Metering at an output of the voltage channel (R334). -/
def meter (s : State) (c : Nat) : State :=
  [0, 1, 2].foldl (fun s p =>
    let cfg := s.actN (Reg.ADC_MTR_CFG p)
    if !bitAt cfg 31 || cfg % 16 != c then s
    else
      let i := fieldOf cfg 11 8
      let upd := fun (s : State) (f : Meter → Meter) => { s with adc := { s.adc with meters := modNth f p s.adc.meters } }
      if s.adcStatus c = 0 ∧ (s.adcCh c).has ∧ s.adcStatus i = 0 ∧ (s.adcCh i).has then
        let v := Fl.of32 (s.getN (Reg.ADC_CH_DATA c))
        let j := Fl.of32 (s.getN (Reg.ADC_CH_DATA i))
        let e := Fl.divExt (Fl.mul (Fl.mul v j) (Fl.ofNat (s.outInterval c))) (Fl.ofNat 20000000)
        if e.isNeg && !e.isZero then upd s fun m => { m with neg := Fl.add m.neg e.abs } else upd s fun m => { m with pos := Fl.add m.pos e }
      else upd s fun m => { m with gap := min (m.gap + 1) 1023 }) s

/-- Time base plus n nanoseconds: seconds and nanoseconds. -/
def timePlus (s : State) (n : Nat) : Nat × Nat := (s.tim.sec + (s.tim.ns + n) / 1000000000, (s.tim.ns + n) % 1000000000)

/-- An output of channel c completes, off nanoseconds into the tick (R316-R328). m is the modulator it came from, on whose segment it
depends. -/
def adcOutput (s : State) (c m : Nat) (code : Int) (overload : Bool) (off : Nat) : State :=
  let up := s.flag Reg.ADC_STAT (16 + m)
  let code := if up then clampInt (-0x800000) 0x7FFFFF code else 0
  let old := s.adcStatus c
  let s := if up then s.judgeOpen c code else s
  let left := s.settleLeft c
  let k := s.adcCh c
  let clipped := code = 0x7FFFFF || code = -0x800000 || overload
  let st := if !up || s.owOpen c then 3 else if k.testing || k.settleNext || 0 < left then 1 else if clipped then 2 else 0
  let v := if up then Fl.to32 (s.engValue c m code) else 0x7FC00000
  let t := s.timePlus off
  let s := (s.setFld (Reg.ADC_CH_STAT c) 31 30 st).putN (Reg.ADC_CH_DATA c) v
  let s := s.putN (Reg.ADC_CH_RAW c) (st * 2 ^ 30 + b2n (m != c) * 2 ^ 29 + unsigned 24 code)
  let s := s.putN (Reg.ADC_CH_SEQ c) (s.getN (Reg.ADC_CH_SEQ c) + 1)
  let s := (s.putN (Reg.ADC_CH_TS_NS c) t.2).putN (Reg.ADC_CH_TS_SEC c) (t.1 % 2 ^ 32)
  let s := if 0 < left then s.setFld (Reg.ADC_CH_STAT c) 22 16 (left - 1) else s
  let s := s.setAdcCh c fun k => { k with has := true, outTick := s.tickNo, outOff := off }
  let s := if st = 2 then (s.inc (Reg.ADC_CH_CNT_CLIP c)).adcEvt c 2 else s
  let s := if st = 3 ∧ old ≠ 3 then (s.inc (Reg.ADC_CH_CNT_OPEN c)).adcEvt c 3 else s
  let s := s.setCond (0xC0 + c) (st == 3) c
  let s := if st = 0 then
      let lo := Fl.of32 (s.getN (Reg.FLT_ADC_LO c))
      let hi := Fl.of32 (s.getN (Reg.FLT_ADC_HI c))
      let x := Fl.of32 v
      s.setCond (0x38 + c) (Fl.lt x lo || Fl.lt hi x) c v
    else s
  ((s.crossCheck c).meter c).evt (0x030 + c)

/-- An output boundary of channel c: the output, then the transfer (R317, R318). At an output of an INTERLEAVED pair's second modulator, m ≠ c,
nothing transfers (R320); at the common boundary of a CROSS-CHECK pair the transfer follows the second output, once both are compared (R321). -/
def adcBoundary (s : State) (c m : Nat) (code : Int) (overload : Bool) (off : Nat) : State :=
  let t := 8 * s.tickNo + off
  let s := if s.adcEn c then s.adcOutput c m code overload off else s
  let s := s.nextOutput m t
  let other := if c % 2 = 0 then c + 1 else c - 1
  if m ≠ c then s.settleAt c t false
  else if s.pairMode c = 2 ∧ (s.adcCh other).due = t then s
  else s.adcTransfer (s.govern c) t

/-- The newest sample of a channel as y and the grid-fault detector take it (R196, R251, R358): none where not VALID. -/
def adcSample (s : State) (c : Nat) : Option Nat :=
  if s.partnerOwns c then
    if s.absent then none
    else match s.ptn.samples.find? (·.1 == c) with
      | some x => if x.2.2 = 0 then some x.2.1 else none
      | none => none
  else if s.paired then
    match s.ptn.samples.find? (·.1 == c) with
    | some x => if x.2.2 = 0 then some x.2.1 else none
    | none => if (s.adcCh c).has && s.adcStatus c == 0 then some (s.getN (Reg.ADC_CH_DATA c)) else none
  else if (s.adcCh c).has && s.adcStatus c == 0 then some (s.getN (Reg.ADC_CH_DATA c)) else none

/-- 1,600 ns before the deadline the owner sends and holds its samples (R251). -/
def sampleSend (s : State) : State :=
  let own := (List.range 16).filter fun c => !s.partnerOwns c
  let st := fun c => if (s.adcCh c).has then s.adcStatus c else 1
  let body := (List.range 16).flatMap fun c =>
    if own.contains c then leBytes 4 (s.getN (Reg.ADC_CH_DATA c)) ++ leBytes 1 c ++ leBytes 1 (st c) ++ [0, 0]
    else leBytes 4 0 ++ leBytes 1 c ++ [0xFF, 0, 0]
  let s := s.sendBoth (s.partnerFrame 0x13 0xFF s.cycle body)
  let mine := own.map fun c => (c, s.getN (Reg.ADC_CH_DATA c), st c)
  s.setPtn fun p => { p with samples := mine ++ p.samples.filter fun x => !own.contains x.1 }

/-- The partner's samples for the coming deadline (R251). -/
def sampleTake (s : State) (body : List Byte) : State :=
  let es := (List.range 16).filterMap fun i =>
    let e := slice body (8 * i) 8
    let c := leAt e 4 1
    if leAt e 5 1 != 0xFF && decide (c < 16) && s.partnerOwns c then some (c, leAt e 0 4, leAt e 5 1) else none
  s.setPtn fun p => { p with samples := es ++ p.samples.filter fun x => !(es.any fun e => e.1 == x.1) }

/-- ADC_RESYNC acts at the first cycle boundary after each write (R317). -/
def resyncBoundary (s : State) : State :=
  let due := s.adc.resync.filter fun r => r.1 != s.tickNo
  if !due.any fun r => r.2 != 0 then s
  else
    let s := { s with adc := { s.adc with resync := s.adc.resync.filter fun r => r.1 == s.tickNo } }
    let chans := (List.range 16).filter fun c => due.any fun r => bitAt r.2 (s.govern c)
    (chans.foldl (fun s c => s.adcRestart c (s.tim.boundUnit / 4)) s).setEvt Reg.ADC_EVT 8 46

/-- Every decimator restarts: boot step 160 ms, and wake (R317). Every segment is taken as up then, so that its ADC_SEG is absent
(R344), and step 160 ms as the handover (log entry 11). -/
def adcStart (s : State) : State :=
  (List.range 16).foldl (fun s c =>
    let s := (s.setFlag Reg.ADC_STAT (16 + c) true).setCond (0xD0 + c) false c
    s.adcRestart c (8 * s.tickNo)) s

/-- STANDBY: no channel converts, and the segments are unpowered (R314). -/
def adcStop (s : State) : State :=
  (List.range 16).foldl (fun s c => s.setFlag (Reg.ADC_CH_STAT c) 28 false) (s.putN Reg.ADC_STAT 0)

/-- A segment is lost or returns: its decimator restarts. Both of an INTERLEAVED pair do, and in a CROSS-CHECK pair its windows stay
coincident with those of the other (R319, R328, log entry 197). -/
def segLoss (s : State) (c : Nat) : State :=
  (((s.setFlag Reg.ADC_STAT (16 + c) false).setFlag (Reg.ADC_CH_STAT c) 28 false).adcEvt c 0).setCond (0xD0 + c) true c
def segReturn (s : State) (c : Nat) : State :=
  let s := ((s.setFlag Reg.ADC_STAT (16 + c) true).setCond (0xD0 + c) false c).adcShow c
  let t := 8 * s.tickNo
  let other := if c % 2 = 0 then c + 1 else c - 1
  match s.pairMode c with
  | 1 => (s.adcRestart c t).adcRestart other t
  | 2 => (s.adcRestart c t).setAdcCh c fun k => { k with due := (s.adcCh other).due }
  | _ => s.adcRestart c t

/-- DATA, RAW, SEQ and time stamp of the newest output in the S_ registers (R338). -/
def chSnap (s : State) (c : Nat) : State :=
  let cp := fun (s : State) (a b : Nat) => s.put b (s.get a)
  cp (cp (cp (cp (cp s (Reg.ADC_CH_DATA c) (Reg.ADC_CH_S_DATA c)) (Reg.ADC_CH_RAW c) (Reg.ADC_CH_S_RAW c)) (Reg.ADC_CH_SEQ c) (Reg.ADC_CH_S_SEQ c))
    (Reg.ADC_CH_TS_NS c) (Reg.ADC_CH_S_NS c)) (Reg.ADC_CH_TS_SEC c) (Reg.ADC_CH_S_SEC c)

def adcCntClr (s : State) : State :=
  (List.range 16).foldl (fun s c => ((s.putN (Reg.ADC_CH_CNT_CLIP c) 0).putN (Reg.ADC_CH_CNT_SETTLE c) 0).putN (Reg.ADC_CH_CNT_OPEN c) 0) s

/-- Accumulators and gaps to their registers (R335). -/
def meterSnap (s : State) : State :=
  let s := [0, 1, 2].foldl (fun s p =>
    let m := s.adc.meters.getD p {}
    let mj := fun (x : Fl) => (Fl.floor (Fl.mul x (Fl.ofNat 1000))).toNat
    let a := mj m.pos
    let b := mj m.neg
    (((s.putN (Reg.ADC_MTR_EPOS_LO p) (a % 2 ^ 32)).putN (Reg.ADC_MTR_EPOS_HI p) (a / 2 ^ 32 % 2 ^ 32)).putN (Reg.ADC_MTR_ENEG_LO p) (b % 2 ^ 32)).putN
      (Reg.ADC_MTR_ENEG_HI p) (b / 2 ^ 32 % 2 ^ 32)) s
  let g := fun p => (s.adc.meters.getD p {}).gap
  s.putN Reg.ADC_MTR_GAP (g 2 * 2 ^ 20 + g 1 * 2 ^ 10 + g 0)

/-- Live accumulators and gap counters become 0 (R335). -/
def meterClear (s : State) : State := { s with adc := { s.adc with meters := [{}, {}, {}] } }

end State
end Sys2Proof.Machine
end

