-- ==== Sys2Proof/Machine/Hk.lean ====
section
/-!
DEFINITION. The housekeeping converter (R329-R333), the thermal levels (R503-R506), rail alarms (R500) and the MRAM write
window (R507).
-/
namespace Sys2Proof.Machine

/-- ln(n / d) in units of 2^-60: k ln 2 plus the series of 2 artanh((m - 1) / (m + 1)). -/
def lnFix (n d : Nat) : Int :=
  let k : Int := (Nat.log2 n : Int) - (Nat.log2 d : Int)
  let a : Int := if 0 ≤ k then n else (n : Int) * 2 ^ (-k).toNat
  let b : Int := if 0 ≤ k then (d : Int) * 2 ^ k.toNat else d
  let one : Int := 2 ^ 60
  let z := (a - b) * one / (a + b)
  let sq := z * z / one
  let r := ([29, 27, 25, 23, 21, 19, 17, 15, 13, 11, 9, 7, 5, 3, 1].foldl (fun (acc : Int) (j : Nat) => one / (j : Int) + sq * acc / one) 0)
  -- ln 2 in units of 2^-60
  k * 799144290325165979 + 2 * z * r / one

/-- A temperature n / d kelvin in 1/16 °C, rounded to nearest. -/
def sixteenths (n d : Int) : Int := (160 * n - 43704 * d + 5 * d) / (10 * d)

/-- The temperature of a thermistor of r ohms (R331), in 1/16 °C. -/
def ntcTemp (r beta : Nat) : Int :=
  let l := lnFix r 10000
  let d : Int := 20 * beta * 2 ^ 60 + 5963 * l
  if d ≤ 0 then 0x7FFF else sixteenths (5963 * beta * 2 ^ 60) d

/-- The temperature of a diode whose forward voltages at currents 16:1 differ by dv nanovolts (R331), in 1/16 °C. -/
def diodeTemp (dv ideal : Nat) : Int := sixteenths (dv * 1160451812 * 65536 * 10 ^ 9) ((65536 + ideal) * 2772588722 * 10 ^ 14)

/-- Alarm band of rail n and 1 % of its nominal value, in mV (R500). -/
def railBand : Nat → Nat × Nat × Nat
  | 0 => (18000, 36000, 240)
  | 1 => (4850, 5150, 50)
  | 2 => (3200, 3400, 33)
  | 3 => (1750, 1850, 18)
  | 4 => (880, 920, 9)
  | 5 => (970, 1030, 10)
  | 6 => (1750, 1850, 18)
  | _ => (18000, 36000, 240)

namespace State

/-! ## Thermal levels, rails, MRAM window -/

/-- The thermal sensor of a housekeeping entry (R330, R359). -/
def sensorOf (kind index : Nat) : Option Nat :=
  match kind with
  | 1 => some index
  | 2 => some (8 + index)
  | 3 => some (10 + index)
  | _ => none

def thermLevel (s : State) (n : Nat) : Nat := s.fld Reg.SYS_THERM_LVL (2 * n + 1) (2 * n)

/-- The fault code of THERM_SHUT for a sensor, if it has one (R345). -/
def shutCode (n : Nat) : Option Nat := if n < 8 then some (0x1B + n) else if n < 10 then none else some (0x23 + (n - 10))

def degrees (t : Int) : Nat := Fl.to32 (Fl.ofDyadic t (-4))

/-- SYS_THERM_STAT shows the levels and latches (R521). -/
def thermStat (s : State) : State :=
  let shut := (List.range 14).any fun i => s.flag (Reg.FLT_LATCH ((0x1B + i) / 32)) ((0x1B + i) % 32)
  (((s.setFlag Reg.SYS_THERM_STAT 29 shut).setFlag Reg.SYS_THERM_STAT 28 (s.condition 0xE9)).setFlag Reg.SYS_THERM_STAT 27 (s.condition 0xE8)).setFlag
    Reg.SYS_THERM_STAT 31 (s.flag (Reg.FLT_LATCH 0) 0x1A)

/-- One result of sensor n is judged (R504). -/
def thermJudge (s : State) (n status : Nat) (t : Int) : State :=
  if status = 1 then s
  else
    let warn := signed 16 (s.fld (Reg.FLT_THW n) 15 0)
    let derate := signed 16 (s.fld (Reg.FLT_THW n) 31 16)
    let shut := signed 16 (s.fld (Reg.FLT_THS n) 15 0)
    let old := s.thermLevel n
    let isOpen := status == 3
    let hot := !isOpen && (shutCode n).isSome && decide (shut ≤ t)
    let lvl := if isOpen then (if old ≤ 1 then 1 else 2)
      else if hot then 3
      else if derate ≤ t ∨ (2 ≤ old ∧ derate - 32 ≤ t) then 2
      else if warn ≤ t ∨ (1 ≤ old ∧ warn - 32 ≤ t) then 1
      else 0
    let s := (s.setFld Reg.SYS_THERM_LVL (2 * n + 1) (2 * n) lvl).setFlag Reg.SYS_THERM_OPEN n isOpen
    let s := if isOpen then s else { s with hk := { s.hk with temps := Assoc.ins s.hk.temps n t } }
    let s := if status = 0 then
        let hi := signed 16 (s.fld (Reg.SYS_TEXT n) 31 16)
        let lo := signed 16 (s.fld (Reg.SYS_TEXT n) 15 0)
        s.putN (Reg.SYS_TEXT n) (unsigned 16 (max hi t) * 65536 + unsigned 16 (min lo t))
      else s
    let s := match shutCode n with
      | some c => s.setCond c hot (if n < 8 then n else n - 10) (degrees t)
      | none => s
    let near := fun (field : Nat → Int) => s.hk.temps.any fun p => decide (field p.1 - 32 ≤ p.2)
    let level := fun (k : Nat) => (List.range 16).any fun m => decide (k ≤ s.thermLevel m)
    let w := level 1 || (s.condition 0xE8 && near fun m => signed 16 (s.fld (Reg.FLT_THW m) 15 0))
    let d := level 2 || (s.condition 0xE9 && near fun m => signed 16 (s.fld (Reg.FLT_THW m) 31 16))
    ((s.setCond 0xE8 w 0xFFFF (degrees t)).setCond 0xE9 d 0xFFFF (degrees t)).thermStat

/-- The MRAM write window as judged (R106, R507). -/
def setWindow (s : State) (isOpen : Bool) : State :=
  let was := s.flag Reg.SYS_THERM_STAT 30
  let s := s.setFlag Reg.SYS_THERM_STAT 30 isOpen
  if isOpen then (if s.windowClosed then s.windowReopen else s)
  else
    let s := if was then s.incFld Reg.SYS_MRAM_STAT 27 16 else s
    s.setFlag Reg.LOG_STAT 0 true

/-- A VALID or CLIPPED result of the MRAM die (R507). -/
def mramResult (s : State) (t : Int) : State :=
  let s := (s.setFld Reg.SYS_THERM_STAT 15 0 (unsigned 16 t)).setFlag Reg.SYS_MRAM_STAT 29 false
  let s := { s with hk := { s.hk with mramTick := s.tickNo } }
  s.setWindow (decide (-640 ≤ t) && decide (t ≤ 1680))

/-- 10 ms without a result of the MRAM die close the window (R507). -/
def mramSilent (s : State) : State := (s.setFlag Reg.SYS_MRAM_STAT 29 true).setWindow false

/-- The die comparator trips (R506, R509): THERM_DIE, and no MRAM write until a power-on reset. A copy step and a run under way are abandoned
and counted. R510 lets an admitted run complete when the window closes and says nothing of this trip: that its COMMIT takes no effect and is
refused with TEMP when its row comes again is the model's choice (log entry 219). -/
def dieTrip (s : State) : State :=
  let s := s.setFld Reg.SYS_MRAM_STAT 15 0 (min (s.fld Reg.SYS_MRAM_STAT 15 0 + b2n s.tru.copying + b2n s.tru.runOn) 0xFFFF)
  let s := ({ s with tru := { s.tru with copying := false, runOn := false } } : State).interruptLog
  (s.setFlag Reg.SYS_MRAM_STAT 28 true).setCond 0x1A true

/-- A result of rail n in units of 2 mV (R500). -/
def railJudge (s : State) (n v : Nat) : State :=
  let mv := 2 * v
  let (lo, hi, m) := railBand n
  let out := decide (mv < lo) || decide (hi < mv)
  let inside := decide (lo + m ≤ mv) && decide (mv + m ≤ hi)
  let p := out || (s.condition (0xEA + n) && !inside)
  (s.setFlag Reg.SYS_RAIL_STAT (8 + n) p).setCond (0xEA + n) p n (Fl.to32 (Fl.div32 (Fl.ofNat mv) (Fl.ofNat 1000)))

/-! ## Entries -/

def hkEntry (s : State) (k : Nat) : Nat × Nat := (s.actFld (Reg.HKP_SEQ k) 7 4, s.actFld (Reg.HKP_SEQ k) 3 0)
def hkRunning (s : State) : Nat := s.fld Reg.HKP_STAT 12 8
def urgRun (s : State) : Bool := s.flag Reg.HKP_STAT 1
def urgPend (s : State) : Bool := s.flag Reg.HKP_STAT 0

/-- KIND and INDEX name a quantity (R330). -/
def kindOk (kind index : Nat) : Bool :=
  match kind with
  | 0 => index == 0
  | 1 => decide (index < 8)
  | 2 => decide (index < 2)
  | 3 => decide (index < 6)
  | 4 => decide (index < 8)
  | 5 => decide (index < 16)
  | 7 => decide (index < 4)
  | _ => false

/-- Channels whose input an open-wire test of channel c acts on, and whether one is due there (R327). -/
def testOn (s : State) (kind c : Nat) : Bool := kind == 5 && s.mode != STANDBY && s.adcOw c % 4 == 2

/-- An entry begins: a test of KIND 0x5 starts its current (R323, R327). -/
def hkBegin (s : State) (kind index : Nat) : State :=
  if s.testOn kind index then (s.governed (s.govern index)).foldl (fun s c => s.setAdcCh c fun k => { k with testing := true }) s else s

/-- A test ends or is cut short: the settling starts at the next output boundary (R323). -/
def hkTestEnd (s : State) (kind index : Nat) : State :=
  if kind == 5 then (s.governed (s.govern index)).foldl (fun s c =>
    if (s.adcCh c).testing then s.setAdcCh c fun k => { k with testing := false, settleNext := true } else s) s
  else s

/-- The result of an entry from what the converter measured (R330, R331): status and 16-bit VALUE. x is the reading in units of
VALUE, the higher forward voltage in mV, or the resistance in ohms; y is the difference of the forward voltages in nV. The last
unit of a computed temperature is free (log entry 12). -/
def hkResult (s : State) (kind index x y : Nat) : State × Nat × Nat :=
  let temp := fun (t : Int) =>
    if t < -960 then ((2, unsigned 16 (-960)) : Nat × Nat) else if 3200 < t then (2, 3200) else (0, unsigned 16 t)
  match kind with
  | 0 => (s, 0, 0)
  | 1 =>
    let cfg := s.actFld Reg.HKP_TCFG (2 * index + 1) (2 * index)
    let (fv, s) := s.free
    let e : Int := (fv.toNat % 3 : Nat) - 1
    if cfg = 0 then (s, 0, 0)
    else if cfg = 1 then
      if 950 < x ∨ x < 200 then (s, 3, 0x8000) else (s, temp (diodeTemp y (s.actFld Reg.HKP_DIODE 15 0) + e))
    else if 2000000 < x ∨ x < 50 then (s, 3, 0x8000) else (s, temp (ntcTemp x (s.actFld Reg.HKP_NTC 15 0) + e))
  | 2 => (s, temp (signed 16 x))
  | 3 => (s, temp (signed 16 x))
  | 5 => (s, 0, if x = 0 then 0 else 1)
  | _ => (s, 0, x % 65536)

/-- What a published result also drives (R327, R330, R504, R507). -/
def hkDrive (s : State) (kind index status value : Nat) : State :=
  let t := signed 16 value
  let s := match sensorOf kind index with
    | some n => if kind = 1 ∧ s.actFld Reg.HKP_TCFG (2 * index + 1) (2 * index) = 0 then s else s.thermJudge n status t
    | none => s
  let s := if kind = 2 ∧ index = 1 ∧ (status = 0 ∨ status = 2) then s.mramResult t else s
  let s := if kind = 3 then s.setFld (Reg.GDR_TEMP index) 15 0 value else s
  let s := if kind = 4 then s.railJudge index value else s
  let s := if s.testOn kind index then
      (s.governed (s.govern index)).foldl (fun s c => s.setFlag (Reg.ADC_CH_STAT c) 27 (value == 1)) s
    else s
  if status = 3 then s.stick Reg.HKP_EVT 2 else s

/-- The transfers at the start of entry 0; a changed entry is SETTLING until it has completed again (R329, R331). -/
def hkTransfer (s : State) : State :=
  let old := fun k => s.hkEntry k
  let cfg0 := s.actN Reg.HKP_TCFG
  let t := s.transferAll (Reg.HKP_TCFG :: Reg.HKP_NTC :: Reg.HKP_DIODE :: (List.range 32).map Reg.HKP_SEQ)
  let cfg1 := t.actN Reg.HKP_TCFG
  (List.range 32).foldl (fun t k =>
    let e := t.hkEntry k
    let sensor := e.1 == 1 && fieldOf cfg0 (2 * e.2 + 1) (2 * e.2) != fieldOf cfg1 (2 * e.2 + 1) (2 * e.2)
    if old k != e || sensor then t.setFld (Reg.HKP_RES k) 31 30 1 else t) t

/-- The sequence goes on with entry k from this tick; it takes the converter at the tick's end. -/
def hkStart (s : State) (k : Nat) (restart : Bool) : State :=
  let s := s.setFld Reg.HKP_STAT 12 8 k
  { s with hk := { s.hk with running := true, start := s.tickNo, restart, fresh := true } }

/-- An entry that began in the tick, no urgent request having come before it, takes the converter; the transfers take place at the start of
entry 0 (R329, R333). -/
def hkTick (s : State) : State :=
  if !s.hk.fresh || s.urgRun then s
  else
    let s := { s with hk := { s.hk with fresh := false } }
    let k := s.hkRunning
    let s := if k = 0 ∧ !s.hk.restart then s.hkTransfer else s
    let e := s.hkEntry k
    s.hkBegin e.1 e.2

/-- An entry that begins at hk.start has run its 64 µs (R329, R332). -/
def hkElapsed (s : State) : Bool := decide (s.hk.start + 8000 ≤ s.tickNo)

/-- The result of an entry from its five outputs: the first three are discarded, the fourth and fifth averaged; where their sum is odd the
average's last unit is free (log entry 198). The verdict of an open-wire test is that at its end (R327, R329). -/
def hkAverage (s : State) (kind : Nat) (outs : List Nat) : State × Nat :=
  let a := outs.getD 3 0
  let b := outs.getD 4 0
  if kind = 5 then (s, b)
  else
    let sum : Int := if kind = 2 ∨ kind = 3 then signed 16 a + signed 16 b else (a + b : Nat)
    let (up, s) := if sum % 2 = 0 then (0, s) else (let (f, s) := s.free; (b2n (f.getLsbD 0), s))
    let r := sum / 2 + (up : Int)
    (s, if kind = 2 ∨ kind = 3 then unsigned 16 r else r.toNat)

/-- The urgent request takes the converter from unit tick `from'` on. -/
def urgStart (s : State) (from' : Nat) (resumeRestart : Bool) : State :=
  let s := (s.setFlag Reg.HKP_STAT 1 true).setFlag Reg.HKP_STAT 0 false
  let s := { s with hk := { s.hk with resumeRestart, start := from' } }
  match s.hk.urgent with
  | some (k, i) => s.hkBegin k i
  | none => s

/-- The entry that runs has ended with its five outputs (R329). -/
def hkEntryDone (s : State) (xs ys : List Nat) : State :=
  let k := s.hkRunning
  let (kind, index) := s.hkEntry k
  let s := s.hkTestEnd kind index
  let round := s.fld Reg.HKP_STAT 23 16
  let s := if kind = 5 ∧ s.mode = STANDBY then s.setFld (Reg.HKP_RES k) 31 30 1
    else
      let (s, x) := s.hkAverage kind xs
      let (s, y) := s.hkAverage 0 ys
      let (s, st, v) := s.hkResult kind index x y
      (s.putN (Reg.HKP_RES k) (st * 2 ^ 30 + round * 2 ^ 16 + v)).hkDrive kind index st v
  let s := s.evt 0x070
  let last := k == 31
  let s := if last then ((s.setFld Reg.HKP_STAT 31 16 (s.fld Reg.HKP_STAT 31 16 + 1)).stick Reg.HKP_EVT 0).irq 44 else s
  let s := s.hkStart ((k + 1) % 32) false
  if s.urgPend then s.urgStart s.tickNo false else s

/-- The urgent entry has ended (R332, R339). In STANDBY no test runs, and the result keeps its value with status SETTLING (R333). -/
def hkUrgentDone (s : State) (xs ys : List Nat) : State :=
  let (kind, index) := s.hk.urgent.getD (0, 0)
  let s := s.hkTestEnd kind index
  let s := if kind = 5 ∧ s.mode = STANDBY then (s.setFld Reg.HKP_URG_RES 31 30 1).setFlag Reg.HKP_URG_RES 29 true
    else
      let (s, x) := s.hkAverage kind xs
      let (s, y) := s.hkAverage 0 ys
      let (s, st, v) := s.hkResult kind index x y
      (s.putN Reg.HKP_URG_RES (st * 2 ^ 30 + 2 ^ 29 + s.fld Reg.HKP_STAT 23 16 * 2 ^ 16 + v)).hkDrive kind index st v
  let s := (s.irq 45).setFlag Reg.HKP_STAT 1 false
  let s := { s with hk := { s.hk with urgent := none } }
  s.hkStart s.hkRunning s.hk.resumeRestart

/-- HKP_URG (R332, R333) for a KIND and INDEX that R330 lists. -/
def hkUrgent (s : State) (kind index : Nat) : State :=
  if s.hk.urgent.isSome then (s.stick Reg.HKP_EVT 3).incFld Reg.HKP_CNT 15 0
  else
    let s := { s with hk := { s.hk with urgent := some (kind, index) } }
    let s := s.setFlag Reg.HKP_URG_RES 29 false
    if !s.hk.running || s.hkElapsed then s.setFlag Reg.HKP_STAT 0 true
    else if s.hk.fresh then s.urgStart (s.tickNo + 1) s.hk.restart
    else if s.hk.restart then s.setFlag Reg.HKP_STAT 0 true
    else
      let e := s.hkEntry s.hkRunning
      let s := s.hkTestEnd e.1 e.2
      ((s.incFld Reg.HKP_CNT 31 16).stick Reg.HKP_EVT 1).urgStart (s.tickNo + 1) true

/-- SYS_MRAM_CLR and SYS_TEXT_CLR (R521). -/
def mramClr (s : State) : State := (s.setFld Reg.SYS_MRAM_STAT 27 16 0).setFld Reg.SYS_MRAM_STAT 15 0 0
def textClr (s : State) : State := (List.range 16).foldl (fun s n => s.putN (Reg.SYS_TEXT n) 0x80007FFF) s

end State
end Sys2Proof.Machine
end

