-- ==== Sys2Proof/Machine/Island.lean ====
section
/-!
DEFINITION. The safety island (chapter 13): two channels, demands and restart, readback and tests, safe data, parameter set,
summary lines and mirror.
-/
namespace Sys2Proof.Machine

/-- Class of a readback voltage against the supply, both in 10 mV units (R371): 0 LOW, 1 MID, 2 HIGH, 3 OTHER. -/
def rbClass (supply v : Nat) : Nat :=
  if v ≤ 400 then 0 else if supply ≤ v + 400 then 2 else if 800 ≤ v ∧ v + 800 ≤ supply then 1 else 3

namespace Island

def get (i : Island) (a : Nat) : Nat := (Assoc.get (resetOf a) i.live a).toNat
def put (i : Island) (a n : Nat) : Island := { i with live := Assoc.set (resetOf a) i.live a (BitVec.ofNat 32 n) }
def fld (i : Island) (a hi lo : Nat) : Nat := fieldOf (i.get a) hi lo
def setFld (i : Island) (a hi lo n : Nat) : Island := i.put a (putField (i.get a) hi lo n)
def flag (i : Island) (a b : Nat) : Bool := bitAt (i.get a) b
def setFlag (i : Island) (a b : Nat) (v : Bool) : Island := i.setFld a b b (b2n v)
def incFld (i : Island) (a hi lo : Nat) : Island := i.setFld a hi lo (satInc (i.fld a hi lo) (2 ^ (hi + 1 - lo) - 1))

/-- Island milliseconds since the island's start. -/
def time (i : Island) : Nat := i.get Reg.SAF_TIME
def state (i : Island) (x : Nat) : Nat := i.states.getD x 0

/-- Milliseconds of the island since SAF_TIME was t. -/
def since (i : Island) (t : Nat) : Nat := (i.time + 2 ^ 32 - t) % 2 ^ 32

/-- n ticks have passed since tick t by the island's oscillator, which R365 holds within 5 % (log entry 199). -/
def passed (i : Island) (t n : Nat) : Bool := decide (95 * n ≤ 100 * (i.now - t))

/-- Field of the held parameter set (R378); 0 where none is held. -/
def param (i : Island) (off len : Nat) : Nat := match i.held with | some b => leAt b off len | none => 0
def testW (i : Island) : Nat := i.param 6 2
def autoMask (i : Island) : Nat := i.param 10 1 % 8
def tripMap (i : Island) : Nat := i.param 11 1 % 8
def oneCopy (i : Island) : Bool := bitAt (i.param 12 1) 0

/-- The set is confirmed (R379). -/
def confirmed (i : Island) : Bool := i.held.isSome && i.lastSeq.isSome && i.get Reg.SAF_SPS_REM == i.param 0x3C 4

/-- The enable of the gate drivers: both elements of G on (R362). -/
def gen (i : Island) : Bool := bitAt i.pOn 2 && bitAt i.hOn 2

/-- Mask arithmetic over three outputs. -/
def without (m k : Nat) : Nat := maskOf 8 fun b => bitAt m b && !bitAt k b
def union (m k : Nat) : Nat := maskOf 8 fun b => bitAt m b || bitAt k b

def union8192 (m k : Nat) : Nat := maskOf 13 fun b => bitAt m b || bitAt k b

/-- The last test of a switch (R386). -/
def setSw (i : Island) (k result kind hs ls t : Nat) : Island :=
  i.put (Reg.SAF_SW k) (result * 2 ^ 30 + kind * 2 ^ 28 + hs * 2 ^ 26 + ls * 2 ^ 24 + t % 2 ^ 24)

/-- A running test or check of output x is superseded by a demand (R370, R373). -/
def supersede (i : Island) (x : Nat) : Island :=
  let i := match i.pulse with
    | some (k, t) =>
      if k / 2 = x then
        let i := (i.setSw k 3 0 0 0 t).incFld Reg.SAF_TEST_CNT 31 16
        { i.setFlag Reg.SAF_TEST (20 + k) true with pulse := none }
      else i
    | none => i
  match i.steps.getD x none with
  | some (n, t) =>
    let i := if x < 2 then i.setSw (2 * x + (if n = 0 then 0 else 1)) 3 1 0 0 t else i
    { i.incFld Reg.SAF_TEST_CNT 31 16 with steps := modNth (fun _ => none) x i.steps }
  | none => i

/-- Output x is off and latched off (R369). -/
def latchOff (i : Island) (x : Nat) : Island :=
  let i := i.supersede x
  let i := { i with states := modNth (fun _ => 0) x i.states, pulses := i.pulses.filter fun k => k / 2 != x }
  i.setFlag Reg.SAF_LATCH x true

def latchAll (i : Island) (mask : Nat) : Island := (bitsOf 3 mask).foldl latchOff i

/-- The history of demands and their count (R386). peel says which channel found the demand. -/
def noteDemand (i : Island) (mask extra : Nat) (peel : Bool) : Island :=
  let i := (List.range 7).foldr (fun k i => (i.put (Reg.SAF_HIST_C (k + 1)) (i.get (Reg.SAF_HIST_C k))).put (Reg.SAF_HIST_T (k + 1)) (i.get (Reg.SAF_HIST_T k))) i
  let i := (i.put (Reg.SAF_HIST_C 0) (mask * 65536 + union8192 (i.get Reg.SAF_DEMAND) extra)).put (Reg.SAF_HIST_T 0) i.time
  if peel then i.incFld Reg.SAF_DEM_CNT 31 16 else i.incFld Reg.SAF_DEM_CNT 15 0

/-- The Peel path turns its elements off and latches (R364). -/
def peelOff (i : Island) (mask : Nat) : Island :=
  let i := { i with peel := union i.peel mask, hOn := without i.hOn mask }
  i.latchAll mask

/-- Outputs on which the demand bits of SAF_DEMAND act (R368). -/
def actsOn (i : Island) (d : Nat) : Nat :=
  if bitAt d 0 || bitAt d 4 || fieldOf d 12 9 != 0 then 7
  else union (union (fieldOf d 3 1) (fieldOf d 8 6)) (if bitAt d 5 then i.tripMap else 0)

/-- Channel P acts on the demands present (R368): elements off, P_DEM lines for all but SI, Peel latches through them. An output that the
Peel path has latched off is OFF in both channels (R363, R368). -/
def pAct (i : Island) : Island :=
  let d := i.get Reg.SAF_DEMAND
  let mask := i.actsOn d
  let dem := i.actsOn (d / 2 * 2)
  let i := { i with pOn := without i.pOn mask, pDem := dem, sdLatch := union i.sdLatch (fieldOf d 3 1) }
  let i := i.latchAll mask
  let i := { i with pOn := without i.pOn (maskOf 3 fun x => i.state x == 0) }
  i.peelOff dem

/-- A demand of channel P that was not among those before is counted and enters the history (R386). -/
def noteNew (i : Island) (old : Nat) : Island :=
  let d := i.get Reg.SAF_DEMAND
  if (bitsOf 13 d).any fun b => !bitAt old b then i.noteDemand (i.actsOn d) 0 false else i

/-- The latched failures appear among the demands (R368). -/
def latchDemands (i : Island) : Island :=
  let l := i.get Reg.SAF_LATCH
  let i := (i.setFlag Reg.SAF_DEMAND 4 (bitAt l 8)).setFld Reg.SAF_DEMAND 8 6 (fieldOf l 11 9)
  ((i.setFlag Reg.SAF_DEMAND 9 (fieldOf l 7 4 != 0)).setFlag Reg.SAF_DEMAND 10 (bitAt l 12)).setFlag Reg.SAF_DEMAND 11 (bitAt l 13)

/-- A failure is latched in SAF_LATCH and acts as a demand at once (R365, R368, R371, R372). -/
def failLatch (i : Island) (bit : Nat) : Island := ((i.setFlag Reg.SAF_LATCH bit true).latchDemands).pAct

/-- An action of channel P outside its cycle, with the demand that it may leave. -/
def noted (i : Island) (f : Island → Island) : Island := (f i).noteNew (i.get Reg.SAF_DEMAND)

/-- A port is declared down or has SD_EN = 0 (R376, R458). -/
def portsDown (i : Island) : Nat := union i.down i.sdOff

/-- P_FAIL and PEEL_FAIL also stop the heartbeat (R365). -/
def channelFail (i : Island) (bit : Nat) : Island := { i.failLatch bit with heartbeat := false }

/-- Safe data fails (R376). -/
def sdFail (i : Island) : Island :=
  { i.failLatch 8 with lastSeq := none, second := [], goodRun := 0 }

/-- The registers that only show internal state (R386). -/
def view (i : Island) : Island :=
  let i := ((i.setFld Reg.SAF_STAT 2 0 (i.state 0)).setFld Reg.SAF_STAT 6 4 (i.state 1)).setFld Reg.SAF_STAT 10 8 (i.state 2)
  let i := ((i.setFlag Reg.SAF_STAT 30 i.confirmed).setFlag Reg.SAF_STAT 29 i.wait.isSome)
  let i := (i.setFlag Reg.SAF_STAT 25 (i.flag Reg.SAF_LATCH 12)).setFlag Reg.SAF_STAT 24 (i.flag Reg.SAF_LATCH 13)
  let on := fun k => bitAt (if k % 2 = 0 then i.pOn else i.hOn) (k / 2) && (i.pulse.map (·.1)) != some k
  let i := i.setFld Reg.SAF_OUT 3 0 (maskOf 4 on)
  let i := (i.setFlag Reg.SAF_OUT 4 (bitAt i.pOn 2)).setFlag Reg.SAF_OUT 5 (bitAt i.hOn 2)
  let i := (i.setFlag Reg.SAF_OUT 18 (decide (2 ≤ i.state 0))).setFlag Reg.SAF_OUT 19 (decide (2 ≤ i.state 1))
  let req := match i.pulse with | some (k, _) => k % 2 == 1 | none => false
  let i := ((i.setFld Reg.SAF_PEEL 2 0 i.peel).setFlag Reg.SAF_PEEL 3 (i.heartbeat && !i.beatLost)).setFlag Reg.SAF_PEEL 4 req
  let i := ((i.setFlag Reg.SAF_SD_STAT 0 (!bitAt i.portsDown 0 && i.held.isSome)).setFlag Reg.SAF_SD_STAT 1 (!bitAt i.portsDown 1 && i.held.isSome)).setFlag Reg.SAF_SD_STAT 2 i.oneCopy
  (i.setFlag Reg.SAF_SD_STAT 3 (i.lastSeq.isSome && !i.flag Reg.SAF_LATCH 8)).setFld Reg.SAF_IN 7 0 i.terms

/-! ## Parameter set (R378, R379) -/

/-- Every field of a set lies in range and its CRC matches. -/
def setOk (b : List Byte) : Bool :=
  b.length == 64 && leAt b 0 2 == 1
  && decide (5 ≤ leAt b 4 2) && decide (leAt b 4 2 ≤ 100) && decide (10 ≤ leAt b 6 2) && decide (leAt b 6 2 ≤ 50)
  && decide (1 ≤ leAt b 8 2) && decide (leAt b 8 2 ≤ 50) && decide (leAt b 10 1 < 8) && decide (leAt b 11 1 < 8)
  && decide (leAt b 12 1 < 2) && allZero (slice b 13 3) && leAt b 16 4 != 0 && allZero (slice b 20 40)
  && crc32c (b.take 60) == leAt b 60 4

/-- The set is adopted: no last accepted SEQ is held any more (R375, R379). -/
def adopt (i : Island) (b : List Byte) : Island :=
  let i := { i with held := some b, wait := none, lastSeq := none, second := [], down := 0 }
  let i := i.put Reg.SAF_SPS_ID (leAt b 60 4)
  (List.range 16).foldl (fun i k => i.put (Reg.SAF_SPS k) (leAt b (4 * k) 4)) i

def allOff (i : Island) : Bool := i.states.all (· == 0)

/-- The Starter hands the set over (R378). -/
def deliver (i : Island) (b : List Byte) : Island :=
  if !i.up then i
  else if !setOk b then i.setFlag Reg.SAF_STAT 28 true
  else
    let i := i.setFlag Reg.SAF_STAT 28 false
    if i.allOff then i.adopt b else { i with wait := some b }

/-! ## Safe data (R374-R377) -/

/-- A copy is valid (R375). -/
def copyValid (i : Island) (b : List Byte) : Bool :=
  i.held.isSome && b.length == 32 && crc32c (b.take 28) == leAt b 28 4 && leAt b 0 4 == i.param 16 4
  && !bitAt (leAt b 8 1) 3 && !bitAt (leAt b 8 1) 7 && allZero (slice b 9 3) && allZero (slice b 16 12)

/-- Port p is declared down (R376); both down is a failure. -/
def portDown (i : Island) (p : Nat) : Island :=
  let i := { i with down := union i.down (2 ^ p), downRun := 0 }
  if i.portsDown = 3 then i.sdFail else i

/-- A SEQ met R375 with no case of R376, as both ports down is one: SD_FAIL clears after three. -/
def goodSeq (i : Island) : Island :=
  let i := { i with goodRun := if i.portsDown = 3 then 0 else i.goodRun + 1 }
  if 3 ≤ i.goodRun ∧ i.flag Reg.SAF_LATCH 8 then (i.setFlag Reg.SAF_LATCH 8 false).setFlag Reg.SAF_DEMAND 4 false else i

/-- RST edges that act (R375, R369, R373): a request for an output that is not OFF is discarded. -/
def request (i : Island) (edges : Nat) : Island :=
  let i := if (bitsOf 3 edges).any fun x => i.state x != 0 then i.setFlag Reg.SAF_LATCH 3 true else i
  { i with rst := union i.rst (maskOf 3 fun x => bitAt edges x && i.state x == 0) }

/-- The copies of one SEQ have arrived identical on both ports while one is declared down: after three it is in use again (R376). -/
def portReturn (i : Island) : Island :=
  let n := i.downRun + 1
  if 3 ≤ n then { i with down := 0, downRun := 0 } else { i with downRun := n }

/-- Both copies of an accepted SEQ have come: x is the one that came first (R375, R376). The RST edges of x act, where they have not acted already. -/
def compare (i : Island) (x : Nat × Nat × List Byte × Nat × Nat) (b : List Byte) : Island :=
  let i := { i with second := i.second.filter fun y => y.1 != x.1 }
  if x.2.2.1 != b then (i.setFld Reg.SAF_SD_CNT_DIFF 31 0 (satInc (i.get Reg.SAF_SD_CNT_DIFF) 0xFFFFFFFF)).sdFail
  else if i.oneCopy && i.down != 0 then i.portReturn
  else (i.request x.2.2.2.1).goodSeq

/-- One received copy (R375, R376). A port declared down is not in use: its copy only waits for that of the other port. -/
def copy (i : Island) (p : Nat) (b : List Byte) : Island :=
  let cnt := fun (i : Island) (a : Nat) => i.incFld a (16 * p + 15) (16 * p)
  if !i.copyValid b then
    let i := cnt i Reg.SAF_SD_CNT_CRC
    let i := { i with badAt := (p, i.time) :: i.badAt.filter fun x => decide ((i.time + 2 ^ 32 - x.2) % 2 ^ 32 < 1000) }
    if (i.badAt.filter fun x => x.1 == p).length ≤ 4 then i
    else if i.oneCopy then i.portDown p else i.sdFail
  else
    let seq := leAt b 4 4
    let rxr := if p = 0 then Reg.SAF_SD_RX0 else Reg.SAF_SD_RX1
    let i := (i.put rxr (i.get rxr + 1)).put (if p = 0 then Reg.SAF_SD_SEQ0 else Reg.SAF_SD_SEQ1) seq
    let fresh := match i.lastSeq with
      | none => true
      | some l => let d := (seq + 2 ^ 32 - l) % 2 ^ 32; decide (1 ≤ d) && decide (d ≤ 1000)
    let held := i.second.find? fun x => x.1 == seq && x.2.1 != p
    let alone := i.oneCopy && bitAt i.portsDown (1 - p) && !bitAt i.portsDown p
    if fresh && i.oneCopy && bitAt i.down p && !bitAt i.portsDown (1 - p) then
      if i.second.any fun x => x.1 == seq then i else { i with second := (seq, p, b, 0, i.time) :: i.second }
    else if fresh then
      let cmd := leAt b 8 1
      let edges := if i.lastSeq.isNone then 0 else without (fieldOf cmd 6 4) (fieldOf i.cmd 6 4)
      let i := { i with lastSeq := some seq, cmd, accepted := true }
      let i := ((i.put Reg.SAF_SD_CMD cmd).put Reg.SAF_SPS_REM (leAt b 12 4)).setFld Reg.SAF_SD_STAT 15 8 0
      let i := i.setFld Reg.SAF_DEMAND 3 1 (cmd % 8)
      let i := if alone then (i.request edges).goodSeq else i
      match held with
      | some x => i.compare x b
      | none => { i with second := (seq, p, b, if alone then 0 else edges, i.time) :: i.second }
    else
      match held with
      | some x => i.compare x b
      | none => i

/-- The second copy of the oldest accepted SEQ has not come for 20 ms (R376). -/
def secondTimeout (i : Island) : Island :=
  match i.second.getLast? with
  | none => i
  | some x =>
    let p := 1 - x.2.1
    let i := { i with second := i.second.dropLast }
    if bitAt i.portsDown p || bitAt i.down x.2.1 then { i with downRun := 0 }
    else
      let i := { i.incFld Reg.SAF_SD_CNT_LATE (16 * p + 15) (16 * p) with goodRun := 0 }
      if i.oneCopy then i.portDown p else i.sdFail

/-- The status SPDU (R377). -/
def statusSpdu (i : Island) : Island :=
  let st := i.get Reg.SAF_STAT % 4096 + i.get Reg.SAF_LATCH % 16384 * 16384
  let b := leBytes 4 (i.param 16 4) ++ leBytes 4 i.seqOut ++ leBytes 4 (i.lastSeq.getD 0) ++ leBytes 4 st ++ leBytes 1 i.terms ++ [0, 0, 0]
    ++ leBytes 4 (i.param 0x3C 4) ++ [0, 0, 0, 0]
  { i with status := b ++ leBytes 4 (crc32c b), seqOut := (i.seqOut + 1) % 2 ^ 32, accepted := false }

/-! ## Restart and readback (R369-R371) -/

/-- A restart of output x begins, or its request, an RST edge or the set's AUTO bit, is discarded (R369). -/
def restart (i : Island) (x : Nat) : Island :=
  let l := i.get Reg.SAF_LATCH
  let clear := !bitAt (i.actsOn (i.get Reg.SAF_DEMAND)) x && fieldOf l 7 4 == 0 && !bitAt l 12 && !bitAt l 13 && !bitAt l (9 + x) && i.confirmed
  if i.state x != 0 then i
  else if clear then
    let i := { i with states := modNth (fun _ => 1) x i.states, steps := modNth (fun _ => some (0, i.time)) x i.steps,
                        stepTick := modNth (fun _ => i.now) x i.stepTick, pOn := union i.pOn (2 ^ x) }
    i.setFlag Reg.SAF_LATCH 3 false
  else i.setFlag Reg.SAF_LATCH 3 true

/-- The running step of the check of output x has lasted: TEST_W and TEST_W + 1 ms from the start, and the last one to 20 µs before its end,
where it is judged (R370). TEST_W counts 10 µs, 1,250 ticks. -/
def stepOver (i : Island) (x : Nat) : Bool :=
  match i.steps.getD x none with
  | none => false
  | some (n, _) =>
    let w := 1250 * i.testW
    i.passed (i.stepTick.getD x 0) (if n = 0 then w else if n = 1 then w + 125000 else 2 * w + 125000 - 2500)

/-- The dark pulse has lasted to 20 µs before its end, where it is judged (R372). -/
def pulseOver (i : Island) : Bool := i.pulse.isSome && i.passed i.pulseTick (1250 * i.testW - 2500)

/-- TEST_REQ has been held for more than 600 µs: a low-side pulse runs (R364, R372). -/
def testReqLong (i : Island) : Bool :=
  (match i.pulse with | some (k, _) => k % 2 == 1 | none => false) && i.passed i.pulseTick 75000

/-- The heartbeat has not toggled for 2 ms: channel P has stopped it, or runs no cycle (R364, R365). -/
def heartbeatLost (i : Island) : Bool := i.passed i.beat 250000

/-- The terminals of input n have differed longer than DISC_T, in 10 ms units, of the held set (R367, R378). -/
def discDue (i : Island) (n : Nat) : Bool :=
  i.held.isSome && !i.flag Reg.SAF_LATCH (4 + n)
    && match i.discSince.getD n none with | some t => decide (10 * i.param 8 2 < i.since t) | none => false

/-- A step of the pre-energise check of output x ends with this readback (R370). -/
def checkStep (i : Island) (x vhs vls : Nat) (genRb : Bool) : Island :=
  let sup := i.get Reg.SAF_VSUP
  let hs := rbClass sup vhs
  let ls := rbClass sup vls
  match i.steps.getD x none with
  | none => i
  | some (n, t) =>
    let goTo := fun (i : Island) (v : Option (Nat × Nat)) => { i with steps := modNth (fun _ => v) x i.steps }
    let sw := fun (i : Island) (ok : Bool) => if x < 2 then i.setSw (2 * x + (if n = 0 then 0 else 1)) (if ok then 1 else 2) 1 hs ls t else i
    if n = 1 then
      let rel := i.peelTerms == 255 && i.heartbeat && !bitAt i.pDem x
      let i := if rel then { i with peel := without i.peel (2 ^ x), siLatch := without i.siLatch (2 ^ x), sdLatch := without i.sdLatch (2 ^ x), hOn := union i.hOn (2 ^ x) } else i
      goTo i (some (2, t))
    else
      let ok := if x = 2 then !genRb else if n = 0 then hs == 2 && ls == 2 else hs == 0 && ls == 0
      let i := sw i ok
      if !ok then
        let i := goTo i none
        ({ i with pOn := without i.pOn (2 ^ x), hOn := without i.hOn (2 ^ x), states := modNth (fun _ => 0) x i.states }).failLatch (9 + x)
      else if n = 0 then goTo { i with pOn := without i.pOn (2 ^ x) } (some (1, t))
      else
        let i := goTo { i with pOn := union i.pOn (2 ^ x), states := modNth (fun _ => 2) x i.states, differ := modNth (fun _ => 0) x i.differ } none
        let i := i.setFlag Reg.SAF_LATCH x false
        if x = 2 then { i.setFld Reg.SAF_DIAG 31 16 0 with gMs := 0 } else i

/-- The readback of a 1 ms cycle (R371): classes, open load, failure after two cycles. It is judged against the states with which the cycle began, as
a failure latches beside a demand of the cycle (R373). -/
def readback (i : Island) (states : List Nat) (x vhs vls : Nat) (genRb : Bool) : Island :=
  let state := states.getD x 0
  let sup := i.get Reg.SAF_VSUP
  let hs := rbClass sup vhs
  let ls := rbClass sup vls
  let i := if x = 2 then i.setFlag Reg.SAF_OUT 6 genRb
    else
      let i := (i.setFld Reg.SAF_OUT (4 * x + 9) (4 * x + 8) hs).setFld Reg.SAF_OUT (4 * x + 11) (4 * x + 10) ls
      i.setFlag Reg.SAF_OUT (16 + x) (state == 0 && hs == 0 && ls == 2)
  let ok := match state with
    | 0 => if x = 2 then !genRb else (hs == 1 && ls == 1) || (hs == 0 && ls == 2)
    | 2 => if x = 2 then genRb else hs == 2 && ls == 0
    | _ => x != 2 || !genRb
  let n := if ok then 0 else i.differ.getD x 0 + 1
  let i := { i with differ := modNth (fun _ => if n = 2 then 0 else n) x i.differ }
  if n = 2 then i.failLatch (9 + x) else i

/-! ## Dark tests (R372) -/

/-- A dark pulse starts if its output is still ON. -/
def pulseStart (i : Island) : Island :=
  match i.pulses with
  | [] => i
  | k :: ks =>
    let i := { i with pulses := ks, nextPulse := i.time + 5 }
    if i.state (k / 2) = 2 then
      { i.setFlag Reg.SAF_TEST (16 + k) true with pulse := some (k, i.time), pulseTick := i.now, states := modNth (fun _ => 3) (k / 2) i.states }
    else i

/-- The test instant (R372). -/
def testInstant (i : Island) : Island :=
  let ks := [0, 1, 2, 3].filter fun k => i.state (k / 2) == 2
  let i := i.setFld Reg.SAF_TEST 27 16 0
  let i := i.setFld Reg.SAF_TEST 15 0 (i.param 4 2 * 100)
  { i with pulses := ks, instant := true }.pulseStart

/-- The next pulse of the instant starts 5 ms after the one before. -/
def pulseNext (i : Island) : Island :=
  if i.pulse.isNone && decide (i.nextPulse ≤ i.time) then i.pulseStart else i

/-- When nothing of the instant is left it counts as completed. -/
def instantEnd (i : Island) : Island :=
  if i.instant && i.pulse.isNone && i.pulses.isEmpty then { i.incFld Reg.SAF_TEST_CNT 15 0 with instant := false } else i

/-- The running dark pulse is judged and ends (R372). -/
def pulseEnd (i : Island) (vhs vls : Nat) : Island :=
  let sup := i.get Reg.SAF_VSUP
  let hs := rbClass sup vhs
  let ls := rbClass sup vls
  match i.pulse with
  | none => i
  | some (k, t) =>
    let ok := if k % 2 = 0 then hs == 0 else ls == 2
    let i := i.setSw k (if ok then 1 else 2) 0 hs ls t
    let i := { i with pulse := none, states := modNth (fun _ => 2) (k / 2) i.states }
    let i := if ok then i else (i.setFlag Reg.SAF_TEST (24 + k) true).failLatch (9 + k / 2)
    i.instantEnd

/-! ## The cycle of channel P (R365) -/

/-- What channel P measures in a cycle. -/
structure Reading where
  /-- Terminal levels, bit 2n SIn.1 and bit 2n + 1 SIn.2; terminals with a low that the filter has passed. -/
  terms : Nat
  lows : Nat
  vhsA : Nat
  vlsA : Nat
  vhsB : Nat
  vlsB : Nat
  iload : Nat
  vsup : Nat
  genRb : Bool
  /-- The diagnostic that failed; 0 none. -/
  diag : Nat
  /-- The fault manager's TRIP summary line is energised (R382); ports with SD_EN = 0 (R458). -/
  noTrip : Bool
  sdOff : Nat

/-- DISC clears after both terminals of its input have been low together and then high together (R367). -/
def discClear (i : Island) (terms : Nat) : Island :=
  (List.range 4).foldl (fun i n =>
    let t := fieldOf terms (2 * n + 1) (2 * n)
    if !i.flag Reg.SAF_LATCH (4 + n) then { i with discLow := without i.discLow (2 ^ n) }
    else if t = 0 then { i with discLow := union i.discLow (2 ^ n) }
    else if t = 3 ∧ bitAt i.discLow n then { i.setFlag Reg.SAF_LATCH (4 + n) false with discLow := without i.discLow (2 ^ n) }
    else i) i

/-- One 1 ms cycle of channel P. -/
def pCycle (i : Island) (r : Reading) : Island :=
  let old := i.get Reg.SAF_DEMAND
  let states := i.states
  let i := { (i.put Reg.SAF_TIME (i.time + 1)).setFld Reg.SAF_DIAG 7 0 (i.fld Reg.SAF_DIAG 7 0 + 1) with terms := r.terms % 256, peelTerms := r.terms % 256, rst := 0, sdOff := r.sdOff }
  let differ := fun n => fieldOf r.terms (2 * n + 1) (2 * n) == 1 || fieldOf r.terms (2 * n + 1) (2 * n) == 2
  let i := { i with beat := if i.heartbeat then i.now else i.beat, beatLost := i.beatLost && !i.heartbeat,
                    discSince := (List.range 4).map fun n => if differ n then some ((i.discSince.getD n none).getD i.time) else none }
  let i := { i with gMs := i.gMs + 1 }
  let i := i.setFld Reg.SAF_DIAG 31 16 (min (i.gMs / 3600000) 0xFFFF)
  let i := i.setFld Reg.SAF_SD_STAT 15 8 (satInc (i.fld Reg.SAF_SD_STAT 15 8) 0xFF)
  let i := i.setFld Reg.SAF_TEST 15 0 (i.fld Reg.SAF_TEST 15 0 - 1)
  let i := (((i.put Reg.SAF_RDBK_A (r.vlsA * 65536 + r.vhsA)).put Reg.SAF_RDBK_B (r.vlsB * 65536 + r.vhsB)).put Reg.SAF_ILOAD r.iload).put Reg.SAF_VSUP (r.vsup % 65536)
  let i := i.setFlag Reg.SAF_IN 8 r.noTrip
  let low := r.lows % 256 != 0
  let i := ((i.discClear r.terms).setFlag Reg.SAF_DEMAND 0 low).setFlag Reg.SAF_DEMAND 12 (decide (r.vsup % 65536 < 1600))
  let i := if i.prevLow && i.peel != 7 && !i.flag Reg.SAF_LATCH 13 then i.channelFail 13 else i
  let i := { i with prevLow := low }
  let i := if r.diag ≠ 0 ∧ !i.flag Reg.SAF_LATCH 12 then (i.setFld Reg.SAF_DIAG 15 8 r.diag).channelFail 12 else i
  let i := i.rx.foldl (fun i x => i.copy x.1 x.2) { i with rx := [] }
  let i := if i.portsDown == 3 && i.held.isSome && !i.flag Reg.SAF_LATCH 8 then i.sdFail else i
  let i := (i.setFlag Reg.SAF_DEMAND 5 (!r.noTrip && i.tripMap != 0)).latchDemands
  let i := i.pAct.noteNew old
  let i := i.noted fun i => ((i.readback states 0 r.vhsA r.vlsA r.genRb).readback states 1 r.vhsB r.vlsB r.genRb).readback states 2 0 0 r.genRb
  let i := [0, 1, 2].foldl (fun i x => if bitAt i.rst x || bitAt i.autoMask x then i.restart x else i) i
  let i := i.pulseNext.instantEnd
  if i.accepted then i.view.statusSpdu else i

/-- The heartbeat has stopped: SAF_PEEL shows it absent until channel P toggles it again (R364, R386). -/
def beatStop (i : Island) : Island := { i with beatLost := true }

/-- A demand of the Peel path of its own (R364). -/
def peelDemand (i : Island) (si : Bool) : Island :=
  let i := if si then { i with siLatch := 7 } else i
  let fresh := i.peel != 7 || i.hOn != 0
  let i := i.peelOff 7
  if fresh then i.noteDemand 7 (b2n si) true else i

/-- Start-up (R381): everything as at power-on of SAFE_24V, outputs off and latched. -/
def startup (i : Island) : Island :=
  let fresh : Island := { up := true, heartbeat := true, lines := i.lines, now := i.now, beat := i.now }
  fresh.setFld Reg.SAF_LATCH 2 0 7

/-- The four summary lines, each while its latch is set (R383): DEM_SI, SD_FAIL, P_DEM, TEST_FAIL. -/
def lineLevels (i : Island) : Nat :=
  let l := i.get Reg.SAF_LATCH
  b2n (i.siLatch != 0) + 2 * b2n (bitAt l 8) + 4 * b2n (i.sdLatch != 0 || fieldOf l 7 4 != 0 || bitAt l 12 || bitAt l 13) + 8 * b2n (fieldOf l 11 9 != 0)

end Island

namespace State

def isl (s : State) (f : Island → Island) : State := { s with island := (f { s.island with now := s.tickNo }).view }

/-- The island at this tick. -/
def islNow (s : State) : Island := { s.island with now := s.tickNo }

/-- An action of the island; the enable it gives or removes reaches the local PWM (R362, R383). -/
def islAct (s : State) (f : Island → Island) : State :=
  let s := s.isl f
  s.pwmIsland (!s.island.gen)

/-- The TRIP summary line is energised (R382). -/
def noTrip (s : State) : Bool := s.sys.phase != .inReset && decide (s.fld Reg.FLT_STAT 29 28 < 2)

/-- SAF_CHP: the P_DEM line, or no mirror (R383). -/
def chpCond (s : State) (lost : Bool) : State := s.setCond 0x02 (bitAt s.island.lines 2 || lost)

/-- The main domain samples the summary lines (R383). -/
def sampleLines (s : State) : State :=
  let n := if s.island.up then s.island.lineLevels else s.island.lines
  let s := { s with island := { s.island with lines := n } }
  let s := ((s.setCond 0x00 (bitAt n 0)).setCond 0x01 (bitAt n 1)).setCond 0x03 (bitAt n 3)
  s.setCond 0x02 (bitAt n 2 || (s.condition 0x02 && !s.flag Reg.SAF_STAT 31))

/-- The SAF registers that a mirror frame carries. -/
def mirrorAddrs : List Nat := ((List.range 28).map fun k => 0x90000 + 4 * k) ++ ((List.range 36).map fun k => 0x90080 + 4 * k)

/-- A mirror frame (R383). -/
def mirrorFrame (s : State) : State :=
  let seq := s.getN Reg.SAF_MSEQ + 1
  let s := mirrorAddrs.foldl (fun s a => s.putN a (s.island.get a)) s
  let s := { (s.setFlag Reg.SAF_STAT 31 true).putN Reg.SAF_MSEQ seq with
             sys := { ((s.setFlag Reg.SAF_STAT 31 true).putN Reg.SAF_MSEQ seq).sys with mirrorTick := s.tickNo } }
  (s.chpCond false).irq 47

/-- No mirror frame for 5 ms, or SAFE_24V absent (R383). -/
def mirrorLost (s : State) : State := (s.setFlag Reg.SAF_STAT 31 false).chpCond true

/-- SAFE_24V falls (R368, R383): outputs lose their supply and the island its state. -/
def safe24Loss (s : State) : State :=
  let n := s.island.lines
  let s := s.islAct fun _ => { lines := n }
  s.mirrorLost

end State
end Sys2Proof.Machine
end

