-- ==== Sys2Proof/Machine/Recorder.lean ====
section
/-!
DEFINITION. The disturbance recorder (chapter 14): samples, segments and frames, arming, triggers, records and measurements.
-/
namespace Sys2Proof.Machine
namespace State

def setRec (s : State) (f : Rec → Rec) : State := { s with recd := f s.recd }
def recEvt (s : State) (i : Nat) : State := s.stick Reg.REC_EVT i

def recState (s : State) : Nat := s.fld Reg.REC_STAT 2 0
def recSeg (s : State) : Nat := s.fld Reg.REC_STAT 6 4
/-- The recorder counts as running, for R11 (R393). -/
def recRunning (s : State) : Bool := s.recState == 1 || s.recState == 2

def nsig (s : State) : Nat := s.fld Reg.REC_CFG 6 0
def nseg (s : State) : Nat := s.fld Reg.REC_CFG 11 8

/-- Segment and frame sizes (R389). -/
def segBytesOf (nseg : Nat) : Nat := 6291456 / nseg / 64 * 64
def frameBytesOf (nsig : Nat) : Nat := 24 + 4 * nsig
def capOf (nsig nseg : Nat) : Nat := (segBytesOf nseg - 2560) / frameBytesOf nsig
def frameBytes (s : State) : Nat := frameBytesOf s.nsig
def recCap (s : State) : Nat := capOf s.nsig s.nseg
def segBase (s : State) (k : Nat) : Nat := 0x00500000 + k * segBytesOf s.nseg
/-- Address of the frame at index i of segment k. -/
def frameAt (s : State) (k i : Nat) : Nat := s.segBase k + 0xA00 + i * s.frameBytes

/-- REC_GEOM and REC_CAP follow REC_CFG. -/
def geomShow (s : State) : State := (s.putN Reg.REC_GEOM s.frameBytes).putN Reg.REC_CAP s.recCap

def segState (s : State) (k : Nat) : Nat := s.fld (Reg.REC_SEG_STAT k) 2 0

/-- A segment returns to free. -/
def segFree (s : State) (k : Nat) : State :=
  let s := [Reg.REC_SEG_STAT k, Reg.REC_SEG_TSEC k, Reg.REC_SEG_TNS k, Reg.REC_SEG_FIRST k, Reg.REC_SEG_NFRM k].foldl (fun s a => s.putN a 0) s
  s.setByte (s.segBase k + 4) 0

/-! ## Arming (R392) -/

/-- The segment a new record takes: the lowest free one, else with OVW the closed one with the lowest RSEQ. -/
def recPick (s : State) : Option Nat :=
  let ks := List.range s.nseg
  match ks.find? fun k => s.segState k == 0 with
  | some k => some k
  | none =>
    if !s.flag Reg.REC_CFG 17 then none
    else (ks.filter fun k => decide (2 ≤ s.segState k)).foldl (fun b k => match b with
      | none => some k
      | some x => if s.recd.rseqs.getD k 0 < s.recd.rseqs.getD x 0 then some k else some x) none

/-- REC_WPTR (R402). -/
def wptrShow (s : State) : State := s.putN Reg.REC_WPTR (s.recSeg * 2 ^ 29 + s.recd.j % s.recCap)

/-- The recorder takes a segment, or enters HOLD. -/
def recTake (s : State) : State :=
  match s.recPick with
  | none => if s.recState = 3 then s else (s.setFld Reg.REC_STAT 2 0 3).recEvt 4
  | some k =>
    let s := (s.setFld Reg.REC_STAT 2 0 1).setFld Reg.REC_STAT 6 4 k
    let s := (s.segFree k).setFld (Reg.REC_SEG_STAT k) 2 0 1
    let s := s.setByte (s.segBase k + 4) 1
    let s := s.setBytes (s.segBase k + 0x100) (s.getBytes (Reg.REC_SIG 0) 64)
    (s.setRec fun r => { r with j := 0, trigJ := 0, trig := none, nretrig := 0, rt := (0, 0), meas := [] }).wptrShow

/-- ARM in IDLE; it has nothing to do in the other states. -/
def recArm (s : State) : State := if s.recState = 0 ∧ s.mode ≠ STANDBY then s.recTake else s

/-! ## Samples and frames (R387-R390) -/

/-- Value and validity of signal k at the deadline (R387); a value the rules do not give is free (log entry 3). -/
def recSample (s : State) (k : Nat) : Word × Bool × State :=
  let index := s.fld (Reg.REC_SIG k) 11 0
  match s.fld (Reg.REC_SIG k) 14 12 with
  | 1 => (s.vec index, (s.vecF index).isFinite, s)
  | 2 =>
    match s.adcSample index with
    | some v => (BitVec.ofNat 32 v, true, s)
    | none =>
      match s.ptn.samples.find? (·.1 == index) with
      | some x => (BitVec.ofNat 32 x.2.1, false, s)
      | none => (s.get (Reg.ADC_CH_DATA index), false, s)
  | 3 =>
    match s.latchedOf (index % 256) with
    | some r => let v := r.word (index / 256); (v, !(Fl.of32 v.toNat).isNan, s)
    | none => let (v, s) := s.free; (v, false, s)
  | _ => (0, false, s)

/-- All signals of one sample. -/
def recSamples (s : State) : List Nat → List (Word × Bool) × State
  | [] => ([], s)
  | k :: ks =>
    let (v, ok, s) := s.recSample k
    let (l, s) := s.recSamples ks
    ((v, ok) :: l, s)

/-! ## Measurements (R398, R399) -/

/-- The crossing instant: linear between a sample below 0 and a later one, as a fraction of a nanosecond. -/
def crossing (a b : Nat × Word) : Int × Nat :=
  match Fl.abs (Fl.of32 a.2.toNat), Fl.sub (Fl.of32 b.2.toNat) (Fl.of32 a.2.toNat) with
  | .fin _ m e, .fin _ n f =>
    let g := min e f
    let num := m * Fl.pow2 (e - g)
    let den := n * Fl.pow2 (f - g)
    ((a.1 : Int) * den + ((b.1 : Int) - a.1) * num, max den 1)
  | _, _ => ((a.1 : Int), 1)

end State

/-- One valid sample of a signal enters its measurement; h is the hysteresis. -/
def RecMeas.valid (m : RecMeas) (t : Nat) (w : Word) (h : Fl) : RecMeas :=
  let v := Fl.of32 w.toNat
  let m := if m.nval = 0 then { m with min := v, max := v } else { m with min := Fl.min2 m.min v, max := Fl.max2 m.max v }
  let m := { m with nval := m.nval + 1, sum := Fl.roundExt (Fl.add m.sum v), sq := Fl.roundExt (Fl.add m.sq (Fl.mul v v)) }
  let m := if Fl.lt v Fl.zero then { m with below := some (t, w), next := none }
    else if m.below.isSome && m.next.isNone then { m with next := some (t, w) } else m
  if Fl.lt v h.neg then { m with armed := true }
  else if m.armed && Fl.le h v then
    match m.below, m.next with
    | some a, some b =>
      let x := State.crossing a b
      { m with armed := false, nc := m.nc + 1, first := if m.nc = 0 then x else m.first, last := x }
    | _, _ => { m with armed := false }
  else m

/-- An invalid sample disarms the detector. -/
def RecMeas.invalid (m : RecMeas) : RecMeas := { m with armed := false, below := none, next := none }

/-- The 32 bytes of a measurement entry (R398). -/
def RecMeas.bytes (m : RecMeas) : List Byte :=
  let w := fun (x : Fl) => leBytes 4 (Fl.to32 x)
  let n := Fl.ofNat m.nval
  let num : Int := m.last.1 * m.first.2 - m.first.1 * m.last.2
  let den : Nat := m.last.2 * m.first.2 * (m.nc - 1) * 1000000000
  let per := if m.nc < 2 then Fl.nan else Fl.quot (Fl.ofInt num) (Fl.ofNat den)
  let freq := if m.nc < 2 then Fl.nan else Fl.quot (Fl.ofNat den) (Fl.ofInt num)
  if m.nval = 0 then (List.replicate 7 (leBytes 4 0x7FC00000)).flatten ++ leBytes 4 0
  else w m.min ++ w m.max ++ w (Fl.quot m.sum n) ++ leBytes 4 (Fl.to32 (Fl.sqrt32 (Fl.quot m.sq n))) ++ w (Fl.sub m.max m.min)
    ++ w per ++ w freq ++ leBytes 4 m.nval

namespace State

/-- The frame at index i of the segment in use enters the measurements. -/
def measFrame (s : State) (i : Nat) : State :=
  let a := s.frameAt s.recSeg i
  let t := s.memN a 4 * 1000000000 + s.memN (a + 4) 4
  let ok := s.memN (a + 0x10) 8
  let ms := (List.range s.nsig).map fun k =>
    let m := s.recd.meas.getD k {}
    if bitAt ok k then m.valid t (BitVec.ofNat 32 (s.memN (a + 0x18 + 4 * k) 4)) (Fl.of16 (s.fld (Reg.REC_SIG k) 31 16)) else m.invalid
  s.setRec fun r => { r with meas := ms }

/-! ## Frames of a record -/

/-- Marks the trigger frame at ordinal j (R390) and begins the measurements with it. -/
def markTrigger (s : State) (j : Nat) : State :=
  let i := j % s.recCap
  let s := s.setBytes (s.frameAt s.recSeg i + 0xC) (leBytes 1 (s.memN (s.frameAt s.recSeg i + 0xC) 1 / 2 * 2 + 1))
  (s.setRec fun r => { r with trigJ := j, meas := [] }).measFrame i

/-- A frame is captured in the deadline tick of a sampled cycle (R388, R390, R395). -/
def recFrame (s : State) : State :=
  if !s.recRunning || s.mode == STANDBY || s.cycle % s.fld Reg.REC_DIV 10 0 != 0 then s
  else
    let (vs, s) := s.recSamples (List.range s.nsig)
    let j := s.recd.j
    let i := j % s.recCap
    let valid := maskOf s.nsig fun k => (vs.getD k (0, false)).2
    let f := leBytes 4 s.tim.boundSec ++ leBytes 4 s.tim.boundNs ++ leBytes 4 s.cycle ++ leBytes 4 (2 * s.mode) ++ leBytes 8 valid
      ++ vs.flatMap fun v => leBytes 4 v.1.toNat
    let s := (s.setBytes (s.frameAt s.recSeg i) f).evt 0x071
    let s := (s.setRec fun r => { r with j := j + 1 }).wptrShow
    if s.recState != 2 then s
    else if s.recd.trigJ = j || s.recd.trigTick = s.tickNo then s.markTrigger j
    else s.measFrame i

/-! ## Close (R391, R393, R400) -/

/-- The header of the record in the segment in use (R391). -/
def recHeader (s : State) (st first nfrm npre npost : Nat) (short : Bool) (t : RecTrig) : List Byte :=
  let cap := s.recCap
  leBytes 4 0x52454353 ++ leBytes 1 st ++ leBytes 1 s.nsig ++ leBytes 2 (b2n short + 2 * b2n (s.flag Reg.TIM_UTC 16))
    ++ leBytes 4 s.recd.rseq ++ leBytes 1 t.src ++ leBytes 1 t.idx ++ leBytes 1 t.code ++ leBytes 1 t.mode ++ leBytes 4 t.fseq
    ++ leBytes 8 (t.sec % 2 ^ 48) ++ leBytes 4 t.ns ++ leBytes 1 t.sub ++ [0] ++ leBytes 2 (s.fld Reg.TIM_UTC 15 0)
    ++ leBytes 2 (s.fld Reg.REC_DIV 10 0) ++ leBytes 2 s.frameBytes ++ leBytes 4 cap ++ leBytes 4 first ++ leBytes 4 nfrm
    ++ leBytes 4 (s.recd.trigJ % cap) ++ leBytes 4 npre ++ leBytes 4 npost ++ leBytes 2 s.recd.nretrig ++ leBytes 2 0
    ++ leBytes 4 s.recd.rt.1 ++ leBytes 4 s.recd.rt.2 ++ (s.getBytes (Reg.TRU_RCP_DIG 0) 2) ++ leBytes 8 s.fuses.uid
    ++ List.replicate 164 0

/-- The record in POST closes with STATE st (R393, R398, R400). -/
def recClose (s : State) (st : Nat) : State :=
  match s.recd.trig with
  | none => s
  | some t =>
    let k := s.recSeg
    let cap := s.recCap
    let tj := s.recd.trigJ
    let post := s.fld Reg.REC_POST 17 0
    let got := decide (tj < s.recd.j)
    let npost := if got then s.recd.j - 1 - tj else 0
    let npre := if got then min (min tj (cap - 1)) (cap - 1 - post) else 0
    let nfrm := if got then npre + 1 + npost else 0
    let first := (tj - npre) % cap
    let s := s.setBytes (s.segBase k) (s.recHeader st first nfrm npre npost (decide (npre < cap - 1 - post)) t)
    let s := s.setBytes (s.segBase k + 0x200) ((List.range 64).flatMap fun i =>
      if i < s.nsig then (s.recd.meas.getD i {}).bytes else List.replicate 32 0)
    let s := s.putN (Reg.REC_SEG_STAT k) (s.recd.rseq % 65536 * 65536 + t.code * 256 + t.src * 16 + st)
    let s := ((s.putN (Reg.REC_SEG_TSEC k) (t.sec % 2 ^ 32)).putN (Reg.REC_SEG_TNS k) t.ns)
    let s := (s.putN (Reg.REC_SEG_FIRST k) first).putN (Reg.REC_SEG_NFRM k) nfrm
    let n := s.recd.rseq
    let s := s.setRec fun r => { r with rseqs := modNth (fun _ => n) k r.rseqs, rseq := (n + 1) % 2 ^ 32, trig := none }
    ((s.setFld Reg.REC_STAT 2 0 0).recEvt 0).irq 12

/-- STOP, or entry into STANDBY (R397). -/
def recStop (s : State) : State :=
  match s.recState with
  | 1 => (s.segFree s.recSeg).setFld Reg.REC_STAT 2 0 0
  | 2 => (s.recClose 3).recEvt 6
  | _ => s.setFld Reg.REC_STAT 2 0 0

/-! ## Triggers (R394-R397) -/

/-- A trigger of this tick: 0 software, 1 TRIG_IN, 2 XTRIG, 3 fault manager; u units of 250 ps into the tick, whose time is that of its start
(R34, R394). -/
def recTrigger (s : State) (src u : Nat) (idx code fseq : Nat) : State :=
  let t := s.stamp u
  s.setRec fun r => { r with todo := r.todo ++ [{ src, idx, code, fseq, sec := t.1, ns := t.2.1, sub := t.2.2, mode := s.mode }] }

/-- The first source present in the order fault manager, TRIG_IN, XTRIG, software; of fault records the lowest index (R394). -/
def firstTrigger (l : List RecTrig) : Option RecTrig :=
  let faults := l.filter (·.src == 3)
  match faults with
  | f :: fs => some (fs.foldl (fun b x => if x.idx < b.idx then x else b) f)
  | [] => match l.find? (·.src == 1) with
    | some x => some x
    | none => match l.find? (·.src == 2) with
      | some x => some x
      | none => l.head?

/-- The pin levels that REC_STAT shows (R403). They are followed in every state of the module; the register takes them up where its clock
starts again. -/
def pinShow (s : State) : State :=
  (s.setFlag Reg.REC_STAT 10 s.recd.pinIn).setFlag Reg.REC_STAT 8 (s.recd.extLow || s.flag Reg.REC_STAT 9)

/-- XTRIG is driven low for an accepted trigger other than one from XTRIG (R396); a line that was high falls (R493). -/
def xtDrive (s : State) (src : Nat) : State :=
  if src = 2 ∨ !s.flag Reg.REC_TRIGCFG 4 then s
  else
    let s := if s.flag Reg.REC_STAT 8 then s else s.evt 0x073
    ((s.setFlag Reg.REC_STAT 9 true).setFlag Reg.REC_STAT 8 true).setRec fun r => { r with xtFrom := s.tickNo }

/-- The triggers of a tick act as one (R394, R395, R397). -/
def recJudge (s : State) : State :=
  match firstTrigger s.recd.todo with
  | none => s
  | some t =>
    let s := s.setRec fun r => { r with todo := [] }
    match s.recState with
    | 1 =>
      let s := s.setRec fun r => { r with trig := some t, trigTick := s.tickNo, trigJ := r.j, meas := [] }
      let s := if 0 < s.recd.j then s.markTrigger (s.recd.j - 1) else s
      ((((s.setFld Reg.REC_STAT 2 0 2).recEvt 1).inc Reg.REC_CNT_TRIG).irq 13).xtDrive t.src
    | 2 =>
      let s := s.setRec fun r => { r with nretrig := satInc r.nretrig 65535, rt := if r.nretrig = 0 then (t.sec % 2 ^ 32, t.ns) else r.rt }
      (s.inc Reg.REC_CNT_RETRIG).recEvt 2
    | _ => (s.inc Reg.REC_CNT_LOST).recEvt 3

/-- The record is complete (R392). -/
def recFull (s : State) : Bool :=
  s.recState == 2 && decide (s.recd.trigJ + s.fld Reg.REC_POST 17 0 < s.recd.j)

/-- The end of a tick: its triggers act, and a record whose last frame is captured closes and rearms (R392, R394). -/
def recTick (s : State) : State :=
  let s := s.recJudge
  if s.recFull then
    let s := s.recClose 2
    if s.flag Reg.REC_CFG 16 then s.recTake else s
  else s

/-- An edge of TRIG_IN u units into the tick (R394). Without the block's clock only the pin's level changes (R55, R66). -/
def trigInEdge (s : State) (rising : Bool) (u : Nat) : State :=
  let s := s.setRec fun r => { r with pinIn := rising }
  if !s.awake then s else
  let s := s.pinShow.evt 0x072
  let e := s.fld Reg.REC_TRIGCFG 2 1
  if s.flag Reg.REC_TRIGCFG 0 && (e == 2 || (e == 0 && rising) || (e == 1 && !rising)) then s.recTrigger 1 u 0 0xFF 0xFFFFFFFF else s

/-- Another driver pulls XTRIG low or releases it (R394, R396). Without the block's clock only the line's level changes (R55, R66). -/
def xtrigEdge (s : State) (fall : Bool) (u : Nat) : State :=
  let drv := s.flag Reg.REC_STAT 9
  let s := s.setRec fun r => { r with extLow := fall }
  if !s.awake then s else
  let s := s.pinShow
  if !fall || drv then s
  else
    let s := s.evt 0x073
    let quiet := match s.recd.xtFreed with
      | some x => decide (32 * s.tickNo + u < 32 * x + 4000)
      | none => false
    if s.flag Reg.REC_TRIGCFG 3 && !quiet then s.recTrigger 2 u 0 0xFF 0xFFFFFFFF else s

/-- XT_W µs of the module's own pulse have passed (R396). -/
def xtDue (s : State) : Bool := s.flag Reg.REC_STAT 9 && s.elapsed s.recd.xtFrom (s.fld Reg.REC_TRIGCFG 15 8 * 1000)

def xtRelease (s : State) : State :=
  let s := (s.setFlag Reg.REC_STAT 9 false).setFlag Reg.REC_STAT 8 s.recd.extLow
  s.setRec fun r => { r with xtFreed := some s.tickNo }

/-- REC_SEG_REL: closed segments become free; the segment being captured stays (R397); a recorder in HOLD arms (R392). -/
def recRelease (s : State) (mask : Nat) : State :=
  let s := (bitsOf 8 mask).foldl (fun s k =>
    if s.recRunning && s.recSeg == k then s.recEvt 5
    else if 2 ≤ s.segState k then s.segFree k else s) s
  if s.recState = 3 then s.recTake else s

def recCntClr (s : State) : State := [Reg.REC_CNT_TRIG, Reg.REC_CNT_RETRIG, Reg.REC_CNT_LOST].foldl (fun s a => s.putN a 0) s

end State
end Sys2Proof.Machine
end

