-- ==== Sys2Proof/Machine/Manager.lean ====
section
/-!
DEFINITION. The fault manager (chapter 12): classes and actions, entry into SAFE (R48), records and the queue, latches and clearing;
and what every event ends with: the actions of the faults it raised, its same-tick index (R34), and a STATUS (R247).
-/
namespace Sys2Proof.Machine

/-- Minimum class, scope (0 the Recipe decides, 1 pair, 2 module) and rank of a fault code (R345); none for the reserved codes. -/
def fltInfo (c : Nat) : Option (Nat × Nat × Nat) :=
  if c ≤ 0x02 then some (3, 1, 1)
  else if c = 0x03 then some (2, 1, 8)
  else if 0x08 ≤ c ∧ c ≤ 0x19 then some (3, 2, 2)
  else if c = 0x1A then some (3, 2, 3)
  else if 0x1B ≤ c ∧ c ≤ 0x22 then some (2, 0, 3)
  else if 0x23 ≤ c ∧ c ≤ 0x28 then some (2, 2, 3)
  else if 0x30 ≤ c ∧ c ≤ 0x37 then some (2, 1, 4)
  else if 0x38 ≤ c ∧ c ≤ 0x47 then some (2, 0, 4)
  else if c = 0x50 then some (2, 1, 5)
  else if c = 0x51 then some (2, 2, 5)
  else if c = 0x52 ∨ c = 0x53 then some (1, 0, 5)
  else if c = 0x54 then some (0, 0, 5)
  else if 0x58 ≤ c ∧ c ≤ 0x73 then some (1, 0, 6)
  else if c = 0x80 then some (2, 2, 8)
  else if c = 0x81 then some (1, 0, 8)
  else if 0x82 ≤ c ∧ c ≤ 0x88 then some (2, 2, 8)
  else if c = 0x89 ∨ c = 0x8A then some (1, 0, 8)
  else if c = 0x8B then some (0, 0, 8)
  else if c = 0x8C ∨ c = 0x8D ∨ c = 0x8F ∨ c = 0x93 then some (2, 2, 8)
  else if c = 0x8E ∨ (0x90 ≤ c ∧ c ≤ 0x92) then some (1, 0, 8)
  else if 0x98 ≤ c ∧ c ≤ 0x9D then some (2, 2, 8)
  else if 0xA0 ≤ c ∧ c ≤ 0xA5 then some (2, 2, 8)
  else if 0xA8 ≤ c ∧ c ≤ 0xAD then some (1, 0, 8)
  else if (0xB0 ≤ c ∧ c ≤ 0xB5) ∨ (0xB8 ≤ c ∧ c ≤ 0xBD) ∨ c = 0xFF then some (0, 0, 8)
  else if 0xC0 ≤ c ∧ c ≤ 0xF6 then some (1, 0, 8)
  else none

namespace State

/-! ## Modes (R46-R52) -/

/-- A transition is made: SYS_MODE, MODE of this tick's fault records, its MODE record, the MODE_CHG interrupt, groups with AUTO (R52, R69, R103, R349, R481). Leaving SAFE takes STOP out of
the STATUS (log entry 14). -/
def setMode (s : State) (new reason keyid counter : Nat) : State :=
  let old := s.mode
  let en := s.flag Reg.SYS_MODE 12 && engineMode new
  let pend := s.flag Reg.SYS_MODE 3
  let s := s.putN Reg.SYS_MODE (b2n en * 4096 + reason * 256 + old * 16 + b2n pend * 8 + new)
  let s := s.setFlag Reg.PWM_STAT 6 (decide (new ≤ 1))
  let s := if (new == ENERGIZE || runMode new) && old != new then s.pwmAuto else s
  let s := if old = SAFE then s.setPtn fun p => { p with stop := false } else s
  let s := if new = ENERGIZE then { s with sys := { s.sys with energizeEntry := s.tickNo } } else s
  let s := if new = RIDETHROUGH then { s with sys := { s.sys with rtEntry := s.tickNo, rtFrom := if runMode old then old else STANDBY } } else s
  let s := { s with flt := { s.flt with queue := s.flt.queue.map fun (r : FltRec) => if r.tick = s.tickNo then { r with bytes := r.bytes.set 24 (BitVec.ofNat 8 new) } else r } }
  (s.logMode old new 0 reason keyid counter s.cycle).irq 36

/-- A boundary transition that waits is cancelled by SAFE (R49). -/
def cancelPending (s : State) : State :=
  match s.sys.pend with
  | none => s
  | some p =>
    let s := ({ s with sys := { s.sys with pend := none } } : State).setFlag Reg.SYS_MODE 3 false
    s.logMode s.mode p.target 2 0x1F p.keyid p.counter p.atCycle

/-- DETAIL of a BANK record: R103 lists BANK and the cycle number without their places; the cycle number at offset 4 is the model's choice
(log entry 184). For a swap that is cancelled the cycle is that whose boundary would have made it, as for a MODE record. -/
def bankDetail (bank cyc : Nat) : List Byte := leBytes 1 bank ++ [0, 0, 0] ++ leBytes 4 cyc

/-- A bank swap that waits is cancelled when the module leaves ENERGIZE and the run modes (R99); the lock is released. -/
def cancelSwap (s : State) : State :=
  match s.tru.bank with
  | none => s
  | some b =>
    if !b.accepted then s
    else
      let s := ({ s with tru := { s.tru with bank := none } } : State).putN Reg.KNE_SWAP 0
      s.logRecord { type := 0x0009, code := 0x0005, result := 2, reason := 0x1F, keyid := b.keyid, counter := b.counter,
                    detail := bankDetail b.bank (if b.cycle = 0 then s.tim.cycleNext else b.cycle) }

/-- Entry into SAFE (R48): outputs forced, engine and modulator stopped, frames that have not left withdrawn, and what other chapters
tie to it (R49, R99, R254, R310, R420). -/
def enterSafe (s : State) (reason keyid counter : Nat) : State :=
  let old := s.mode
  let s := s.cancelPending
  let s := s.setMode SAFE reason keyid counter
  let s := ((s.pwmSafe.modStop).kneStop).withdrawFrames
  let s := if old = COMMISSION then s.gdrLeaveCommission.lanesLeaveCommission else s
  s.riseSafe.cancelSwap

/-- SAFE for a pair-scope cause: STOP in the STATUS, and a FOLLOW promotes in the same tick (R254). -/
def safeForPair (s : State) : State :=
  if !s.paired then s
  else
    let s := s.setPtn fun p => { p with stop := true }
    if s.isFollow && !s.withdrawn then s.promote else s

/-! ## Wake by a fault (R353) -/

/-- A STANDBY entry is open to wake sources: its save runs, or it was abandoned in this tick (R68). -/
def entryOpen (s : State) : Bool := s.sys.saving || s.sys.abortTick == some s.tickNo

/-- Of two wake sources of one tick the one that is recorded: the lower code, but 6 above every other (R68, R353). -/
def wakeCode (a b : Nat) : Nat := if a = 6 ∨ b = 6 then 6 else min a b

/-- A STANDBY entry is abandoned: the lanes, stopped for it, start again (R41, R68). -/
def abandonEntry (s : State) : State :=
  let s := ({ s with sys := { s.sys with saving := false, abortTick := some s.tickNo } } : State).lanesStart
  s.stick Reg.SYS_STBY_STAT 8

/-- A wake event: an entry whose save runs is abandoned; in STANDBY the wake begins (R67, R68). R68 names ABORTED alone for an abandoned
entry; that SOURCE records what abandoned it, by the same order, is the model's choice (log entry 181). -/
def wake (s : State) (source : Nat) : State :=
  if s.sys.saving then s.abandonEntry.setFld Reg.SYS_STBY_STAT 2 0 source
  else if s.entryOpen then s.setFld Reg.SYS_STBY_STAT 2 0 (wakeCode source (s.fld Reg.SYS_STBY_STAT 2 0))
  else if s.mode != STANDBY then s
  else
    match s.sys.waking with
    | none => ({ s with sys := { s.sys with waking := some source, wakeTick := s.tickNo } } : State)
    | some old =>
      if s.sys.wakeTick = s.tickNo then ({ s with sys := { s.sys with waking := some (wakeCode source old) } } : State) else s

/-! ## Records (R349-R351) -/

def fltLatched (s : State) (c : Nat) : Bool := s.flag (Reg.FLT_LATCH (c / 32)) (c % 32)
def fltClass (s : State) (c : Nat) : Nat := s.fld (Reg.FLT_CLASS (c / 16)) (2 * (c % 16) + 1) (2 * (c % 16))
def fltPair (s : State) (c : Nat) : Bool := s.flag (Reg.FLT_PAIR (c / 32)) (c % 32)

/-- FLT_STAT, and SYS_THERM_STAT with it, follow the latches (R361, R521). -/
def fltShow (s : State) : State :=
  let l := (List.range 256).filter s.fltLatched
  let hold := l.any fun c => decide (0x1A ≤ c) && decide (c ≤ 0x28)
  let mx := if l.any (fun c => match fltInfo c with | some i => i.1 == 3 | none => false) then 3 else if l.isEmpty then 0 else 2
  let s := s.putN Reg.FLT_STAT (b2n (!l.isEmpty) * 2 ^ 31 + b2n hold * 2 ^ 30 + mx * 2 ^ 28 + l.length * 2 ^ 16)
  let s := if l.isEmpty then ((s.putN Reg.FLT_FIRST 0).putN Reg.FLT_FIRST_NS 0).putN Reg.FLT_FIRST_SEC 0 else s
  s.thermStat

/-- FLT_Q_STAT and FLT_Q_HEAD show the queue. -/
def qShow (s : State) : State :=
  let s := s.putN Reg.FLT_Q_STAT s.flt.queue.length
  match s.flt.queue with
  | [] => s.putBytes (Reg.FLT_Q_HEAD 0) 8 (List.replicate 32 0)
  | r :: _ => s.putBytes (Reg.FLT_Q_HEAD 0) 8 r.bytes

/-- A record is lost to the queue (R351). -/
def qLost (s : State) : State := (s.inc Reg.FLT_Q_LOST).stick Reg.FLT_EVT 4

/-- The newest queued record of class LOG or ALARM is taken out, if there is one. -/
def dropNewestLow (l : List FltRec) : Option (List FltRec) :=
  match l.reverse.findIdx? fun r => decide (r.cls < 2) with
  | none => none
  | some i => some (l.eraseIdx (l.length - 1 - i))

/-- A record enters the queue (R350, R351). -/
def enqueue (s : State) (r : FltRec) : State :=
  let put := fun (s : State) (q : List FltRec) => ({ s with flt := { s.flt with queue := q } } : State).qShow
  if s.flt.queue.length < 32 then put s (s.flt.queue ++ [r])
  else if r.cls < 2 then s.qLost
  else match dropNewestLow s.flt.queue with
    | some q => (put s (q ++ [r])).qLost
    | none => s.qLost

/-- FSEQ named by DURING: the head at the start of the tick, while a record of an earlier tick is queued (R350). -/
def during (s : State) : Option Nat :=
  if s.flt.queue.any (fun r => decide (r.tick < s.tickNo)) then s.flt.headAtTick else none

/-- The actions of one raise, in its tick (R340-R344, R349-R353, R356). -/
def fltAct (s : State) (q : FltReq) : State :=
  match fltInfo q.code with
  | none => s
  | some (minCls, _, _) =>
    let eff := s.fltClass q.code
    let cls := if q.code = 0xFF then max eff q.swClass else eff
    let raised := if q.code = 0xFF then decide (q.swClass < eff) else decide (minCls < eff)
    let repeated := s.fltLatched q.code
    let pair := s.fltPair q.code
    let idx := s.sys.tickIdx
    let fseq := s.flt.fseq
    let stops := decide (2 ≤ cls)
    let cancels := stops && s.sys.pend.isSome
    let dur := s.during
    let enters := stops && s.live && s.mode != SAFE && s.mode != STANDBY
    let s := if stops then s.setFlag (Reg.FLT_LATCH (q.code / 32)) (q.code % 32) true else s
    let s := if enters then s.enterSafe (if cls = 3 then (if q.code ≤ 2 then 4 else 3) else 2) 0 0 else s
    let s := if stops && s.live then (if s.entryOpen || s.mode == STANDBY then s.wake 6 else s.cancelPending) else s
    let stop := enters && pair && s.paired
    let s := if stop then s.safeForPair else s
    let yields := stops && !pair && s.paired && s.roleNo != 0 && !s.withdrawn
    let s := if yields then s.yieldNow false else s
    let yields := yields || (q.code == 0x51 && s.withdrawn)
    let trig := (stops || s.flag (Reg.FLT_RTRG (q.code / 32)) (q.code % 32)) && s.mode != STANDBY
    let s := if trig then s.recTrigger 3 0 idx q.code fseq else s
    let flags := b2n dur.isSome + 2 * b2n pair + 4 * b2n raised + 8 * b2n repeated + 16 * b2n q.boot + 32 * b2n s.timeValid
    let acts := b2n enters + 2 * b2n stop + 4 * b2n yields + 8 * b2n stops + 16 * b2n trig + 32 * b2n cancels
    let bytes := leBytes 4 fseq ++ leBytes 1 q.code ++ leBytes 1 cls ++ leBytes 1 idx ++ leBytes 1 flags
      ++ leBytes 4 (dur.getD 0xFFFFFFFF) ++ leBytes 4 s.nowNs ++ leBytes 4 s.nowSec ++ leBytes 4 s.cycle
      ++ leBytes 1 s.mode ++ leBytes 1 acts ++ leBytes 2 q.item ++ leBytes 4 q.value
    let old := (s.flt.srcs.find? fun (x : Nat × FltSrc) => x.1 == q.code).map Prod.snd
    let src : FltSrc := { cnt := satInc ((old.getD {}).cnt) 0xFFFFFFFF, ns := s.nowNs, sec := s.nowSec, item := q.item }
    let s := ({ s with flt := { s.flt with fseq := (fseq + 1) % 2 ^ 32, srcs := Assoc.ins s.flt.srcs q.code src },
                       sys := { s.sys with tickIdx := idx + 1 } } : State)
    let s := s.incFld (Reg.FLT_CNT (q.code / 4)) (8 * (q.code % 4) + 7) (8 * (q.code % 4))
    let s := if stops && !s.flag Reg.FLT_FIRST 31 then
        ((s.putN Reg.FLT_FIRST (2 ^ 31 + cls * 2 ^ 24 + idx % 256 * 2 ^ 16 + q.code)).putN Reg.FLT_FIRST_NS s.nowNs).putN Reg.FLT_FIRST_SEC s.nowSec
      else s
    let s := (s.enqueue { bytes, cls, tick := s.tickNo }).stick Reg.FLT_EVT cls
    let s := ((s.irq cls).irq (64 + q.code)).evt (0x100 + q.code)
    if stops then s.fltShow else s

def fltRank (q : FltReq) : Nat := match fltInfo q.code with
  | some (_, _, r) => r * 256 + q.code
  | none => 0x10000

/-- The raise that comes first in the order of R30 and R347, and the others. -/
def firstReq : List FltReq → Option (FltReq × List FltReq)
  | [] => none
  | q :: qs =>
    match firstReq qs with
    | none => some (q, [])
    | some (p, rest) => if fltRank p < fltRank q then some (p, q :: rest) else some (q, p :: rest)

/-- Every raise that waits takes its actions, in order; an action may raise another (R343). -/
def drain : Nat → State → State
  | 0, s => s
  | k + 1, s =>
    match firstReq s.flt.todo with
    | none => s
    | some (q, rest) => drain k (({ s with flt := { s.flt with todo := rest } } : State).fltAct q)

/-- The raises of rank r and above act before what a boundary or deadline judges next (R30). -/
def drainTo (r : Nat) : Nat → State → State
  | 0, s => s
  | k + 1, s =>
    match firstReq s.flt.todo with
    | none => s
    | some (q, rest) => if fltRank q < (r + 1) * 256 then drainTo r k (({ s with flt := { s.flt with todo := rest } } : State).fltAct q) else s

/-- Raises that one event can leave: every code once, and a PTN_YIELD and a PTN_PROMOTE for each. -/
def drainFuel : Nat := 1024

/-! ## Clearing (R354, R355) -/

/-- FLT_CLR refuses the value (R354). -/
def fltClrBad (s : State) (v : Nat) : Bool := fieldOf v 31 16 != 0xC1EA || (!bitAt v 8 && !s.fltLatched (v % 256))

/-- A commit of FLT_CLR. A source raised again in this tick keeps its latch (R353). -/
def fltClr (s : State) (v : Nat) : State :=
  let named := if bitAt v 8 then (List.range 256).filter s.fltLatched else [v % 256]
  let keeps := fun c => s.condition c || (decide (0x1A ≤ c) && decide (c ≤ 0x28)) || s.cores.evts.contains (0x100 + c)
  let s1 := named.foldl (fun t c => if keeps c then t else t.setFlag (Reg.FLT_LATCH (c / 32)) (c % 32) false) s
  let s1 := if named.any keeps then s1.stick Reg.FLT_EVT 5 else s1
  s1.fltShow

/-- POP removes the head (R350). -/
def fltPop (s : State) : State := ({ s with flt := { s.flt with queue := s.flt.queue.drop 1 } } : State).qShow

/-- FLT_SW raises SW (R361); each write is an event of its own, and the source is present for its tick. -/
def fltSw (s : State) (v : Nat) : State :=
  (s.mark 0xFF).raise { code := 0xFF, value := v % 65536, swClass := fieldOf v 25 24 }

/-- A write of FLT_SRC_SEL snapshots the source (R360). -/
def fltSnap (s : State) (c : Nat) : State :=
  let src := ((s.flt.srcs.find? fun (x : Nat × FltSrc) => x.1 == c).map Prod.snd).getD {}
  let mn := match fltInfo c with | some i => i.1 | none => 0
  let s := s.putN Reg.FLT_SRC_SEL c
  let s := s.putN Reg.FLT_SRC_INFO (b2n (s.fltLatched c) * 2 ^ 31 + b2n (s.condition c) * 2 ^ 30 + b2n (s.fltPair c) * 2 ^ 29
    + s.fltClass c * 2 ^ 24 + mn * 2 ^ 16 + src.item)
  ((s.putN Reg.FLT_SRC_CNT src.cnt).putN Reg.FLT_SRC_LAST_NS src.ns).putN Reg.FLT_SRC_LAST_SEC src.sec

/-- FLT_CNT_CLR (R360). -/
def fltCntClr (s : State) : State :=
  let s := (List.range 64).foldl (fun s k => s.putN (Reg.FLT_CNT k) 0) s
  ({ s with flt := { s.flt with srcs := s.flt.srcs.map fun (x : Nat × FltSrc) => (x.1, { x.2 with cnt := 0 }) } } : State).putN Reg.FLT_Q_LOST 0

/-! ## What every event ends with -/

/-- No raise outlives its event (R344), and the queue's registers show the queue, which holds at most 32 records (R350). -/
def closeEvent (s : State) : State := ({ s with flt := { s.flt with todo := [], queue := s.flt.queue.take 32 } } : State).qShow

/-- Faults act, a STATUS leaves if what it must tell has changed (R247), and the event takes its same-tick index (R34). The spec does not say
which happenings of a tick count as events: the model gives an index to every command whose guard holds, a register read or write
included, whether or not it makes a record (log entry 182). -/
def finish (s t : State) : State :=
  let t := drain drainFuel t
  let t := if s.statusKey = t.statusKey then t else t.sendStatus
  let t := if t.sys.tickIdx = s.sys.tickIdx then { t with sys := { t.sys with tickIdx := t.sys.tickIdx + 1 } } else t
  t.closeEvent

end State

/-- The state after an event with effect u: the fault manager acts, and the queue of commands stays as it was. -/
def State.ended (s u : State) : State := { State.finish s u with pending := s.pending }

/-- The outcome of an event with effect f; the module's own state excludes the event where ok is false. -/
def event (ok : State → Bool) (f : State → State) (s : State) : Host.Outcome State Fault Refusal :=
  .next (if ok s then s.ended (f s) else s)

end Sys2Proof.Machine
end

