-- ==== Sys2Proof/Machine/NetSend.lean ====
section
/-!
DEFINITION. What a port sends by itself (R450, R452, R457, R458): addresses, headers, checksums, and the queues of replies,
responses and status SPDUs. Header fields that no rule and no standard fixes are free (log entry 15).
-/
namespace Sys2Proof.Machine

/-- The ones' complement sum of big-endian 16-bit words; a last odd byte is padded with 0. -/
def inetSum : List Byte → Nat
  | [] => 0
  | [b] => b.toNat * 256
  | a :: b :: l => a.toNat * 256 + b.toNat + inetSum l

/-- The Internet checksum: the complement of the folded sum. -/
def inetChecksum (bs : List Byte) : Nat :=
  let a := inetSum bs
  let b := a % 65536 + a / 65536
  let c := b % 65536 + b / 65536
  65535 - (c % 65536 + c / 65536)

/-- The pseudo-header of UDP over IPv4 or IPv6 (RFC 768, RFC 8200). -/
def pseudo (fam proto : Nat) (src dst : List Byte) (len : Nat) : List Byte :=
  if fam = 4 then src.take 4 ++ dst.take 4 ++ [0] ++ leBytes 1 proto ++ beBytes 2 len
  else src ++ dst ++ beBytes 4 len ++ [0, 0, 0] ++ leBytes 1 proto

/-- Where an answer goes: family, MAC, address (4 bytes and zeros, or 16 bytes) and UDP port. -/
structure Peer where
  fam : Nat
  mac : List Byte
  addr : List Byte
  port : Nat

/-- The reply record of a Uzopex block: FAM, MAC, address, UDP port and MSG_ID. -/
def Peer.bytes (x : Peer) (msgId : Nat) : List Byte :=
  leBytes 1 x.fam ++ x.mac.take 6 ++ (x.addr ++ List.replicate 16 0).take 16 ++ leBytes 2 x.port ++ leBytes 2 msgId

def Peer.ofBytes (b : List Byte) : Peer := { fam := leAt b 0 1, mac := slice b 1 6, addr := slice b 7 16, port := leAt b 23 2 }

namespace State

def ethSt (s : State) (p : Nat) : Eth := s.eth.getD p {}
def setEth (s : State) (p : Nat) (f : Eth → Eth) : State := { s with eth := modNth f p s.eth }
def linkUp (s : State) (p : Nat) : Bool := s.flag (Reg.ETH_STAT p) 0
def ethCount (s : State) (p k : Nat) : State := s.inc (Reg.ETH_CNT p k)

def ownMac (s : State) (p : Nat) : List Byte := (s.getBytes (Reg.ETH_MAC_LO p) 2).take 6
/-- Own IPv4 and IPv6 address (R450); all 0 turns the family off. -/
def ownIp4 (s : State) (p : Nat) : List Byte := leBytes 4 (s.getN (Reg.ETH_IP4 p))
def ownIp6 (s : State) (p : Nat) : List Byte := s.getBytes (Reg.ETH_IP6 p 0) 4
/-- The link-local address fe80::/64 with the modified EUI-64 of the MAC (R450). -/
def linkLocal (s : State) (p : Nat) : List Byte :=
  let m := s.ownMac p
  let b0 := leAt m 0 1
  [0xFE, 0x80, 0, 0, 0, 0, 0, 0] ++ leBytes 1 (putField b0 1 1 (b2n (!bitAt b0 1))) ++ slice m 1 2 ++ [0xFF, 0xFE] ++ slice m 3 3

/-- The MAC header of a frame that the hardware sends; tagged when TAG_EN is 1. -/
def macHead (s : State) (p : Nat) (dst : List Byte) (etype : Nat) : List Byte :=
  let tag := if s.flag (Reg.ETH_CFG p) 15 then [0x81, 0] ++ beBytes 2 (s.fld (Reg.ETH_CFG p) 14 12 * 8192 + s.fld (Reg.ETH_CFG p) 27 16) else []
  dst ++ s.ownMac p ++ tag ++ beBytes 2 etype

/-- A UDP datagram from an own address to a peer. -/
def udpFrame (s : State) (p : Nat) (x : Peer) (sport : Nat) (body : List Byte) : List Byte × State :=
  let src := if x.fam = 4 then s.ownIp4 p else if slice x.addr 0 2 = [0xFE, 0x80] then s.linkLocal p else s.ownIp6 p
  let len := 8 + body.length
  let head := beBytes 2 sport ++ beBytes 2 x.port ++ beBytes 2 len
  let c := inetChecksum (pseudo x.fam 17 src x.addr len ++ head ++ [0, 0] ++ body)
  let udp := head ++ beBytes 2 (if c = 0 then 65535 else c) ++ body
  let (w, s) := s.free
  let fill := leBytes 4 w.toNat
  if x.fam = 4 then
    let a := [0x45] ++ slice fill 0 1 ++ beBytes 2 (20 + len) ++ slice fill 1 2 ++ [0, 0] ++ slice fill 3 1 ++ [17]
    let tail := src ++ x.addr.take 4
    let ck := inetChecksum (a ++ [0, 0] ++ tail)
    (s.macHead p x.mac 0x0800 ++ a ++ beBytes 2 ck ++ tail ++ udp, s)
  else
    let n := leNat fill % 2 ^ 24
    (s.macHead p x.mac 0x86DD ++ beBytes 4 (6 * 2 ^ 28 + n) ++ beBytes 2 len ++ [17] ++ slice fill 3 1 ++ src ++ x.addr ++ udp, s)

/-- A reply or a response is queued; one that finds its queue full is not sent (R452). A frame that meets a link that is down is
discarded (R471). -/
def ethQueue (s : State) (p kind : Nat) (bytes : List Byte) : State :=
  let f : EthOut := { kind, bytes }
  if !s.linkUp p then s.ethCount p 9
  else if kind = 0 then s.setEth p fun e => { e with spdus := e.spdus ++ [f] }
  else if kind = 1 then
    if 2 ≤ (s.ethSt p).replies.length then s.stick (Reg.ETH_EVT p) 5 else s.setEth p fun e => { e with replies := e.replies ++ [f] }
  else if 8 ≤ (s.ethSt p).responses.length then s.stick (Reg.ETH_EVT p) 5
  else s.setEth p fun e => { e with responses := e.responses ++ [f] }

/-- The response to a complete block (R457). -/
def uzRespond (s : State) (p : Nat) (reply : List Byte) (reason logSeq counter opcode : Nat) : State :=
  let b := leBytes 4 0x58505A55 ++ [0x01, 0x02] ++ slice reply 25 2 ++ leBytes 1 (if reason = 0 then 3 else 4) ++ leBytes 1 reason
    ++ [0, 0] ++ leBytes 4 logSeq ++ leBytes 8 counter ++ leBytes 8 s.fuses.uid ++ leBytes 2 opcode ++ [0, 0]
  let r := s.udpFrame p (Peer.ofBytes reply) 47810 b
  r.2.ethQueue p 2 r.1

/-- A status SPDU goes to the peer of every port with SD_EN (R377, R458). -/
def sendSpdu (s : State) (spdu : List Byte) : State :=
  [0, 1].foldl (fun s p =>
    if !s.flag (Reg.ETH_CFG p) 4 then s
    else
      let x : Peer := { fam := s.fld (Reg.ETH_SD_FAM p) 7 0, mac := (s.getBytes (Reg.ETH_SD_MAC_LO p) 2).take 6,
                        addr := s.getBytes (Reg.ETH_SD_ADDR p 0) 4, port := 47811 }
      let r := s.udpFrame p x 47811 spdu
      r.2.ethQueue p 0 r.1) s

/-! ## Rings (R454) -/

/-- START sets HEAD and TAIL to 0. A software frame that is still on the line belongs to no descriptor of the new ring: it leaves without a
STATUS (log entry 228). -/
def txStart (s : State) (p : Nat) : State :=
  let s := s.setEth p fun e => { e with cur := e.cur.map fun f => { f with desc := none } }
  ((s.setFlag (Reg.ETH_STAT p) 3 true).putN (Reg.ETH_TXR_HEAD p) 0).putN (Reg.ETH_TXR_TAIL p) 0
def txStop (s : State) (p : Nat) : State := s.setFlag (Reg.ETH_STAT p) 3 false
def rxStart (s : State) (p : Nat) : State :=
  ((s.setFlag (Reg.ETH_STAT p) 4 true).putN (Reg.ETH_RXR_HEAD p) 0).putN (Reg.ETH_RXR_TAIL p) 0
def rxStop (s : State) (p : Nat) : State := s.setFlag (Reg.ETH_STAT p) 4 false

/-- A write of ETHp_RING_CTRL; START and STOP of one ring together are ignored (log entry 18). -/
def ringCtrl (s : State) (p v : Nat) : State :=
  let s := if bitAt v 0 && !bitAt v 1 then s.txStart p else if bitAt v 1 && !bitAt v 0 then s.txStop p else s
  if bitAt v 2 && !bitAt v 3 then s.rxStart p else if bitAt v 3 && !bitAt v 2 then s.rxStop p else s

/-- CLR of ETHp_CNT_CLR (R471). -/
def ethCntClr (s : State) (p : Nat) : State := (List.range 18).foldl (fun s k => s.putN (Reg.ETH_CNT p k) 0) s

end State
end Sys2Proof.Machine
end

