-- ==== Sys2Proof/Machine/Values.lean ====
section
/-!
DEFINITION. Which register instances exist (R2, R19), which count as running for R11, and which values their field tables refuse (R95, R536).
A value is judged beside the values that the same write or commit leaves in the other registers, which look gives.
-/
namespace Sys2Proof.Machine

/-- A finite binary32 value. -/
def finite32 (v : Nat) : Bool := (Fl.of32 v).isFinite
/-- A binary32 value in [lo, hi]. -/
def within32 (v lo hi : Nat) : Bool := finite32 v && Fl.le (Fl.ofNat lo) (Fl.of32 v) && Fl.le (Fl.of32 v) (Fl.ofNat hi)
/-- A finite binary32 value that is not negative. -/
def nonneg32 (v : Nat) : Bool := finite32 v && Fl.le Fl.zero (Fl.of32 v)

def inRange (n lo hi : Nat) : Bool := decide (lo ≤ n) && decide (n ≤ hi)

/-- DAB_PROFILE is a code of R226. -/
def profileOk (n : Nat) : Bool := decide (n < 128) && decide (n % 64 ≤ 45)

/-- The nominal or data bit is long enough, and the jump width fits (R461, R474). -/
def nbtOk (v : Nat) : Bool :=
  let n1 := fieldOf v 24 16 + 1
  let n2 := fieldOf v 15 9 + 1
  inRange n1 2 256 && inRange n2 2 128 && decide (fieldOf v 31 25 + 1 ≤ n2) && decide (1000 ≤ (fieldOf v 8 0 + 1) * (1 + n1 + n2) * 2)
def dbtOk (v : Nat) : Bool :=
  let n1 := fieldOf v 20 16 + 1
  let n2 := fieldOf v 11 8 + 1
  decide (fieldOf v 3 0 + 1 ≤ n2) && decide (200 ≤ (fieldOf v 28 24 + 1) * (1 + n1 + n2) * 2)

namespace State

/-- The register instance exists on this part and in this topology (R2, R19). -/
def instanceOk (s : State) (a : Nat) : Bool :=
  if 0x30000 ≤ a ∧ a < 0x38000 then !s.laneAbsent ((a - 0x30000) / 0x800)
  else if 0x68000 ≤ a ∧ a < 0x68000 + 144 * 0x40 then s.cellExists ((a - 0x68000) / 0x40)
  else true

/-- The register at a byte address, if the module has one there. -/
def regAt (s : State) (a : Nat) : Option RegDesc := if s.instanceOk a then regDesc? a else none

/-! ## Running, for R11 -/

/-- The registers of the block instance that holds a count as running. For CLK_MON_CFG, CLK_SYN_CFG, CLK_SYNC_CFG, ETHp_RX_FILT and
ETHp_MCHASHk no chapter says when their block runs; the model never locks them (log entry 186). -/
def running (s : State) (a : Nat) : Bool :=
  if a < 0x30000 then false
  else if a < 0x40000 then s.mode != COMMISSION
  else if a < 0x50000 then s.mode != LOAD && s.mode != STANDBY
  else if a < 0x60000 then s.kneRunning
  else if a < 0x70000 then s.modRuns
  else if a < 0x70100 then (s.grp 0).run || (s.grp 1).run
  else if a < 0x70200 then (s.grp ((a - 0x70100) / 0x40)).run
  else if a < 0x70400 then (s.grp (hbGroup ((a - 0x70200) / 0x40))).run
  else if a < 0x78000 then (s.grp ((a - 0x70400) / 0x100)).run
  else if a < 0x78100 then (s.grp 0).run || (s.grp 1).run || (List.range 6).any s.direct
  else if a < 0x80000 then (s.grp (hbGroup ((a - 0x78100) / 0x100))).run || s.direct ((a - 0x78100) / 0x100)
  else if 0x98000 ≤ a ∧ a < 0xA0000 then s.recRunning
  else if a = Reg.CLK_SYN_BASE then s.synProfile || s.synHold
  else if a = Reg.CLK_SEG_DUR ∨ a = Reg.CLK_SEG_END then s.riseRun (s.fld Reg.CLK_SEG_ADDR 5 4)
  else if 0xA0100 ≤ a ∧ a < 0xA0200 then
    let n := (a - 0xA0100) / 0x10
    s.flag Reg.CLK_OUT_EN n || s.flag (Reg.CLK_OUTN_STAT n) 0
  else if 0xA0200 ≤ a ∧ a < 0xA8000 then s.riseRun ((a - 0xA0200) / 0x40)
  else if 0xA8000 ≤ a ∧ a < 0xA8100 then s.timeLocked
  else if 0xA8100 ≤ a ∧ a < 0xA8200 then s.linkUp ((a - 0xA8100) / 0x20)
  else if 0xA8200 ≤ a ∧ a < 0xB0000 then s.cmpArmed ((a - 0xA8200) / 0x20)
  else if 0xB0000 ≤ a ∧ a < 0xB8000 then
    let p := (a - 0xB0000) / 0x1000
    let o := (a - 0xB0000) % 0x1000
    if o < 0x40 then s.flag (Reg.ETH_STAT p) 3 else if o < 0x50 then s.flag (Reg.ETH_STAT p) 4 else false
  else if 0xB8000 ≤ a ∧ a < 0xC0000 then
    let c := (a - 0xB8000) / 0x2000
    if a = Reg.CAN_TT_CFG c then s.flag a 31 else !s.canStopped c
  else if 0xC8100 ≤ a ∧ a < 0xD0000 then s.flag a 31
  else false

/-- A write to an RWL register is refused because its block runs. A write that changes only EN of a running event counter is accepted
(R497), and TT_EN of a running matrix may be cleared the same way (log entry 20). -/
def locked (s : State) (a v : Nat) : Bool :=
  s.running a &&
    !((decide (0xC8100 ≤ a) && decide (a < 0xD0000) || a == Reg.CAN_TT_CFG 0 || a == Reg.CAN_TT_CFG 1)
      && v % 2 ^ 31 == s.getN a % 2 ^ 31)

/-! ## Values -/

/-- The odd channel of an INTERLEAVED pair (R320). -/
def adcNameOk (s : State) (c : Nat) : Bool := decide (c < 16) && !s.pairedOdd c

/-- REC_SIGk (R387, R403). -/
def sigOk (s : State) (v : Nat) : Bool :=
  let i := fieldOf v 11 0
  let h := Fl.of16 (v / 65536)
  h.isFinite && Fl.le Fl.zero h &&
  match fieldOf v 14 12 with
  | 0 => i == 0
  | 1 => true
  | 2 => s.adcNameOk i
  | 3 => s.cellExists (i % 256) && decide (fieldOf i 10 8 ≤ 4) && decide (i < 2048)
  | _ => false

/-- The bounds of R219 on MOD_PULSE_CFG. -/
def pulseCfgOk (s : State) (v : Nat) : Bool :=
  let dt := v / 65536
  let m := v % 65536
  let ps := (List.range 4).filter fun i => s.kne.present.getD i false
  decide (dt ≤ 8000) && inRange m 400 20000 && decide (dt + 40 ≤ m) && ps.all fun i => decide (4 * m ≤ 32 * s.kne.periods.getD i 0)

/-- The first n edges carry legal STATEs and rising TIMEs below the limit (R161); unused edges are 0 in the record. -/
def edgesOk (lim : Nat) : Option Nat → List Nat → Bool
  | _, [] => true
  | prev, e :: es =>
    let t := e % 2 ^ 24
    let st := e / 2 ^ 24
    decide (st ≤ 4) && decide (t < lim)
      && (match prev with | some q => decide (q < t) | none => true) && edgesOk lim (some t) es

/-- The jog that the registers would describe: a cell of the map, and edges that R161 admits for the current PERIOD (R228). -/
def jogOk (s : State) (look : Nat → Nat) : Bool :=
  let c := look Reg.MOD_JOG_CFG
  !bitAt c 8 ||
    (s.cellExists (c % 256) && edgesOk (32 * s.periodOfMode s.mode) none ((List.range (fieldOf c 15 12)).map fun i => look (Reg.MOD_JOG_EDGE i)))

/-- MINP and DT of half-bridge h fit (R279). -/
def deadOk (look : Nat → Nat) (h : Nat) : Bool :=
  decide (4 * (20 + 2 * (look (Reg.GDR_HB_DT h) % 1024)) + 40 ≤ look (Reg.PWM_HB_MINP h) % 65536)

def sysValue (a v : Nat) : Bool :=
  if a = Reg.SYS_RESET_REQ then v % 65536 == 0x5E7B
  else if 0x50 ≤ a ∧ a < 0x60 then v % 65536 == 0 || inRange (v % 65536) 0x000A 0x2710
  else true

def lnkValue (s : State) (a v : Nat) : Bool :=
  if a = Reg.LNK_AUX_CFG then
    [v % 16, fieldOf v 11 8].all fun k => decide (k ≤ 13) && !(s.variant == .h && inRange k 6 11)
  else if a < 0x38000 then
    match (a - 0x30000) % 0x800 with
    | 0x08 => decide (fieldOf v 11 8 ≤ 12) && decide (fieldOf v 6 4 ≤ 6) && decide (v % 16 ≤ 12)
    | 0x0C => decide (v % 8 ≤ 3) && !(v % 8 == 3 && bitAt v 4)
    | _ => true
  else true

def modValue (s : State) (look : Nat → Nat) (a v : Nat) : Bool :=
  if a = Reg.MOD_PULSE_CFG then s.pulseCfgOk v
  else if a = Reg.MOD_DTC_CFG then within32 v 0 1000
  else if a = Reg.MOD_ROT_CFG then
    inRange (v / 65536) 50 5000 && inRange (v % 65536) 50 5000 && decide (v / 65536 ≤ v % 65536)
  else if a = Reg.MOD_LFSR_SEED then v % 2 ^ 31 != 0
  else if a = Reg.MOD_EQ_CFG then v % 65536 != 0
  else if a = Reg.MOD_EQ_LIM then inRange (v % 2 ^ 31) 1000 (2 ^ 30)
  else if a = Reg.MOD_DAB_CFG then profileOk (fieldOf v 15 8) && profileOk (v % 256)
  else if a = Reg.MOD_VNOM then within32 v 100 2000
  else if a = Reg.MOD_OL_ARATE then finite32 v && Fl.le Fl.zero (Fl.of32 v) && Fl.le (Fl.of32 v) (Fl.ofDyadic 1 (-1))
  else if 0x60100 ≤ a ∧ a < 0x60118 then finite32 v
  else if a = Reg.MOD_JOG_CFG then decide (fieldOf v 15 12 ≤ 4) && decide (fieldOf v 11 10 ≤ 2) && s.jogOk look
  else if 0x60124 ≤ a ∧ a < 0x60134 then s.jogOk look
  else if a = Reg.MOD_JOG_DAB then profileOk (fieldOf v 23 16)
  else if a = Reg.MOD_SS_ADDR then decide (v % 512 ≤ 435)
  else true

def pwmValue (look : Nat → Nat) (a v : Nat) : Bool :=
  if 0x70100 ≤ a ∧ a < 0x70200 then
    let g := (a - 0x70100) / 0x40
    match (a - 0x70100) % 0x40 with
    | 0x00 => fieldOf v 5 4 != 3 && !(fieldOf v 5 4 == 2 && g == 0) && decide (fieldOf v 19 16 ≤ 7)
    | 0x04 => inRange (v % 2 ^ 24) 400 16777215
    | 0x10 => fieldOf v 7 6 != 3 && fieldOf v 5 4 != 3
    | _ => true
  else if 0x70200 ≤ a ∧ a < 0x70400 then
    let h := (a - 0x70200) / 0x40
    match (a - 0x70200) % 0x40 with
    | 0x00 => fieldOf v 5 4 != 3
    | 0x10 => inRange (v % 65536) 120 40000 && decide (v % 65536 ≤ look (Reg.PWM_HB_RF_CFG h) % 65536) && deadOk look h
    | 0x14 => v / 65536 != 0 && inRange (v % 65536) (look (Reg.PWM_HB_MINP h) % 65536) 40000
    | _ => true
  else if 0x70400 ≤ a ∧ a % 8 = 0 then (List.range (if a < 0x70500 then 4 else 2)).all fun i => fieldOf v (4 * i + 1) (4 * i) != 3
  else true

def gdrValue (s : State) (look : Nat → Nat) (a v : Nat) : Bool :=
  if a = Reg.GDR_CLR then v / 65536 == 0xC1EA && v % 64 != 0
  else if a = Reg.GDR_DIRECT then v % 64 == 0 || s.mode == COMMISSION
  else if a < 0x78100 then true
  else
    let h := (a - 0x78100) / 0x100
    let gcm := fun (g t : Nat) => decide (10 + 2 * (t % 128) + 100 ≤ 100 + 10 * (g % 256))
    match (a - 0x78100) % 0x100 with
    | 0x0C => decide (v % 1024 ≤ 990) && deadOk look h
    | 0x10 => decide (fieldOf v 11 8 ≤ 12) && decide (v % 16 ≤ 10)
    | 0x18 => decide (fieldOf v 13 8 ≤ fieldOf v 21 16)
    | 0x1C => decide (fieldOf v 22 16 ≤ 120) && decide (v % 128 ≤ 120) && gcm (look (Reg.GDR_HB_GCM h)) v
    | 0x24 => decide (fieldOf v 21 16 ≤ 56) && decide (v % 64 ≤ 40)
    | 0x28 => decide (v % 256 ≤ 190) && gcm v (look (Reg.GDR_HB_ADAPT_TGT h))
    | 0x2C => decide (fieldOf v 22 16 ≤ 95) && decide (v % 64 ≤ 15)
    | _ => true

def adcValue (s : State) (a v : Nat) : Bool :=
  if 0x80020 ≤ a ∧ a < 0x80040 then nonneg32 v
  else if a = Reg.ADC_MTR_CFG 0 ∨ a = Reg.ADC_MTR_CFG 1 ∨ a = Reg.ADC_MTR_CFG 2 then
    s.adcNameOk (v % 16) && s.adcNameOk (fieldOf v 11 8)
  else if 0x80100 ≤ a then
    match (a - 0x80100) % 0x80 with
    | 0x00 => fieldOf v 19 18 != 3 && inRange (v % 16) 5 12
    | 0x04 => decide (0x80 ≤ fieldOf v 23 16) && fieldOf v 11 8 != 0 && v % 4 != 3
    | 0x08 => finite32 v
    | 0x0C => finite32 v
    | _ => true
  else true

def hkpValue (a v : Nat) : Bool :=
  if a = Reg.HKP_TCFG then (List.range 8).all fun n => fieldOf v (2 * n + 1) (2 * n) != 3
  else if a = Reg.HKP_NTC then inRange (v % 65536) 2000 6000
  else if a = Reg.HKP_DIODE then decide (v % 65536 ≤ 6554)
  else if a = Reg.HKP_URG ∨ (0xD0100 ≤ a ∧ a < 0xD0180) then kindOk (fieldOf v 7 4) (v % 16)
  else true

def recValue (s : State) (look : Nat → Nat) (a v : Nat) : Bool :=
  let postOk := fun (cfg post : Nat) => decide (post % 2 ^ 18 < capOf (cfg % 128) (fieldOf cfg 11 8))
  if a = Reg.REC_CFG then inRange (v % 128) 1 64 && inRange (fieldOf v 11 8) 1 8 && postOk v (look Reg.REC_POST)
  else if a = Reg.REC_DIV then inRange (v % 2048) 1 1024
  else if a = Reg.REC_POST then postOk (look Reg.REC_CFG) v
  else if a = Reg.REC_TRIGCFG then fieldOf v 15 8 != 0 && fieldOf v 2 1 != 3
  else if a = Reg.REC_LF then inRange (v % 512) 16 400
  else if 0x98200 ≤ a then s.sigOk v
  else true

def clkValue (a v : Nat) : Bool :=
  if a = Reg.CLK_MON_CFG then inRange (v % 256) 1 100
  else if a = Reg.CLK_SYN_BASE then inRange v 0xC8000000 0xF0000000
  else if a = Reg.CLK_SYNC_CFG then v % 4 != 3
  else if 0xA0100 ≤ a ∧ a < 0xA0200 then a % 16 != 0 || inRange (v % 2 ^ 17) 2 65536
  else if 0xA0200 ≤ a ∧ a % 0x40 = 4 then finite32 v
  else true

def timValue (a v : Nat) : Bool :=
  if a = Reg.TIM_SET_NS then decide (v % 2 ^ 30 ≤ 999999999)
  else if a = Reg.TIM_CTRL then v % 4 != 3
  else if a = Reg.TIM_SRV_CFG then inRange (fieldOf v 24 16) 1 500
  else if a = Reg.TIM_SRV_THR then v / 65536 != 0 && v % 65536 != 0
  else if a = Reg.TIM_SRV_HOLD then v % 65536 != 0
  else if Reg.TIM_SRV_KP0 ≤ a ∧ a ≤ Reg.TIM_SRV_KI1 then nonneg32 v
  else if a = Reg.TIM_SRV_OFFSET then finite32 v
  else if 0xA8200 ≤ a ∧ (a - 0xA8200) % 0x20 = 8 then v == 0 || decide (1000 ≤ v)
  else true

def ethValue (a v : Nat) : Bool :=
  match (a - 0xB0000) % 0x1000 with
  | 0x30 => v % 16 == 0 && inRange v 0x02000000 0x023FFFFF
  | 0x40 => v % 16 == 0 && inRange v 0x02000000 0x023FFFFF
  | 0x34 => [8, 16, 32, 64, 128, 256, 512, 1024].contains (v % 2048)
  | 0x44 => [8, 16, 32, 64, 128, 256, 512, 1024].contains (v % 2048)
  | _ => true

def canValue (a v : Nat) : Bool :=
  match (a - 0xB8000) % 0x2000 with
  | 0x10 => nbtOk v
  | 0x14 => dbtOk v
  | 0x24 => decide (50 ≤ v % 65536)
  | _ => true

/-- The value lies within the field table of the register, and within the rules that bind it (R95, R536). Reserved bits are cut off
before (R9). -/
def valueOk (s : State) (look : Nat → Nat) (a v : Nat) : Bool :=
  if a < 0x10000 then sysValue a v
  else if a < 0x30000 then true
  else if a < 0x40000 then s.lnkValue a v
  else if a = Reg.PTN_CTRL then !(bitAt v 1 && !s.isLead) && !(bitAt v 0 && !(s.isLead && s.partnerInStep))
  else if a < 0x60000 then true
  else if a < 0x70000 then s.modValue look a v
  else if a < 0x78000 then pwmValue look a v
  else if a < 0x80000 then s.gdrValue look a v
  else if a < 0x88000 then s.adcValue a v
  else if a = Reg.FLT_CLR then !s.fltClrBad v
  else if a = Reg.FLT_SW then fieldOf v 25 24 != 3
  else if a < 0x98000 then true
  else if a < 0xA0000 then s.recValue look a v
  else if a < 0xA8000 then clkValue a v
  else if a < 0xB0000 then timValue a v
  else if a < 0xB8000 then ethValue a v
  else if a < 0xC0000 then canValue a v
  else if 0xC8100 ≤ a ∧ a < 0xD0000 then decide (v % 1024 ≤ 0x1FF)
  else if 0xD0000 ≤ a then hkpValue a v
  else true

/-- What every register would hold after the writes, the last write of an address winning. -/
def after (s : State) (ws : List (Nat × Nat)) (a : Nat) : Nat :=
  match (ws.reverse.find? fun (x : Nat × Nat) => x.1 == a) with
  | some x => x.2
  | none => s.getN a

end State
end Sys2Proof.Machine
end

