-- ==== Sys2Proof/Machine/Modes.lean ====
section
/-!
DEFINITION. Mode requests (R44-R52, R65), sessions and debug access as far as modes and reset end them (R87, R100), and what a
reset source does (R53-R58, R60).
-/
namespace Sys2Proof.Machine
namespace State

/-! ## Mode rules of step 8 of R90 -/

/-- Both cores' watchdogs that R59 asks for run. -/
def wdtsOn (s : State) : Bool :=
  [s.sys.modeCore, s.sys.logCore].all fun c => match c with
    | some n => s.wdtOn n
    | none => true

/-- The transition stands in the table of R46 and its condition holds. -/
def pathOk (s : State) (m : Nat) (en : Bool) (target : Nat) : Bool :=
  if m = SAFE then target == LOAD || target == COMMISSION || target == STANDBY
      || (target == ENERGIZE && s.fld Reg.SAF_OUT 19 18 == 3)
  else if m = LOAD ∨ m = COMMISSION then target == SAFE
  else if m = ENERGIZE then target == SAFE || ((target == RUNFULL || target == RUNFAST) && en)
  else if m = RUNFULL then target == SAFE || target == RUNFAST
  else if m = RUNFAST then target == SAFE || target == RUNFULL
  else target == SAFE

/-- The partner stands in the way of STANDBY (R65). -/
def pairAwake (s : State) : Bool :=
  s.paired && !s.absent && (match s.ptn.status with | some p => p.mode != SAFE | none => true)

def tripLatched (s : State) : Bool := s.flag Reg.FLT_STAT 31

/-- FORBIDDEN, VALUE, FOLLOWER, NO_PATH, BUSY, WDT_OFF and DEBUG_OPEN in the order of R90; 0 passes. While a STANDBY entry's save runs the
module is in SAFE and is judged so, but for the wake command, which asks for SAFE and ends the entry (R67, R68; log entry 16). -/
def modeCheck (s : State) (target : Nat) (wake : Bool) : Nat :=
  let eng := engineMode target
  if decide (3 ≤ target) && !s.flag Reg.SYS_MODE_PERM target || eng && !s.kne.present.getD (progOf target) false then 0x0F
  else if eng && !s.progValid target then 0x0D
  else if eng && s.isFollow then 0x11
  else if wake && target == SAFE && s.entryOpen then 0
  else if !s.pathOk s.mode (s.flag Reg.SYS_MODE 12) target then 0x10
  else if s.tripLatched && (target == ENERGIZE || target == STANDBY) || (target == STANDBY && s.pairAwake) then 0x14
  else if eng && !s.wdtsOn then 0x13
  else if eng && s.flag Reg.TRU_STAT 30 then 0x1C
  else 0

/-- Steps 8 and 10 for a mode request: the state at the start of the tick, then the present one (R32, R90). -/
def requestCheck (s : State) (target : Nat) : Nat :=
  match s.opening.modeCheck target true with
  | 0 => if s.modeCheck target true = 0 then 0 else 0x15
  | r => r

/-! ## Boundary transitions (R46, R49) -/

/-- The cycle number of the first boundary at least two cycles of the current mode after this tick (R46). -/
def requestCycle (s : State) : Nat :=
  let p := s.periodOfMode s.mode
  let t := s.time64
  let due := fun (b : Nat) => decide ((16 * p : Int) ≤ diff64 b t)
  let k := if due s.tim.next then 0 else if due (gridFrom p (s.tim.next + 8 * p)) then 1 else 2
  (s.tim.cycleNext + k) % 2 ^ 32

/-- A boundary transition waits; one that already waits is superseded. R49 speaks of a second request that replaces a first; that a signed
request supersedes a forced RIDE-THROUGH that waits, and a forced one a request, is the model's choice (log entries 65, 207). -/
def pendFor (s : State) (target reason cyc keyid counter : Nat) : State :=
  let s := match s.sys.pend with
    | some p => s.logRecord { type := 0x0002, code := s.mode * 16 + p.target, result := 3, reason := 0x1E, keyid := p.keyid,
                              counter := p.counter, detail := leBytes 4 p.atCycle }
    | none => s
  ({ s with sys := { s.sys with pend := some { target, reason, atCycle := cyc, keyid, counter } } } : State).setFlag Reg.SYS_MODE 3 true

/-- The engine's modes are entered: the modulator clears, the engine starts at the next boundary (R199, R233). -/
def enterEnergize (s : State) : State :=
  let s := s.modClear
  { s with kne := { s.kne with startDue := true, startTick := s.tickNo } }

/-- A mode request accepted while the module is awake and no STANDBY entry is open (R46, R65, R254). -/
def modeChange (s : State) (target keyid counter : Nat) : State :=
  if target = SAFE then (s.enterSafe 1 keyid counter).safeForPair
  else if target = STANDBY then
    let s := s.lanesIdle.kneStop
    { s with sys := { s.sys with saving := true, stbyKeyid := keyid, stbyCounter := counter } }
  else if target = LOAD then s.setMode LOAD 1 keyid counter
  else if target = COMMISSION then (s.setMode COMMISSION 1 keyid counter).modClear
  else if target = ENERGIZE then (s.setMode ENERGIZE 1 keyid counter).enterEnergize
  else s.pendFor target 1 s.requestCycle keyid counter

/-- An accepted mode request: SAFE wakes the module or ends a STANDBY entry (R67, R68); another mode reached from SAFE while the save runs
ends the entry as well, and the module makes the transition (log entry 16). -/
def modeRequest (s : State) (target keyid counter : Nat) : State :=
  if target = SAFE ∧ (s.entryOpen ∨ s.mode = STANDBY) then s.wake 1
  else if s.mode = STANDBY ∨ (s.sys.saving ∧ target = STANDBY) then s
  else if s.sys.saving then s.abandonEntry.modeChange target keyid counter
  else s.modeChange target keyid counter

/-! ## Sessions (R86, R87) -/

/-- TRU_SESS_* and TRU_STAT.SESSIONS show the slots. -/
def sessShow (s : State) : State :=
  let s := s.setFld Reg.TRU_STAT 10 8 (s.tru.sessions.countP fun x => x.held.isSome)
  (List.range 4).foldl (fun s n =>
    match (s.tru.sessions.getD n {}).held with
    | some x => s.putWords (Reg.TRU_SESS_ID n) [x.id, x.keyid, x.left, x.perm]
    | none => s.putWords (Reg.TRU_SESS_ID n) [0, 0, 0, 0]) s

/-- The session of a slot ends; the slot remembers its identifier. -/
def sessEnd (s : State) (n : Nat) : State :=
  let f := fun (x : SessSlot) => match x.held with | some h => { held := none, ended := h.id } | none => x
  ({ s with tru := { s.tru with sessions := modNth f n s.tru.sessions } } : State).sessShow

def sessEndAll (s : State) : State := [0, 1, 2, 3].foldl sessEnd s

/-! ## Reset (R53-R60) -/

/-- What the fuses and MRAM show in TRU registers (R70, R77, R88, R109). -/
def fusedShow (s : State) : State :=
  let f := s.fuses
  let s := s.setFlag Reg.TRU_STAT 31 f.ownerHash.isSome
  let s := s.setFld Reg.TRU_STAT 22 16 f.secver
  let s := (s.putN Reg.TRU_UID_LO f.uid).putN Reg.TRU_UID_HI (f.uid / 2 ^ 32)
  let s := s.putBytes (Reg.TRU_DEVPUB 0) 24 f.devPub
  let s := s.putBytes (Reg.TRU_OWNHASH 0) 12 (f.ownerHash.getD (List.replicate 48 0))
  (s.putN Reg.TRU_CTR_LO s.tru.ctr).putN Reg.TRU_CTR_HI (s.tru.ctr / 2 ^ 32)

/-- The log's registers as MRAM gives them; n is the number of records in it (R105, R106, R509). While it holds none LOG_HEAD reads 0, its
reset value: R109 gives it as the digest of the latest record, and there is none (the model's choice, log entry 212). -/
def logFromMram (s : State) (n : Nat) : State :=
  let s := s.putN Reg.LOG_SEQ n
  let s := s.putN Reg.LOG_OLDEST (if n ≤ 16384 then 0 else n - 16384)
  let s := s.setFld Reg.LOG_STAT 31 16 (min ((n - 1) / 16384) 0xFFFF)
  if n = 0 then s else s.putBytes (Reg.LOG_HEAD 0) 8 (sha256 (s.bytesAt (0x01600000 + (n - 1) % 16384 * 64) 64))

/-- SYS_RESET_CAUSE after a reset by the source of a bit (R69). A source that asserts while the module is in reset adds its bit to the
same reset. -/
def causeAfter (s : State) (bit : Nat) : Nat :=
  let c := s.getN Reg.SYS_RESET_CAUSE
  if bit = 0 then 1
  else
    let c := putField c bit bit 1
    if s.sys.phase = .inReset then c else putField c 31 24 (satInc (fieldOf c 31 24) 0xFF)

/-- A DEBUG record (R100, R103). R103 lists the DETAIL fields without their places; DURATION at offset 4, as in the payload of R100, is the
model's choice (log entry 184). -/
def debugRecord (s : State) (code keyid counter : Nat) : State :=
  s.logRecord { type := 0x0006, code, keyid, counter, detail := leBytes 1 (s.fld Reg.TRU_DBG_STAT 3 0) ++ leBytes 1 (s.fld Reg.TRU_DBG_STAT 8 8)
                                              ++ [0, 0] ++ leBytes 4 s.tru.dbgDuration }

/-- What a reset leaves of a switch: it is off, and a soft turn-off runs to its end (R303). -/
def switchKept (w : Switch) : Switch := if w.soft then { soft := true, softFor := w.softFor, softOff := true, edgeOff := w.edgeOff, offAt := w.offAt, low := false } else {}

/-- A reset source asserts (R53-R55): everything but the island, MRAM, the fuses, the pins and what R69, R106, R239, R309, R355 and R509 keep
is at its reset value. Every switch turns off (R306). What SRAM held is lost; it reads 0 until it is written (log entry 17). Open debug access closes with a record (R100),
which is being written, like any other record on its way, when the reset stops writing (R107, R509). -/
def resetModule (s : State) (bit : Nat) : State :=
  let s := (if s.flag Reg.TRU_STAT 30 then s.debugRecord 0 0 0 else s).interruptLog.interruptRun
  let por := decide (bit = 0)
  let s := (List.range 6).foldl (fun s h => s.legOff h (32 * s.tickNo)) s
  let mram := fun (a : Nat) => decide (0x01000000 ≤ a) && decide (a < 0x01800000)
  let stat := if por then 0 else
    s.fld Reg.SYS_MRAM_STAT 28 28 * 2 ^ 28 + min (s.fld Reg.SYS_MRAM_STAT 15 0 + b2n s.tru.copying) 0xFFFF
  let n := s.logNext
  let t : State := {
    pending := s.pending, freeCtr := s.freeCtr, tickNo := s.tickNo, variant := s.variant, fuses := s.fuses,
    mem := s.mem.filter fun c => mram c.1,
    eccBad := s.eccBad.filter mram,
    island := { s.island with lines := 0 },
    ptn := { storedTerm := s.ptn.termMram, termMram := s.ptn.termMram },
    tru := { ctr := s.tru.ctrMram, ctrMram := s.tru.ctrMram, promote := s.tru.promote, promoteBy := s.tru.promoteBy },
    clk := { refGone := s.clk.refGone },
    recd := { pinIn := s.recd.pinIn, extLow := s.recd.extLow },
    gdr := if por then {} else { legs := s.gdr.legs.map fun l => { hi := switchKept l.hi, lo := switchKept l.lo } },
    log := { journal := s.log.journal, openEntry := s.log.openEntry, openRun := s.log.openRun },
    sys := { supplyBad := por || s.sys.supplyBad, supplyTick := if por then s.tickNo else s.sys.supplyTick, nresetLow := s.sys.nresetLow, nresetFell := s.sys.nresetFell,
             nresetHeld := s.sys.nresetHeld, released := s.tickNo, mirrorTick := s.tickNo, tickIdx := s.sys.tickIdx } }
  let t := (t.putN Reg.SYS_RESET_CAUSE (s.causeAfter bit)).fusedShow.logFromMram n
  let t := t.putN Reg.SYS_MRAM_STAT stat
  if por then t
  else
    let t := (t.putN Reg.LOG_GAPS (s.getN Reg.LOG_GAPS)).setFld Reg.SYS_RAIL_STAT 6 0 (s.fld Reg.SYS_RAIL_STAT 6 0)
    let t := (List.range 6).foldl (fun t h =>
      (t.put (Reg.GDR_HB_FLT h) (s.get (Reg.GDR_HB_FLT h))).setFlag Reg.GDR_FLT_SUM h (s.gdrLatched h)) t
    (((List.range 15).filter fun k => s.fltLatched (0x1A + k)).foldl
      (fun t k => t.setFlag (Reg.FLT_LATCH ((0x1A + k) / 32)) ((0x1A + k) % 32) true) t).fltShow

end State
end Sys2Proof.Machine
end

