-- ==== Sys2Proof/Machine/Submit.lean ====
section
/-!
DEFINITION. How a command reaches verification (R81, R89, R93, R94, R97), how it ends for its sender (R103, R457), and the other
controls of TRU and LOG that need no commit: closing debug access (R100), the attestation request (R108).
-/
namespace Sys2Proof.Machine

/-- Fields of a command's header (R81). -/
def Cmd.opcode (c : Cmd) : Nat := leAt c.hdr 6 2
def Cmd.counter (c : Cmd) : Nat := leAt c.hdr 8 8
def Cmd.form (c : Cmd) : Nat := leAt c.hdr 0x18 1
def Cmd.flags (c : Cmd) : Nat := leAt c.hdr 0x19 1
def Cmd.keyid (c : Cmd) : Nat := leAt c.hdr 0x1C 4
def Cmd.len (c : Cmd) : Nat := leAt c.hdr 0x20 4

/-- The COMMIT payload that a stage gives (R94). -/
def Stage.payload (g : Stage) : List Byte :=
  leBytes 4 g.entries.length ++ leBytes 4 (if g.run.isEmpty then 0 else g.runAddr) ++ leBytes 4 g.run.length ++ leBytes 4 0
    ++ g.entries.flatMap (fun e => leBytes 4 e.1 ++ leBytes 4 e.2.toNat) ++ g.run

namespace State

/-! ## The queue (R89) -/

/-- Commands that wait behind the one being verified. -/
def waiting (s : State) : Nat := if s.tru.verifying then s.tru.queue.length else s.tru.queue.length - 1

/-- STATE of a source: 2 verifying for the command in front, 1 queued for the others. -/
def showStates (s : State) : Nat → List Cmd → State
  | _, [] => s
  | st, c :: cs => (if c.src < 5 then s.setFld (Reg.TRU_CMT_STAT c.src) 2 0 st else s).showStates 1 cs

/-- TRU_STAT.QUEUE and the states of the commands in the queue. -/
def queueShow (s : State) : State :=
  (s.setFld Reg.TRU_STAT 2 0 (min s.waiting 4)).showStates (if s.tru.verifying then 1 else 2) s.tru.queue

/-- The COMMAND record of a command (R103) and its SEQ, 0xFFFFFFFF if none could be formed (R106). -/
def cmdRecord (s : State) (src : Nat) (hdr : List Byte) (reason : Nat) : Nat × State :=
  let seq := s.getN Reg.LOG_SEQ
  let s := s.logRecord { type := 0x0001, code := leAt hdr 6 2, result := b2n (reason != 0), reason, keyid := leAt hdr 0x1C 4,
                         counter := leAt hdr 8 8, detail := leBytes 1 src ++ slice hdr 0x30 8 }
  if s.getN Reg.LOG_SEQ = seq then (0xFFFFFFFF, s)
  else (seq, if reason = 0 then s else s.putN Reg.LOG_LAST_REFUSED seq)

/-- A command has been accepted (reason 0) or refused: its record, and TRU_CMT_STATs with DONE or the Uzopex response. -/
def cmdEnd (s : State) (c : Cmd) (reason : Nat) : State :=
  let (seq, s) := s.cmdRecord c.src c.hdr reason
  let s := s.evt (if reason = 0 then 0x006 else 0x007)
  if c.src < 5 then
    let s := (s.setFld (Reg.TRU_CMT_STAT c.src) 15 8 reason).setFld (Reg.TRU_CMT_STAT c.src) 2 0 (if reason = 0 then 3 else 4)
    s.setEvt (Reg.TRU_CMT_STAT c.src) 16 (26 + c.src)
  else s.uzRespond c.port c.reply reason seq c.counter c.opcode

/-- The place of a source among commands of one tick: the HPI, C0-C3, ETH0, ETH1 (R89). -/
def cmdRank (c : Cmd) : Nat := if c.src < 5 then c.src else 5 + c.port

/-- A command of this tick takes its place: behind every command of an earlier tick, and in the order of the sources within its own (R89). -/
def insertCmd (c : Cmd) : List Cmd → List Cmd
  | [] => [c]
  | d :: ds => if d.tick = c.tick ∧ cmdRank c < cmdRank d then c :: d :: ds else d :: insertCmd c ds

/-- A command arrives: it joins the queue; where more than four wait then, the last one is refused with QUEUE_FULL (R89). R109 does not say what
REASON reads while STATE is 1 or 2: it reads 0 from the arrival on (the model's choice, log entry 210). -/
def arrive (s : State) (c : Cmd) : State :=
  let s := if c.src < 5 then s.setFld (Reg.TRU_CMT_STAT c.src) 15 8 0 else s
  let t : State := { s with tru := { s.tru with queue := insertCmd { c with tick := s.tickNo } s.tru.queue } }
  if 4 < t.waiting then
    match t.tru.queue.getLast? with
    | some l => (({ t with tru := { t.tru with queue := t.tru.queue.dropLast } } : State).queueShow).cmdEnd l 0x16
    | none => t
  else t.queueShow

/-- The command in front leaves the queue. -/
def dequeue (s : State) : State := ({ s with tru := { s.tru with queue := s.tru.queue.drop 1, runOn := false } } : State).queueShow

/-! ## GO (R81, R97) -/

def inShared (a : Nat) : Bool := decide (0x02000000 ≤ a) && decide (a < 0x02400000)

/-- A field of n bytes at a in shared core RAM; one that does not lie within it reads 0 (R81). -/
def sharedField (s : State) (a n : Nat) : List Byte := if inShared a && inShared (a + n - 1) then s.bytesAt a n else List.replicate n 0

/-- The header at a: each field that lies within shared core RAM, 0 for the others (R81). -/
def sharedHdr (s : State) (a : Nat) : List Byte :=
  [(0, 4), (4, 2), (6, 2), (8, 8), (16, 8), (24, 1), (25, 1), (26, 2), (28, 4), (32, 4), (36, 12), (48, 48)].flatMap fun f => s.sharedField (a + f.1) f.2

/-- A GO of source k: 0 HPI, 1-4 C0-C3. -/
def go (s : State) (k : Nat) : State :=
  let p := s.getN (Reg.TRU_CMT_PTR k)
  let hdr := s.sharedHdr p
  if s.tru.queue.any fun c => c.src == k then (s.cmdRecord k hdr 0x14).2.evt 0x007
  else
    let included := bitAt (leAt hdr 0x19 1) 0
    let commit := leAt hdr 6 2 == 1
    let body := if included then 288 else 192
    let plen := if commit then 0 else leAt hdr 0x20 4
    let placed := p % 8 == 0 && inShared p && decide (p + body + plen ≤ 0x02400000)
    let g := s.tru.stages.getD k {}
    let c : Cmd := {
      src := k, port := 0, reply := [], hdr,
      auth := if placed then s.bytesAt (p + 96) 96 else [],
      key := if placed && included then s.bytesAt (p + 192) 96 else [],
      payload := if commit then g.payload else if placed then s.bytesAt (p + body) plen else [],
      badFormat := !placed, stageBad := commit && (g.ovf || g.order) }
    (s.stageClear k).arrive c

/-! ## Stages (R92, R93) -/

def showStage (s : State) (k : Nat) : State :=
  let g := s.tru.stages.getD k {}
  (s.putN (Reg.TRU_STG_STAT k) (g.entries.length + b2n g.ovf * 2 ^ 16 + b2n g.order * 2 ^ 17)).putN (Reg.TRU_STG_MLEN k) g.run.length

/-- n bytes of v written within a word, from byte i on. -/
def patch (w : List Byte) (i n v : Nat) : List Byte := w.take i ++ (leBytes n v ++ w.drop (i + n)).take (4 - i)

/-- A write of n bytes in the MRAM window lands in the stage (R93). -/
def stageMram (s : State) (k addr n v : Nat) : State :=
  let g := s.tru.stages.getD k {}
  let word := addr / 4 * 4
  let len := g.run.length
  let g' : Stage :=
    if len ≠ 0 ∧ word + 4 = g.runAddr + len then { g with run := g.run.take (len - 4) ++ patch (g.run.drop (len - 4)) (addr % 4) n v }
    else if len = 0 ∨ (word = g.runAddr + len ∧ len + 4 ≤ 65536) then
      { g with runAddr := if len = 0 then word else g.runAddr, run := g.run ++ patch (s.bytesAt word 4) (addr % 4) n v }
    else { g with order := true }
  ({ s with tru := { s.tru with stages := modNth (fun _ => g') k s.tru.stages } } : State).showStage k

/-! ## Debug access (R100, R492) -/

/-- Access closes: triggers are cleared and halted harts resume (R100, R492). -/
def closeDebug (s : State) : State :=
  if !s.flag Reg.TRU_STAT 30 then s
  else
    let s := s.debugRecord 0 0 0
    let s := (s.setFlag Reg.TRU_STAT 30 false).putN Reg.TRU_DBG_STAT 0
    [0, 1, 2, 3].foldl (fun s n =>
      let s := s.setCore n fun c => { c with trig := [] }
      if (s.coreSt n).halted then s.debugResume n else s) s

/-! ## Attestation (R108) -/

/-- A GO of LOG_ATT_GO: without effect while STATE is 1. R108 does not say which LOG_HEAD and LOG_SEQ the signature covers; those at the GO are
the model's choice (log entry 180). -/
def attGo (s : State) : State :=
  if s.fld Reg.LOG_ATT_STAT 1 0 = 1 then s
  else
    let a := (s.getBytes (Reg.LOG_ATT_NONCE 0) 8, s.getBytes (Reg.LOG_HEAD 0) 8, (s.getN Reg.LOG_SEQ + 2 ^ 32 - 1) % 2 ^ 32)
    ({ s with tru := { s.tru with att := some a } } : State).setFld Reg.LOG_ATT_STAT 1 0 1

end State
end Sys2Proof.Machine
end

