-- ==== Sys2Proof/Machine/RegWrite.lean ====
section
/-!
DEFINITION. Register reads and writes (R7-R14, R92, R536): what a write of each register does beside storing its value, the access types,
and the decision that every direct write and every window write passes.
-/
namespace Sys2Proof.Machine

/-- The instance and offset of an address in an array of n areas of a stride. -/
def inArray (base stride n a : Nat) : Option (Nat × Nat) :=
  if base ≤ a ∧ a < base + stride * n then some ((a - base) / stride, (a - base) % stride) else none

/-- Bits of a and b. -/
def maskAnd (a b : Nat) : Nat := maskOf 32 fun i => bitAt a i && bitAt b i
/-- Bits of a that b lacks. -/
def maskWithout (a b : Nat) : Nat := maskOf 32 fun i => bitAt a i && !bitAt b i

namespace State

/-! ## What a write does beside storing -/

/-- A watchdog counts from now on: a kick (R59). That a commit of SYS_WDT_CFGn restarts the count as well, of a watchdog that already runs too,
is the model's choice (log entry 208). -/
def wdtRestart (s : State) (n : Nat) : State :=
  let paused := (s.sys.wdtPaused.getD n none).isSome
  { s with sys := { s.sys with wdtKick := modNth (fun _ => s.tickNo) n s.sys.wdtKick,
                               wdtPaused := modNth (fun _ => if paused then some 0 else none) n s.sys.wdtPaused } }

/-- A write of SYS_WDT_KICKn (R59). -/
def wdtWrite (s : State) (n key : Nat) : State :=
  if !s.wdtOn n then s
  else if key % 65536 = 0x4B1C then s.wdtRestart n
  else s.resetModule (4 + n)

/-- SYS registers. -/
def sysEffect (s : State) (keyid counter a v : Nat) : State :=
  if a = Reg.SYS_MODE_REQ then s.modeRequest (v % 8) keyid counter
  else if a = Reg.SYS_MRAM_CLR then (if bitAt v 0 then s.mramClr else s)
  else if a = Reg.SYS_TEXT_CLR then (if bitAt v 0 then s.textClr else s)
  else match inArray (Reg.SYS_WDT_CFG 0) 4 4 a, inArray (Reg.SYS_WDT_KICK 0) 4 4 a with
    | some (n, _), _ => s.wdtRestart n
    | _, some (n, _) => s.wdtWrite n v
    | _, _ => s

/-- TRU and LOG controls (R97, R100, R108). -/
def truEffect (s : State) (a v : Nat) : State :=
  if a = Reg.TRU_DBG_LOCK then (if bitAt v 0 then s.closeDebug else s)
  else if a = Reg.LOG_ATT_GO then (if bitAt v 0 then s.attGo else s)
  else match inArray 0x11000 0x100 5 a with
    | some (k, 0x08) => if bitAt v 0 then s.stageClear k else s
    | some (k, 0x10) => if bitAt v 0 then s.go k else s
    | _ => s

/-- Auxiliary or partner lanes follow LNK_AUX_CFG or PTN_CFG (R110, R117); a lane in TEST stays there, and without a valid Recipe every lane
stays electrically idle (R64). -/
def auxLanes (s : State) (lanes : List Nat) : State :=
  if !s.sys.recipeOk then s else lanes.foldl (fun s n =>
    if s.laneInUse n then (if s.laneState n = 0 then s.setLaneState n 3 else s)
    else if s.laneState n ≤ 2 ∨ s.laneState n = 6 then s else s.setLaneState n 0) s

/-- SNAP of LNK_SNAP_ALL (R125). -/
def lnkSnapAll (s : State) : State := (List.range 16).foldl lnkSnap s

/-- LNK registers (R126, R130, R131, R168). -/
def lnkEffect (s : State) (a v : Nat) : State :=
  if a = Reg.LNK_SNAP_ALL then (if bitAt v 0 then s.lnkSnapAll else s)
  else if a = Reg.LNK_AUX_CFG then ((s.auxLanes [14, 15]).auxWritten 0).auxWritten 1
  else match inArray 0x30000 0x800 16 a with
    | some (n, 0x0C) => s.writeLnkTest n v
    | some (n, 0x30) =>
      let s := if bitAt v 0 then s.lnkSnap n else s
      let s := if bitAt v 1 then s.lnkClrPrbs n else s
      if bitAt v 2 then s.lnkClrCode n else s
    | some (n, 0x34) => if bitAt v 0 then s.lnkInj n else s
    | some (n, 0x68) => if bitAt v 0 then s.mbyClr n else s
    | some (n, 0x6C) => s.tlmSnap n (v % 16)
    | _ => s

/-- A change of PAIRED: the pair's state starts again, but for the stored term (R239) and what PTN_STAT shows of the head and the lanes;
without a partner the module is LEAD and its chains are single-headed (R134, R238). -/
def pairedChanged (s : State) : State :=
  let s := { s with ptn := { storedTerm := s.ptn.storedTerm, termMram := s.ptn.termMram } }
  let s := (s.putN Reg.PTN_STAT (maskAnd (s.getN Reg.PTN_STAT) 0x08460000)).loneLead
  (s.usedChains.foldl (fun s c => s.setFlag (Reg.LNK_CH_CFG c) 9 (!s.paired)) s).auxLanes [12, 13]

/-- PRESET: the LEAD asks its partner to reset (R265). -/
def partnerReset (s : State) : State := s.setPtn fun p => { p with resetReq := true }

/-- PTN registers (R259, R265, R266). -/
def ptnEffect (s : State) (a old v : Nat) : State :=
  if a = Reg.PTN_CFG then (if bitAt old 8 = bitAt v 8 then s else s.pairedChanged)
  else if a = Reg.PTN_CTRL then
    let s := s.putN a 0
    let s := if bitAt v 0 then s.yieldNow true else s
    if bitAt v 1 then s.partnerReset else s
  else if a = Reg.PTN_CNT_CLR then (if bitAt v 0 then s.ptnCntClr else s)
  else s

/-- ARM of a PWM group; an earlier one that has not transferred stays in force (R274). -/
def pwmArm (s : State) (g : Nat) : State :=
  let armed := s.flag (Reg.PWM_G_STAT g) 1
  (s.setFlag (Reg.PWM_G_STAT g) 1 true).setGrp g fun x =>
    { x with armTick := if armed then x.armTick else s.tickNo, armLast := s.tickNo }

/-- A write of PWM_Gg_CTRL; one with START and STOP both set is ignored (R285). -/
def pwmCtrl (s : State) (g v : Nat) : State :=
  if bitAt v 0 && bitAt v 1 then s
  else
    let s := if bitAt v 2 then s.pwmArm g else s
    if bitAt v 0 then s.pwmStart g else if bitAt v 1 then s.groupStop g else s

/-- A software commutation event (R281). -/
def maskSwEvent (s : State) (g : Nat) : State := if s.maskSource g 0 then s.commutate g (32 * s.tickNo) else s

/-- PWM registers (R272-R284). -/
def pwmEffect (s : State) (a old v : Nat) : State :=
  if a = Reg.PWM_CNT_CLR then (if bitAt v 0 then s.pwmCntClr else s)
  else if a = Reg.PWM_CTRL then s.pwmResume.pwmDriveAll
  else match inArray 0x70100 0x40 2 a with
    | some (g, 0x08) => s.pwmCtrl g v
    | some (g, 0x10) =>
      let s := if bitAt v 0 && !bitAt old 0 then s.maskEnter g (fieldOf v 19 16) else s
      (groupHbs g).foldl (fun s h => s.pwmDrive h (32 * s.tickNo)) s
    | some (1, 0x00) => (if fieldOf old 5 4 = fieldOf v 5 4 ∧ fieldOf old 19 16 = fieldOf v 19 16 then s else s.synFresh).pwmDriveAll
    | some (g, 0x18) => if bitAt v 0 then s.maskSwEvent g else s
    | _ => if a < 0x70400 ∧ a % 0x40 ≠ 0 then s else s.pwmDriveAll

/-- Direct mode of half-bridge h is switched on or off: both switches are off until an input changes (R293). -/
def directSwitch (s : State) (h : Nat) : State :=
  let s := (s.legOff h (32 * s.tickNo)).setLeg h fun l => { l with a := false, b := false, conflict := false }
  (s.legStat h).pwmDrive h (32 * s.tickNo)

/-- GDR registers (R292, R293, R299, R310, R311). -/
def gdrEffect (s : State) (a old v : Nat) : State :=
  if a = Reg.GDR_CLR then s.gdrClear (v % 64)
  else if a = Reg.GDR_DIRECT then ((List.range 6).filter fun h => bitAt old h != bitAt v h).foldl directSwitch s
  else if a = Reg.GDR_CNT_CLR then (if bitAt v 0 then s.gdrCntClr else s)
  else if a = Reg.GDR_SNAP then (if bitAt v 0 then s.histFreeze else s)
  else match inArray 0x78100 0x100 6 a with
    | some (h, o) =>
      if a = Reg.GDR_HB_DIRSW h then s.pwmDrive h (32 * s.tickNo)
      else if (s.grp (hbGroup h)).run then (if a = Reg.GDR_HB_DRIVE h then s.driveWritten h else s)
      else if a = Reg.GDR_HB_DT h ∨ a = Reg.GDR_HB_ADAPT_TGT h then s.putAct a (s.get a)
      else if a = Reg.GDR_HB_DRIVE h then (s.putAct a (s.get a)).stepsFromDrive h
      else if o = 0 then s.pwmDrive h (32 * s.tickNo)
      else if a = Reg.GDR_HB_ADAPT h ∧ !bitAt v 0 then s.stepsFromDrive h
      else s
    | none => s

/-- MASK of ADC_RESYNC: the decimators restart at the next boundary (R317). -/
def adcResync (s : State) (mask : Nat) : State :=
  { s with adc := { s.adc with resync := (s.tickNo, mask % 2 ^ 16) :: s.adc.resync } }

/-- A write of ADC_MTR_CTRL: CLR first, then SNAP (R335). -/
def meterCtrl (s : State) (v : Nat) : State :=
  let s := if bitAt v 1 then s.meterClear else s
  if bitAt v 0 then s.meterSnap else s

/-- SNAP of ADC_SNAP_ALL (R337). -/
def adcSnapAll (s : State) : State := (List.range 16).foldl chSnap s

/-- ADC and HKP registers (R317, R332, R335, R337, R338). -/
def adcEffect (s : State) (a v : Nat) : State :=
  if a = Reg.ADC_RESYNC then s.adcResync (v % 65536)
  else if a = Reg.ADC_SNAP_ALL then (if bitAt v 0 then s.adcSnapAll else s)
  else if a = Reg.ADC_CNT_CLR then (if bitAt v 0 then s.adcCntClr else s)
  else if a = Reg.ADC_MTR_CTRL then s.meterCtrl v
  else match inArray 0x80100 0x80 16 a with
    | some (c, 0x38) => if bitAt v 0 then s.chSnap c else s
    | _ => s

/-- FLT registers (R350, R354, R360, R361). -/
def fltEffect (s : State) (a v : Nat) : State :=
  if a = Reg.FLT_Q_POP then (if bitAt v 0 then s.fltPop else s)
  else if a = Reg.FLT_CLR then s.fltClr v
  else if a = Reg.FLT_SW then s.fltSw v
  else if a = Reg.FLT_SRC_SEL then s.fltSnap (v % 256)
  else if a = Reg.FLT_CNT_CLR then (if bitAt v 0 then s.fltCntClr else s)
  else s

/-- A write of REC_CTRL; one with ARM and STOP both set is ignored whole (R392). -/
def recCtrl (s : State) (v : Nat) : State :=
  if bitAt v 0 && bitAt v 1 then s
  else
    let s := if bitAt v 0 then s.recArm else if bitAt v 1 then s.recStop else s
    if bitAt v 2 then s.recTrigger 0 0 0 0xFF 0xFFFFFFFF else s

/-- REC registers (R392-R394, R402). -/
def recEffect (s : State) (a v : Nat) : State :=
  if a = Reg.REC_CTRL then s.recCtrl v
  else if a = Reg.REC_CFG then s.geomShow
  else if a = Reg.REC_SEG_REL then s.recRelease (v % 256)
  else if a = Reg.REC_CNT_CLR then (if bitAt v 0 then s.recCntClr else s)
  else s

/-- A write of CLK_RISE_CTRL; START and STOP of one profile together are ignored (R419). -/
def riseCtrl (s : State) (v : Nat) : State :=
  [0, 1, 2, 3].foldl (fun s p =>
    if bitAt v p && !bitAt v (4 + p) then s.riseStart p 0 else if bitAt v (4 + p) && !bitAt v p then s.riseStop p else s) s

/-- CLK registers (R411-R422). -/
def clkEffect (s : State) (a v : Nat) : State :=
  if a = Reg.CLK_SYN_CFG then s.synCfgWritten
  else if a = Reg.CLK_SYN_BASE then s.baseWritten
  else if a = Reg.CLK_SYNC_SW then
    let s := if bitAt v 1 then s.syncArm else s
    if bitAt v 0 then s.syncSw else s
  else if a = Reg.CLK_RISE_CTRL then s.riseCtrl v
  else if a = Reg.CLK_SEG_ADDR then s.segShow
  else if a = Reg.CLK_SEG_DUR ∨ a = Reg.CLK_SEG_END then s.segStore
  else if a = Reg.CLK_CNT_CLR then (if bitAt v 0 then s.clkCntClr else s)
  else if 0xA0100 ≤ a ∧ a < 0xA0200 then s.freqShow
  else s

/-- TIM registers (R429, R436, R441, R443, R445). -/
def timEffect (s : State) (a v : Nat) : State :=
  if a = Reg.TIM_CTRL then
    let s := s.putN a 0
    if bitAt v 0 then s.timSet else if bitAt v 1 then s.timStep else s
  else if a = Reg.TIM_UTC then s.utcShow
  else if a = Reg.TIM_SRV_CFG then s.sourceShow
  else if a = Reg.TIM_SRV_OFFSET then s.ptpSample (BitVec.ofNat 32 v)
  else if a = Reg.TIM_CNT_CLR then (if bitAt v 0 then s.timCntClr else s)
  else match inArray 0xA8100 0x20 2 a, inArray 0xA8200 0x20 8 a with
    | some (p, o), _ => if o = Reg.TIM_TXQ_POP 0 - 0xA8100 ∧ bitAt v 0 then s.txPop p else s
    | _, some (k, o) =>
      if o ≠ Reg.TIM_CMP_CTRL 0 - 0xA8200 then s
      else if bitAt v 0 && !bitAt v 1 then s.cmpArm k else if bitAt v 1 && !bitAt v 0 then s.cmpDisarm k else s
    | _, _ => s

/-- ETH registers (R454, R471). -/
def ethEffect (s : State) (a v : Nat) : State :=
  match inArray 0xB0000 0x1000 2 a with
  | some (p, o) =>
    if o = Reg.ETH_RING_CTRL 0 - 0xB0000 then s.ringCtrl p v
    else if o = Reg.ETH_CNT_CLR 0 - 0xB0000 then (if bitAt v 0 then s.ethCntClr p else s)
    else s
  | none => s

/-- A write of CANc_CTRL; START and STOP together are ignored (R473). -/
def canCtrl (s : State) (c v : Nat) : State :=
  let s := if bitAt v 0 && !bitAt v 1 then s.canStart c else if bitAt v 1 && !bitAt v 0 then s.canStop c else s
  if bitAt v 2 then s.canRecover c else s

/-- CAN registers (R465-R470, R473). -/
def canEffect (s : State) (a v : Nat) : State :=
  match inArray 0xB8000 0x2000 2 a with
  | some (c, o) =>
    if a = Reg.CAN_CTRL c then s.canCtrl c v
    else if a = Reg.CAN_TXREQ c 0 then s.canTxReq c 0 v
    else if a = Reg.CAN_TXREQ c 1 then s.canTxReq c 1 v
    else if a = Reg.CAN_TXCAN c 0 then s.canTxCan c 0 v
    else if a = Reg.CAN_TXCAN c 1 then s.canTxCan c 1 v
    else if a = Reg.CAN_TT_CFG c then s.ttWritten c
    else if a = Reg.CAN_CNT_CLR c then (if bitAt v 0 then s.canCntClr c else s)
    else if o = 0x0C then (s.fdCancel c).canShow c
    else s
  | none => s

/-- ICU and EVC registers (R482, R495-R497). -/
def icuEffect (s : State) (a old v : Nat) : State :=
  if a = Reg.ICU_CTRL then
    let s := if bitAt v 0 then s.icuClr else s
    s.icuSwi (fieldOf v 15 8)
  else if a = Reg.EVC_SNAP then s.evcSnap v
  else if a = Reg.EVC_CLR then s.evcClr v
  else match inArray (Reg.EVC_CFG 0) 0x10 32 a with
    | some (k, _) => s.evcWritten k old
    | none => s

/-- What a write of v to the register at a, which held old, does beside storing it. -/
def effect (s : State) (keyid counter a old v : Nat) : State :=
  if a < 0x10000 then s.sysEffect keyid counter a v
  else if a < 0x30000 then s.truEffect a v
  else if a < 0x40000 then s.lnkEffect a v
  else if a < 0x50000 then s.ptnEffect a old v
  else if a < 0x60000 then s
  else if a < 0x70000 then (if a = Reg.MOD_CNT_CLR ∧ bitAt v 0 then s.modCntClr else s)
  else if a < 0x78000 then s.pwmEffect a old v
  else if a < 0x80000 then s.gdrEffect a old v
  else if a < 0x88000 then s.adcEffect a v
  else if a < 0x90000 then s.fltEffect a v
  else if a < 0x98000 then s
  else if a < 0xA0000 then s.recEffect a v
  else if a < 0xA8000 then s.clkEffect a v
  else if a < 0xB0000 then s.timEffect a v
  else if a < 0xB8000 then s.ethEffect a v
  else if a < 0xC0000 then s.canEffect a v
  else if a < 0xD0000 then s.icuEffect a old v
  else if a = Reg.HKP_URG then s.hkUrgent (fieldOf v 7 4) (v % 16)
  else s

/-! ## The access types (R11, R12, R13) -/

/-- A write of RW1C bits; a bit that an event set in this tick stays (R12). -/
def writeClear (s : State) (a v : Nat) : State :=
  let clear := maskOf 32 fun i => bitAt v i && !s.sys.setNow.contains (a, i)
  let t := s.putN a (maskWithout (s.getN a) clear)
  if a = Reg.SYS_WERR then (if bitAt clear 31 then t.setFld a 15 0 0 else t)
  else if a = Reg.SYS_RESET_CAUSE then (if bitAt clear 2 then t.setFld a 23 20 0 else t)
  else match inArray 0x30000 0x800 16 a with
    | some (n, 0x04) => t.lnkSum n
    | _ => t

/-- The registers whose writes hold per byte or per lane what the effect stores itself. -/
def storesItself (a : Nat) : Bool :=
  (decide (Reg.ICU_SRCCFG 0 ≤ a) && decide (a < Reg.ICU_SRCCFG 80))
    || (decide (0x30000 ≤ a) && decide (a < 0x38000) && (a - 0x30000) % 0x800 == 0x0C)

/-- A CMPA that belongs to the Kneader keeps its value (R276). -/
def kneHolds (s : State) (a : Nat) : Bool := (List.range 6).any fun h => a == Reg.PWM_HB_CMPA h && s.kneOwned h

/-- The write of v to an existing register that may be written takes effect by its access type. Reserved bits and read-only fields
keep their values (R9). keyid and counter are those of the command that carries it, or 0. -/
def applyWrite (s : State) (keyid counter a v : Nat) : State :=
  match regDesc? a with
  | none => s
  | some d =>
    let v := maskAnd v d.mask
    let old := s.getN a
    let new := maskOf 32 fun i => if bitAt d.mask i then bitAt v i else bitAt old i
    match d.acc with
    | .ro => s
    | .rw1c => s.writeClear a v
    | .wo => s.effect keyid counter a old v
    | .rwb => if s.kneHolds a then s.pwmEvt 7 else (s.putShadow a (BitVec.ofNat 32 new)).effect keyid counter a old v
    | _ =>
      if storesItself a then
        (if decide (0xC0000 ≤ a) then s.icuCfgWrite ((a - Reg.ICU_SRCCFG 0) / 4) v else s.effect keyid counter a old v)
      else (s.putN a new).effect keyid counter a old v

/-! ## The decision over a direct write (R10, R11, R38, R39, R92, R536) -/

/-- ADC_MTR_CTRL is free while CLR is 0 (R335). -/
def freeWrite (d : RegDesc) (a v : Nat) : Bool := d.free || (a == Reg.ADC_MTR_CTRL && !bitAt v 1)

/-- The rules that refuse open-loop output and jog while a cell's voltage is above the commissioning limit (R43). -/
def commissionOk (s : State) (a v : Nat) : Bool :=
  !(s.mode == COMMISSION && (a == Reg.MOD_OL_CTRL && bitAt v 0 || a == Reg.MOD_JOG_CFG && bitAt v 8)
    && s.mby.latched.any fun r => Fl.lt (Fl.of32 (s.getN (Reg.FLT_THR 0))) r.vcap)

/-- The value passes its field table and the rules that judge it. -/
def writeOk (s : State) (look : Nat → Nat) (a v : Nat) : Bool := s.valueOk look a v && s.commissionOk a v

/-- Blocks whose clock STANDBY gates (R66). A direct write to their registers is lost then (log entry 21). -/
def gatedBlock (a : Nat) : Bool :=
  (decide (0x30000 ≤ a) && decide (a < 0x88000)) || (decide (0x98000 ≤ a) && decide (a < 0xA0000))
    || (decide (0xC8000 ≤ a) && decide (a < 0xD0000))

/-- A direct write of an existing register: refused, or in effect (R11, R536). -/
def directReg (s : State) (d : RegDesc) (src a v : Nat) : State :=
  let v' := maskAnd v d.mask
  if s.mode = STANDBY ∧ gatedBlock a then s
  else if d.acc == .rwl && s.locked a v' then s.refuseLocked src a
  else if d.acc != .rw1c && !s.writeOk (s.after [(a, v')]) a v' then s.refuseValue src a
  else (s.applyWrite 0 0 a v).testBy src a

/-- A write to an address in the range of a block. What lands in a stage is the value without its reserved bits, so the payload built at GO
and its digest hold it so; R93 does not say (the model's choice, log entry 187). CLR of ICU_CTRL is free and acts; its other bits land in the
stage (R496; log entry 231). -/
def writeBlock (s : State) (src : Src) (a v : Nat) : State :=
  if 0x90000 ≤ a ∧ a < 0x98000 then s.werr (srcCode src) 5 a
  else match regDesc? a with
    | none => s.werr (srcCode src) 2 a
    | some d =>
      if !s.instanceOk a then
        s.werr (srcCode src) (if (decide (0x30000 ≤ a) && decide (a < 0x38000) && a % 0x800 == 0) then 7 else 2) a
      else if d.acc == .ro then s.werr (srcCode src) 7 a
      else match src with
        | .hpi =>
          if freeWrite d a v then s.directReg d 0 a v
          else if a = Reg.ICU_CTRL then
            let s := if bitAt v 0 then s.directReg d 0 a 1 else s
            if v / 2 % 2 ^ 31 = 0 then s else s.stageReg 0 a (BitVec.ofNat 32 (maskAnd v (maskWithout d.mask 1)))
          else s.stageReg 0 a (BitVec.ofNat 32 (maskAnd v d.mask))
        | .core n =>
          if d.acc == .rws then s.stageReg (n.val + 1) a (BitVec.ofNat 32 (maskAnd v d.mask)) else s.directReg d (n.val + 1) a v

/-- A write to a coefficient bank: only the inactive one, unless it is locked (R39, R98). What a prediction that runs across a swap has computed
from it stands (R201). -/
def writeBank (s : State) (src : Src) (b a n v : Nat) : State :=
  let locked := match s.tru.bank with | some x => x.bank == b | none => false
  if s.activeBank = b ∨ locked = true then s.werr (srcCode src) 3 a
  else (if s.kneRunning && s.kne.bank == b then s.kneNow else s).setBytes a (leBytes n v)

/-- The CAN message-buffer RAM (R37, R462): cores write it; an HPI write finds no register there. -/
def canRamAt (a : Nat) : Option (Nat × Nat) :=
  match inArray 0xB8000 0x2000 2 a with
  | some (c, o) => if (0x100 ≤ o ∧ o < 0x1900) ∨ (0x1C00 ≤ o ∧ o < 0x2000) then some (c, o) else none
  | none => none

/-- A core's write ends in a bus error; nothing else changes (R7, R38). -/
def busError (s : State) (src : Src) : State := match src with | .hpi => s | .core c => s.coreTrap c.val 7

/-- A direct write of n bytes to an aligned address. The HPI writes whole words (R7). A core access narrower than a word to a register, or
outside the map, ends in a bus error of the core (R7, R38). -/
def writeAt (s : State) (src : Src) (addr width : Nat) (w : Word) : State :=
  let n := match src with
    | .hpi => 4
    | .core _ => if width = 1 ∨ width = 2 then width else 4
  let a := addr / n * n
  let v := w.toNat % 2 ^ (8 * n)
  let isCore := (srcCode src) != 0
  if a < 0xD8000 then
    match canRamAt a with
    | some (c, o) => if isCore then s.canWrite c o (leBytes n v) else s.werr 0 2 a
    | none => if n < 4 then s.busError src else s.writeBlock src a v
  else if 0x00100000 ≤ a ∧ a < 0x00300000 then s.writeBank src 0 a n v
  else if 0x00300000 ≤ a ∧ a < 0x00500000 then s.writeBank src 1 a n v
  else if 0x00500000 ≤ a ∧ a < 0x00B00000 then s.werr (srcCode src) 4 a
  else if 0x01000000 ≤ a ∧ a < 0x01800000 then s.stageMram (srcCode src) a n v
  else if inShared a then s.setBytes a (leBytes n v)
  else match src with
    | .hpi => s.werr 0 6 a
    | .core c => if 0x80000000 ≤ a ∧ a < 0x80040000 then s.setBytes (tcmBase c.val + (a - 0x80000000)) (leBytes n v) else s.busError src

/-- Core n may write: it is out of reset, neither stopped by its shadow nor halted nor asleep; in the state of R64 only C0 is active (R64, R477,
R480, R487, R492). -/
def coreWrites (s : State) (n : Nat) : Bool :=
  let c := s.coreSt n
  (c.released || (n == 0 && !s.sys.recipeOk)) && !c.stopped && !c.halted && !c.asleep

/-- A direct write; a misaligned one of a core raises the address-misaligned exception (R475). A core that does not run writes nothing (R64, R477,
R480). -/
def write (s : State) (src : Src) (addr width : Nat) (w : Word) : State :=
  match src with
  | .hpi => s.writeAt .hpi addr 4 w
  | .core c => if !s.coreWrites c.val then s else if (width = 1 ∨ width = 2 ∨ width = 4) ∧ addr % width = 0 then s.writeAt src addr width w else s.coreTrap c.val 6

/-! ## Reading (R10, R11, R38) -/

/-- What a read of the register at a returns to reader r (0 the HPI, 1-4 C0-C3). -/
def readReg (s : State) (r a : Nat) : Word :=
  match s.regAt a with
  | none => if 0x30000 ≤ a ∧ a < 0x38000 ∧ a % 0x800 = 0 ∧ s.laneAbsent ((a - 0x30000) / 0x800) then 1 else 0
  | some d =>
    if d.acc = .wo then 0
    else if a = Reg.KNE_VRD_DATA then
      let x := s.getN Reg.KNE_VRD_ADDR
      if x < 4096 then s.kneNow.vec x
      else if 0x1000 ≤ x ∧ x < 0x1000 + 48 then s.kneNow.biqSt (x - 0x1000)
      else if 0x2000 ≤ x ∧ x < 0x2000 + s.kne.image.length then s.kne.image.getD (x - 0x2000) 0
      else 0
    else if a = Reg.MOD_IN_DATA then Assoc.get 0 s.mod.words (s.getN Reg.MOD_IN_ADDR)
    else if a = Reg.MOD_SS_DATA then BitVec.ofNat 32 (leAt s.slowImage (4 * s.getN Reg.MOD_SS_ADDR) 4)
    else if a = Reg.TIM_NOW_NS then BitVec.ofNat 32 s.tim.ns
    else if a = Reg.TIM_NOW_SEC then BitVec.ofNat 32 (s.tim.latched.getD r 0)
    else if a = Reg.TIM_NOW_SECH then BitVec.ofNat 32 (s.tim.latched.getD r 0 / 2 ^ 32 % 65536)
    else if Reg.REC_SEG_STAT s.nseg ≤ a ∧ a < Reg.REC_SEG_STAT 8 then 0
    else if a = Reg.PWM_G_SYNPER 0 ∨ (a = Reg.PWM_G_SYNPER 1 ∧ s.tsrc 1 ≠ 2) then 0
    else match inArray (Reg.PWM_HB_CFG 0) 0x40 6 a with
      | some (h, 0) => BitVec.ofNat 32 (putField (s.getN a) 9 9 (b2n (s.kneNamed h)))
      | _ => s.get a

end State
end Sys2Proof.Machine
end

