-- ==== Sys2Proof/Machine/CmdClock.lean ====
section
/-!
DEFINITION. Meanings of the commands of chapter 15: losses and returns of the clocks, SYNC, output enables and Rise profiles.
-/
namespace Sys2Proof.Machine

/-- The REFCLK monitor declares loss (R408), or REFCLK is absent in reset or boot (R406). -/
def execRefclkLoss (s : State) : Host.Outcome State Fault Refusal := event (fun _ => true) (fun s => s.refLoss) s

/-- REFCLK has been free of loss for REF_QUAL ms (R409), or before the handover good for 200 µs (R406). -/
def execRefclkGood (s : State) : Host.Outcome State Fault Refusal :=
  event (fun s => if s.live then s.flag Reg.CLK_STAT 0 && s.elapsed s.clk.lossTick (s.fld Reg.CLK_MON_CFG 7 0 * 1000000) else s.clk.refGone)
    (fun s => s.refGood) s

/-- The system PLL has relocked (ok), or 1 ms after REFCLK became good it has not (R344, R409). -/
def execSysPllRelock (ok : Bool) (s : State) : Host.Outcome State Fault Refusal :=
  event (fun s => s.live && s.pllSettles ok)
    (fun s => if ok then s.sysRelock else s.sysUnlock) s

/-- The system PLL loses lock, or a derived clock leaves its window (R407). In holdover the lock is not judged, and after REFCLK has come
back nothing but a failed relock counts (R408). -/
def execSysPllUnlock (derived : Bool) (s : State) : Host.Outcome State Fault Refusal :=
  event (fun s => s.live && (!s.clk.sysHold || (derived && !s.clk.relocking))) (fun s => s.sysUnlock) s

/-- The SYN loses lock (R416). -/
def execSynLockLoss (s : State) : Host.Outcome State Fault Refusal := event (fun s => s.live) (fun s => s.synHoldEnter) s

/-- The SYN reacquires, with REFCLK good and the system PLL relocked (R417). -/
def execSynReacquire (s : State) : Host.Outcome State Fault Refusal :=
  event (fun s => s.live && s.synHold && !s.clk.reacq && !s.flag Reg.CLK_STAT 0 && !s.clk.sysHold) (fun s => s.synReacquire) s

/-- An edge of the SYNC pin, pos units of 250 ps into the tick (R414). -/
def execSyncPinEdge (rising : Bool) (pos : Nat) (s : State) : Host.Outcome State Fault Refusal :=
  event (fun s => s.live && decide (pos < 32)) (fun s => s.syncPin rising pos) s

/-- SYNC of CLK_SYNC_SW (R414). -/
def execClkSyncSw (src : Src) (s : State) : Host.Outcome State Fault Refusal :=
  event (fun s => s.live) (fun s => s.write src Reg.CLK_SYNC_SW 4 1) s

/-- ARM of CLK_SYNC_SW (R414). -/
def execClkSyncArm (src : Src) (s : State) : Host.Outcome State Fault Refusal :=
  event (fun s => s.live) (fun s => s.write src Reg.CLK_SYNC_SW 4 2) s

/-- A write of CLK_OUT_EN (R413). -/
def execClkOutEn (src : Src) (v : Word) (s : State) : Host.Outcome State Fault Refusal :=
  event (fun s => s.live) (fun s => s.write src Reg.CLK_OUT_EN 4 v) s

/-- START of profile p in CLK_RISE_CTRL (R419). -/
def execRiseStart (src : Src) (p : Fin 4) (s : State) : Host.Outcome State Fault Refusal :=
  event (fun s => s.live) (fun s => s.write src Reg.CLK_RISE_CTRL 4 (BitVec.ofNat 32 (2 ^ p.val))) s

/-- STOP of profile p in CLK_RISE_CTRL (R420). -/
def execRiseStop (src : Src) (p : Fin 4) (s : State) : Host.Outcome State Fault Refusal :=
  event (fun s => s.live) (fun s => s.write src Reg.CLK_RISE_CTRL 4 (BitVec.ofNat 32 (2 ^ (4 + p.val)))) s

/-- DUR of the running segment of profile p has elapsed (R418). -/
def execRiseSegmentEnd (p : Fin 4) (s : State) : Host.Outcome State Fault Refusal :=
  event (fun s => s.live && s.riseDue p.val) (fun s => s.riseSegEnd p.val) s

/-- CLR of CLK_CNT_CLR (R422). -/
def execClkCntClr (src : Src) (s : State) : Host.Outcome State Fault Refusal :=
  event (fun s => s.live) (fun s => s.write src Reg.CLK_CNT_CLR 4 1) s

end Sys2Proof.Machine
end

