-- ==== Sys2Proof/Machine/Cycle.lean ====
section
/-!
DEFINITION. What happens once in every cycle: the boundary (R33, R431), the telemetry deadline (R149, R196), the ends of the Kneader's lists
(R186), of a modulator run (R229), and the arrival of beacons and records (R148-R150).
-/
namespace Sys2Proof.Machine
namespace State

/-! ## The cycle boundary -/

/-- The module is a FOLLOW that takes its mode from the LEAD (R51). -/
def follows (s : State) : Bool :=
  s.isFollow && !s.absent && !s.withdrawn && s.awake && !s.sys.saving && (s.mode == SAFE || engineMode s.mode)

/-- What holds a FOLLOW back (R47). -/
def followHeld (s : State) : Bool := s.tripLatched || !s.wdtsOn || s.flag Reg.TRU_STAT 30

def followMay (s : State) : Bool := s.follows && !s.followHeld

/-- cyc is the cycle c or one after it, by signed difference. -/
def cycleFrom (c cyc : Nat) : Bool := decide (0 ≤ signed 32 ((cyc + 2 ^ 32 - c) % 2 ^ 32))

/-- The mode that the LEAD's MODE, TMODE and TCYCLE give for the cycle cyc, and whether it was announced for the boundary that starts
cyc (R253). -/
def leadMode (p : Nat × Nat × Nat) (cyc : Nat) : Nat × Bool :=
  if engineMode p.2.1 ∧ p.2.1 ≤ RIDETHROUGH ∧ cycleFrom p.2.2 cyc then (p.2.1, p.2.2 == cyc) else (p.1, false)

/-- The mode of the LEAD that a FOLLOW has still to take in the cycle cyc, and whether it was announced for it. -/
def followTarget (s : State) (cyc : Nat) : Option (Nat × Bool) :=
  match s.ptn.lead with
  | none => none
  | some p =>
    let (m, known) := leadMode p cyc
    if s.follows && engineMode m && decide (m ≤ RIDETHROUGH) && m != s.mode then some (m, known) else none

/-- The mode of the cycle cyc, one of the next (R46, R253). -/
def modeAt (s : State) (cyc : Nat) : Nat :=
  match s.sys.pend with
  | some p => if cycleFrom p.atCycle cyc then p.target else s.mode
  | none => match s.followTarget cyc with
    | some (m, _) => if s.followHeld then s.mode else m
    | none => s.mode

/-- A FOLLOW takes the LEAD's mode (R47, R253, R265): IN_STEP clears where the transition was learned late. From SAFE it starts its
engine from words set to +0; a joiner's slow state stays to be adopted, unless both modules enter ENERGIZE at this boundary. -/
def followTake (s : State) (m : Nat) (known : Bool) : State :=
  let fresh := s.mode == SAFE
  let joins := s.joinStep != 0
  let s := s.setMode m 0xA 0 0
  let s := if known then s else s.setInStep false
  if fresh then
    let s := s.enterEnergize
    if joins && !(known && m == ENERGIZE) then s.setFlag Reg.MOD_SS_STAT 16 false else s
  else s

/-- The transition of a boundary that starts cycle cyc (R46, R49, R253). A FOLLOW that is held back leaves its step (R47). -/
def boundaryMode (s : State) (cyc : Nat) : State :=
  match s.sys.pend with
  | some p =>
    if p.atCycle = cyc then
      (({ s with sys := { s.sys with pend := none } } : State).setFlag Reg.SYS_MODE 3 false).setMode p.target p.reason p.keyid p.counter
    else s
  | none => match s.followTarget cyc with
    | some (m, known) => if s.followHeld then s.setInStep false else s.followTake m known
    | none => s

/-- The swap of an accepted BANK_COMMIT at the boundary that starts cycle cyc (R99, R203, R251). -/
def boundarySwap (s : State) (cyc : Nat) : State :=
  match s.tru.bank with
  | none => s
  | some b =>
    if !b.accepted || !(if b.cycle = 0 then b.tick != s.tickNo else b.cycle == cyc) then s
    else
      let s := ({ s with tru := { s.tru with bank := none } } : State).activateBank b.bank
      let s := (s.putN Reg.KNE_SWAP 0).putN Reg.PTN_BDIG (leNat (b.digest.take 4))
      (s.logRecord { type := 0x0009, code := 0x0005, keyid := b.keyid, counter := b.counter,
                     detail := bankDetail b.bank cyc }).judgeSplit

/-- The schedule for boundary b + 1 comes from the U that the modulator and the half-bridges had for b, at a change of the apply latency
from 1 to 2 at b; at a change from 2 to 1 what waits for b + 1 is discarded (R202). -/
def latencyChange (s : State) (old new : Nat) : State :=
  let next := (s.cycle + 1) % 2 ^ 32
  if old = 1 ∧ new = 2 then
    let s := { s with mod := { s.mod with run := some (s.mod.words, s.tickNo, next) } }
    (List.range 6).foldl (fun s h =>
      match (s.hb h).duty.find? fun d => d.1 == s.cycle with
      | some d => s.dutyHold h next d.2
      | none => s) s
  else if old = 2 ∧ new = 1 then
    let s := { s with mod := { s.mod with run := s.mod.run.filter fun r => r.2.2 != next } }
    (List.range 6).foldl (fun s h => s.setHb h fun x => { x with duty := x.duty.filter fun d => d.1 != next }) s
  else s

/-- RWB registers that transfer at the cycle boundary (R193, R206, R236, R334). -/
def cycleShadows : List Nat :=
  [Reg.KNE_TAB_EN, Reg.KNE_BIQ_EN, Reg.ADC_MTR_CFG 0, Reg.ADC_MTR_CFG 1, Reg.ADC_MTR_CFG 2] ++ (List.range 16).map Reg.KNE_REF
    ++ [Reg.MOD_OL_AMP 0, Reg.MOD_OL_AMP 1, Reg.MOD_OL_AMP 2, Reg.MOD_OL_BAL, Reg.MOD_OL_ARATE, Reg.MOD_OL_DAB, Reg.MOD_OL_CTRL, Reg.MOD_JOG_CFG,
        Reg.MOD_JOG_EDGE 0, Reg.MOD_JOG_EDGE 1, Reg.MOD_JOG_EDGE 2, Reg.MOD_JOG_EDGE 3, Reg.MOD_JOG_DAB]

/-- The boundary actions of the engine: change of program, start, hardware words (R172, R199, R201, R419). It starts at the first boundary after
the tick of an entry into ENERGIZE, and in a FOLLOW at the boundary itself at which it takes the LEAD's mode (R253). What a running list has executed by now has read the words of the cycle that ends; while the engine is stopped its words stand (R200). -/
def boundaryEngine (s : State) (changed swapped taken : Bool) : State :=
  let s := if changed || swapped then s.kneChange (!changed) else s
  let u := s.tim.boundUnit - 32 * s.tickNo
  let fresh := engineMode s.mode && (taken || s.kne.startTick != s.tickNo)
  let s := if s.kne.startDue && fresh then (s.kneStart).riseAuto u else s.kneNow
  (if s.kneRunning then s.kneBoundaryWords s.tim.cycleLen else s).riseRefs u

/-- The events of a boundary's tick, which come before its actions (R33): what the half-bridges' edges, their gates and the engine do in it, what
the chains and the pair have shown in the cycle that ends, and what the faults do that these raise. -/
def boundaryEvents (s : State) : State :=
  let ended := s.cycle
  let s := (s.pwmBefore (32 * s.tickNo + s.boundaryUnit)).gdrTick.kneTick
  let s := if s.beaconsRun then s.usedChains.foldl (fun s c => s.chainBoundary ended c) s else s
  drain drainFuel (s.partnerBoundary ended)

/-- A cycle boundary (R33, R146-R148, R166, R168, R203, R228, R241, R248, R276, R317, R431). -/
def cycleBoundary (s : State) : State :=
  let cyc := s.tim.cycleNext
  let s := if s.awake then s.boundaryEvents else s
  let old := s.mode
  let s := s.timBoundary (s.modeAt cyc)
  let s := (s.evt 0x001).irq 32
  if !s.awake then s
  else
    let s := ({ s with mby := { s.mby with frozen := false } } : State).keepRecs
    let s := s.boundaryMode cyc
    let bank := s.activeBank
    let s := s.boundarySwap cyc
    let changed := engineMode old && old != s.mode
    let s := if changed && s.kneRunning then s.latencyChange (latencyOf old) (latencyOf s.mode) else s
    let s := s.transferAll cycleShadows
    let s := s.boundaryEngine changed (s.activeBank != bank) (!engineMode old)
    let s := (s.resyncBoundary).pwmCycle
    let s := s.setDeadline
    let s := s.sendBeacons s.tim.cycleLen
    let s := if s.mode = COMMISSION then { s with mod := { s.mod with run := some ([], s.tickNo, (cyc + 1) % 2 ^ 32), fed := s.mby.latched } } else s
    (s.sendStatus.sendHello).joinAdvance

/-! ## The telemetry deadline -/

/-- A measurement's source value where the source is valid (R182, R196). -/
def measured (s : State) (e : MapEnt) : Option Word :=
  match e.kind with
  | 1 => match s.latchedOf e.index with
    | some r => if (Fl.of32 (r.word e.sub).toNat).isNan then none else some (r.word e.sub)
    | none => none
  | 2 => (s.adcSample e.index).map fun n => BitVec.ofNat 32 n
  | _ => some 0

/-- The hardware writes Y (R196), counts substitutions and judges KNE_STALE (R197). -/
def loadY (s : State) : State :=
  let b := s.activeBank
  let d := s.kneDesc b (progOf s.mode)
  let es := (s.ymap b d).zipIdx
  let vals := es.map fun e => (e.2, s.measured e.1)
  let missing := (vals.filter fun v => v.2.isNone).map (·.1)
  let miss := missing.map fun i => (i, (Assoc.get 0 s.kne.miss i) + 1)
  let limit := d.missLimit
  let beyond := miss.filter fun m => limit != 0 && decide (limit < m.2)
  let s := vals.foldl (fun s v =>
    match v.2 with
    | some w => s.setVec v.1 w
    | none =>
      let h := s.vec (0x180 + v.1)
      if (Fl.of32 h.toNat).isFinite then s.setVec v.1 h else (s.setVec v.1 0).kneEvtNonfinite) s
  let s := { s with kne := { s.kne with miss := miss } }
  let s := (List.range 12).foldl (fun s k =>
    s.putN (Reg.KNE_YVAL k) (maskOf 32 fun i => decide (32 * k + i < d.m) && !missing.contains (32 * k + i))) s
  let s := s.putN Reg.KNE_MISS ((match beyond.head? with | some m => m.1 | none => 0x1FF) * 65536 + missing.length)
  if beyond.any fun m => m.2 == limit + 1 then (s.stick Reg.KNE_EVT 3).pulse 0x81 else s

/-- A telemetry source over a set of records: the condition, and the cell that lies furthest beyond the limit (R346). key is larger
the further beyond; among equals the lowest identifier is named. -/
def cellSource (s : State) (code : Nat) (rs : List TlmRec) (bad : TlmRec → Bool) (key : TlmRec → Fl) (value : TlmRec → Nat) : State :=
  let hit := sortBy (fun (a b : TlmRec) => decide (a.cell < b.cell)) (rs.filter bad)
  match hit with
  | [] => s.setCond code false
  | r :: rest =>
    let w := rest.foldl (fun (m x : TlmRec) => if Fl.lt (key m) (key x) then x else m) r
    s.setCond code true w.cell (value w)

/-- FLT_TH_COMM to FLT_BU_LIMIT in the order of R359. -/
def threshold (s : State) (k : Nat) : Fl := Fl.of32 (s.getN (Reg.FLT_THR k))

/-- Consecutive cycles in which a cell commanded RUN reported BLOCK (R346). -/
def countBlocked (s : State) : State :=
  let one := fun (r : TlmRec) =>
    let ran := s.mby.sent.any fun x => x.1 == s.cycle && x.2.1 == r.cell && leAt x.2.2 2 1 == 1
    if r.modeNow == 0 && ran then some (r.cell, (Assoc.get 0 s.flt.blocked r.cell) + 1) else none
  { s with flt := { s.flt with blocked := s.mby.latched.filterMap one } }

/-- The telemetry sources of the fault manager (R43, R346). -/
def telemetrySources (s : State) : State :=
  let all := s.mby.latched
  let bits := fun (o : Nat) (r : TlmRec) => leAt r.bytes o 4
  let uv := runMode s.mode || (s.mode == ENERGIZE && s.flag Reg.SYS_MODE 12)
  let s := [0, 1, 2].foldl (fun s p =>
    let rs := all.filter fun r => s.chainPhase (r.cell / 12) == p
    let s := s.cellSource (0x30 + p) rs (fun r => Fl.lt (s.threshold 1) r.vcap) (·.vcap) (bits 4)
    let s := s.cellSource (0x33 + p) rs (fun r => Fl.lt (s.threshold 3) r.iarm.abs) (·.iarm.abs) (bits 12)
    s.cellSource (0xF2 + p) rs (fun r => uv && r.modeNow == 1 && Fl.lt r.vcap (s.threshold 2)) (fun r => r.vcap.neg) (bits 4)) s
  let s := s.cellSource 0x36 all (fun r => Fl.lt (s.threshold 4) r.vsec) (·.vsec) (bits 8)
  let s := s.cellSource 0xF5 all (fun r => r.fault != 0) (fun _ => Fl.zero) (·.fault)
  let s := s.countBlocked
  let s := s.cellSource 0xF6 all (fun r => decide (2 ≤ Assoc.get 0 s.flt.blocked r.cell)) (fun _ => Fl.zero) (fun _ => 0)
  let beyond := fun (r : TlmRec) => s.mode == COMMISSION && Fl.lt (s.threshold 0) r.vcap
  let s := if all.any beyond then { s with mod := { s.mod with commStop := true } } else s
  s.cellSource 0x37 all beyond (·.vcap) (bits 4)

/-- v of R358 as a binary32, where the three channels are VALID. -/
def gridAmplitude (s : State) : Option Fl :=
  let cfg := s.getN (Reg.FLT_THR 8)
  match s.adcSample (fieldOf cfg 3 0), s.adcSample (fieldOf cfg 11 8), s.adcSample (fieldOf cfg 19 16) with
  | some a, some b, some c =>
    let sq := fun n => Fl.mul (Fl.of32 n) (Fl.of32 n)
    let sum := Fl.add (Fl.add (sq a) (sq b)) (sq c)
    some (Fl.sqrt32 (Fl.quot (Fl.mul (Fl.ofNat 2) sum) (Fl.ofNat 3)))
  | _, _, _ => none

/-- The grid-fault detector asserts (R46, R51, R358): a module that is not FOLLOW goes to RIDE-THROUGH at the next boundary. -/
def gridAssert (s : State) : State :=
  let s := s.setFlag Reg.FLT_GF_STAT 0 true
  if (s.mode = RUNFULL ∨ s.mode = RUNFAST) ∧ !s.isFollow then s.pendFor RIDETHROUGH 5 s.tim.cycleNext 0 0 else s

/-- The grid-fault detector at a deadline (R358). A deadline at which a channel is not VALID leaves its state as it is: the time with v inside
the band neither grows nor starts again (the model's reading, log entry 227). -/
def gridDetector (s : State) : State :=
  if !s.sys.protInForce then s
  else
    let s := s.setFlag Reg.FLT_GF_STAT 1 s.gridAmplitude.isNone
    match s.gridAmplitude with
    | none => { s with flt := { s.flt with gfLast := none } }
    | some v =>
      let lo := s.threshold 5
      let hi := s.threshold 6
      let hys := s.threshold 7
      let out := Fl.lt v lo || Fl.lt hi v
      let inside := Fl.le (Fl.add lo hys) v && Fl.le v (Fl.sub hi hys)
      let n := if out then s.flt.gfCount + 1 else 0
      let more := match s.flt.gfLast with | some t => s.tickNo - t | none => 0
      let was := s.flag Reg.FLT_GF_STAT 0
      let hold := if inside then s.flt.gfHold + more else 0
      let last := if inside then some s.tickNo else none
      let s := ({ s with flt := { s.flt with gfCount := n, gfHold := hold, gfLast := last } } : State).putN Reg.FLT_GF_AMP (Fl.to32 v)
      let s := s.setFlag Reg.FLT_GF_STAT 2 (was && inside)
      if !was && decide (fieldOf (s.getN (Reg.FLT_THR 8)) 27 24 ≤ n) then s.gridAssert else s

/-- GF_HOLD has passed with v inside the band, the three channels being VALID (R358). -/
def gridRecovered (s : State) : Bool :=
  s.flag Reg.FLT_GF_STAT 0 && !s.flag Reg.FLT_GF_STAT 1 && (match s.flt.gfLast with
    | some t => decide (s.getN (Reg.FLT_THR 9) * 1000000 ≤ (s.flt.gfHold + (s.tickNo - t)) * 8)
    | none => false)

/-- Recovery is reported; RIDE-THROUGH returns to the run mode it was entered from (R46, R358). A LEAD that joined in RIDE-THROUGH from
another mode has none, and stays until the time limit (log entry 183). -/
def gridRecover (s : State) : State :=
  let s := (s.setFlag Reg.FLT_GF_STAT 0 false).setFlag Reg.FLT_GF_STAT 2 false
  if s.mode = RIDETHROUGH ∧ !s.isFollow ∧ runMode s.sys.rtFrom then s.pendFor s.sys.rtFrom 6 s.requestCycle 0 0 else s

/-- The prediction list ends; PRED_SLACK is the time from its end to the deadline of the cycle it is for, 0 where that has passed (R206; log entry
222). A correction that has waited for it begins (R260). -/
def predictionEnd (s : State) : State :=
  let since := (s.listEnd - s.tim.boundUnit + 3) / 4
  let s := s.kneFinish
  let dl := 2 * s.deadlineOf (s.modeAt s.tim.cycleNext)
  let slack := match s.kne.corrWait with
    | some _ => 0
    | none => if s.mby.frozen then 8 * s.tim.cycleLen + dl - since else s.deadlineNs - since
  let s := (s.setFld Reg.KNE_TEND 31 16 (min slack 0xFFFF)).setPhase 0
  match s.kne.corrWait with
  | some w => s.kneCorrBegin w
  | none => s

/-- The running list has ended, or ends in this tick. An end on the edge of two ticks belongs to the later one (log entry 191). -/
def listOver (s : State) : Bool := decide (s.kne.phaseStart ≤ s.tickNo) && decide (s.listEnd < 32 * (s.tickNo + 1))

/-! ## The copy of the LEAD's state -/

/-- The bytes of a copy whose segments have all come: as many as the header of segment 0 gives. -/
def copyImage (segs : List (Nat × Nat × List Byte)) (cyc : Nat) : Option (List Byte) :=
  let one := fun (i : Nat) => (segs.find? fun x => x.1 == cyc && x.2.1 == i).map fun x => x.2.2
  match one 0 with
  | none => none
  | some b =>
    let total := 44 + 4 * leAt b 2 2
    let parts := (List.range ((total + 511) / 512)).map one
    if parts.all Option.isSome then
      let im := parts.flatMap fun o => o.getD []
      if im.length = total then some im else none
    else none

/-- The copy that this FOLLOW waits for is complete once its segments have all come (R246, R251). -/
def copyTake (s : State) : State :=
  match copyImage s.ptn.segs s.ptn.imageCycle with
  | some im => (s.putN Reg.PTN_PBDIG (leAt im 8 4)).judgeSplit.copyComplete im
  | none => s

/-- The image of this cycle is formed; the LEAD sends it, the FOLLOW waits for the copy, or has it already (R246). -/
def imageStart (s : State) : State :=
  let s := s.imageForm.imageSend
  if s.paired && s.isFollow then s.copyTake else s

/-- Missing records of a chain at the deadline (R168, R493). -/
def countMissing (s : State) (c : Nat) : State :=
  let n := (s.cellsOfChain c).countP fun x => (s.latchedOf x).isNone
  if n = 0 then s else (s.putN (Reg.LNK_CNT_MISS c) (min (s.getN (Reg.LNK_CNT_MISS c) + n) 0xFFFFFFFF)).evt (0x020 + c)

/-- Frames of SAFE, LOAD and COMMISSION at the deadline (R147, R207, R228), and the state copy of these modes (R246). In COMMISSION the frame
holds the records of the run that R228 makes at the boundary; entered between a boundary and the deadline, it has none yet and none is
released, which the manual leaves open (DESIGN CHOICE, log entry 217). -/
def idleFrames (s : State) : State :=
  let next := (s.cycle + 1) % 2 ^ 32
  let s := if s.mode = COMMISSION then s else s.modBlock next
  let s := if s.mod.recsCycle = next then s.releaseFrames else s
  s.imageStart

/-- The telemetry deadline (R24, R149, R186, R196, R207, R256, R346, R358, R388, R436). The trips of its telemetry act before the pair's roles are
judged, and these before the grid (R30). A prediction that has ended by now ends here; the samples of the pair are used up. -/
def telemetryDeadline (s : State) : State :=
  let s := if s.kneRunning && s.knePhase == 3 && s.listOver then s.predictionEnd else s
  let s := { s with mby := { s.mby with frozen := true, latched := s.mby.recs.filter fun r => r.cycle == s.cycle && !r.late } }
  let s := (s.evt 0x002).irq 33
  let s := if s.beaconsRun then s.usedChains.foldl countMissing s else s
  let s := if s.beaconsRun && s.sys.protInForce then s.telemetrySources else s
  let s := drainTo 4 drainFuel s
  let s := if s.kneRunning then (s.kneNow).loadY else s
  let s := s.recFrame
  let s := drainTo 5 drainFuel (s.partnerSample).accTests
  let s := s.gridDetector.setPtn fun p => { p with samples := [] }
  if s.kneRunning then s.kneCorrStart else if s.beaconsRun && idleMode s.mode then s.idleFrames else s

/-! ## The Kneader's lists and the modulator -/

/-- Input words of the modulator and words for local half-bridges from U (R183). -/
def outputWords (s : State) (kind : Nat) : List (Nat × Word) :=
  let d := s.kneDesc s.kne.bank s.kne.prog
  ((s.umap s.kne.bank d).zipIdx.filter fun e => e.1.kind == kind).map fun e => (e.1.index, s.vec (0x300 + e.2))

/-- Length of the cycle numbered cyc in 8 ns units: of the one that runs, or of one of the next two from the grids of the modes they will
have, which a change of period makes longer (R431). -/
def ticksOf (s : State) (cyc : Nat) : Nat :=
  let b := s.tim.next
  let p := s.periodOfMode (s.modeAt s.tim.cycleNext)
  let b1 := gridFrom p (b + 8 * p)
  if cyc = s.cycle then s.tim.cycleLen
  else if cyc = s.tim.cycleNext then ((diff64 b1 b).toNat + 7) / 8
  else
    let q := s.periodOfMode (s.modeAt cyc)
    ((diff64 (gridFrom q (b1 + 8 * q)) b1).toNat + 7) / 8

/-- A golden-vector check runs in this cycle (R257). -/
def gvRuns (s : State) : Bool := s.flag Reg.PTN_STAT 16 && !s.ptn.gvDue

/-- A modulator run ends (R207, R229, R257). -/
def modDone (s : State) : State :=
  match s.mod.run with
  | none => s
  | some (ws, _, cyc) =>
    let s := if s.mode = COMMISSION then s.modCommission s.tim.period else s.modRun ws cyc (s.ticksOf cyc) 1
    let s := { s with mod := { s.mod with run := none, endTick := s.tickNo } }
    let s := (s.evt 0x004).irq 35
    if s.mode = COMMISSION then s
    else if s.ptn.gvHeld then { s with mod := { s.mod with hold := true } }
    else s.releaseFrames

/-- U is handed over for the boundary that R25 gives, counted from the cycle whose measurements it comes from, which may have ended (R183, R186,
R276); the last U of a program of latency 2 before a change to latency 1 is discarded (R202). -/
def handOver (s : State) : State :=
  let lat := if s.kne.prog < 2 then 1 else 2
  let after := (s.kne.corrCycle + 1) % 2 ^ 32
  let then' := if after = s.cycle then s.mode else s.modeAt after
  if lat = 2 ∧ engineMode then' ∧ latencyOf then' = 1 then s
  else
    let cyc := (s.kne.corrCycle + lat) % 2 ^ 32
    let s := s.modDone
    let ws := (s.outputWords 1).foldl (fun l e => Assoc.set 0 l e.1 e.2) []
    let s := { s with mod := { s.mod with run := some (ws, s.tickNo, cyc), fed := s.mby.latched } }
    (s.outputWords 2).foldl (fun s e => s.dutyHold e.1 cyc e.2) s

/-- Whether the build-up criteria of the ENERGIZE program are met, after each of its corrections; the manual gives no criteria, so a
free bit says it (log entry 19). -/
def buildUp (s : State) : State :=
  if s.mode = ENERGIZE ∧ !s.flag Reg.SYS_MODE 12 then
    let (f, s) := s.free
    s.setFlag Reg.SYS_MODE 12 (f.getLsbD 0)
  else s

/-- The correction list ends (R186, R194, R195, R206, R246, R257). -/
def correctionEnd (s : State) : State :=
  let ended := s.listEnd
  let s := s.kneFinish.kneSatRegs
  let s := (s.putN Reg.KNE_CYCLE s.kne.corrCycle).setFld Reg.KNE_TEND 15 0 (min ((ended - s.kne.corrUnit) / 4) 0xFFFF)
  let s := (s.evt 0x003).irq 34
  let s := { s with kne := { s.kne with image := s.kneImage } }
  let bad := s.kneNonfinite
  let s := if bad then s.kneEvtNonfinite.pulse 0x80 else s.handOver.buildUp
  let check := s.ptn.gvDue
  let s := if check then s.setPtn fun p => { p with gvDue := false, gvHeld := true, gvTick := s.tickNo } else s
  let s := if check && s.isLead then s.imageForm else s.imageStart
  let s := s.setPhase (if bad then 0 else 3)
  { s with kne := { s.kne with phaseStart := s.tickNo + (if check then 39 else 1) } }

/-! ## Beacons and telemetry records -/

/-- This module receives a frame of k code-groups on the chain: heads run, and its lane is UP, or was when the frame was in progress. -/
def chainHears (s : State) (c k : Nat) : Bool := decide (c < 12) && s.beaconsRun && s.chainUsed c && s.lineHears c k

/-- The effect g of a frame on a chain lane that begins with this code-group. -/
def chainFrame (s : State) (c : Nat) (first : Sym) (gs : List Nat) (g : State → List Byte → Bool → State) : State :=
  match s.lineFrame c gs with
  | (t, some (x, f, e)) => if x = first then g t f e else t
  | (t, none) => t

/-- A frame was errored or failed its CRC (R168). -/
def frameError (s : State) (c : Nat) (f : List Byte) (errored : Bool) : State :=
  if errored || !frameCrcOk f then s.inc (Reg.LNK_CNT_FRMERR c) else s

/-- The beacon comes from the other head, or in a single-headed chain from head A itself (R148). -/
def peerOf (s : State) (c : Nat) : Nat := if s.chainLoop c then s.headNo else 1 - s.headNo

/-- A beacon arrives, stamp units of 250 ps after the module's own boundary (R148, R166, R434). -/
def peerBeacon (s : State) (c : Nat) (f : List Byte) (errored : Bool) (stamp : Nat) : State :=
  let h := frameHead f
  if !frameValid c f errored 16 || h.type != 1 then s.frameError c f errored
  else if h.head != s.peerOf c then s
  else
    let m := min stamp 0xFFFF
    let s := if s.chainLoop c then s else s.setFld (Reg.LNK_PEER_M c) 31 16 (leAt f 0x1E 2)
    let s := s.setChain c fun x => { x with peerSeen := true, ownM := m, peerRun := if x.peerSeen then x.peerRun else x.peerRun + 1 }
    let s := s.chainHeal c
    if s.chainLoop c then s else s.beaconTime (leAt f 0x10 6) (leAt f 0x18 4) h.cycle (((s.tim.boundUnit + stamp : Nat) : Int) - 32 * s.tickNo)

/-- The checks of R149 but for HEAD and the copy. -/
def recordFits (s : State) (c : Nat) (h : FrameHead) (body : List Byte) : Bool :=
  let cell := leAt body 0 1
  h.cycle == s.cycle && cell / 12 == c && s.cellExists cell

/-- A record of the cell has been accepted in this cycle (R149). -/
def recordHeld (s : State) (cell : Nat) : Bool := s.mby.recs.any fun r => r.cell == cell && r.cycle == s.cycle

/-- A direct copy on time of a record that came relayed is discarded, but the record has reached this module directly (R149, R248). -/
def recordDirect (s : State) (cell : Nat) : State :=
  { s with mby := { s.mby with recs := s.mby.recs.map fun r => if r.cell == cell && r.cycle == s.cycle then { r with relayed := false } else r } }

/-- A telemetry frame arrives, ns after the boundary (R149, R150, R249). What R149 discards is counted; a valid frame of another TYPE, as the own
command frame turned back in a single-headed chain, is no record and is not counted (DESIGN CHOICE, log entry 218). -/
def recordReceive (s : State) (c : Nat) (f : List Byte) (errored : Bool) (ns : Nat) : State :=
  let h := frameHead f
  if !frameValid c f errored 48 || h.type != 3 then s.frameError c f errored
  else
    let body := slice f 16 48
    let cell := leAt body 0 1
    let late := s.mby.frozen || decide (s.deadlineNs < ns)
    if h.head != s.headNo || !s.recordFits c h body then s.inc (Reg.LNK_CNT_DISC c)
    else if s.recordHeld cell then (if late then s else s.recordDirect cell).inc (Reg.LNK_CNT_DISC c)
    else
      let r : TlmRec := { cell := cell, cycle := s.cycle, late := late, ns := ns, relayed := false, bytes := body }
      let s := s.acceptRec r
      if r.late then s else s.relay r

end State
end Sys2Proof.Machine
end

