-- ==== Sys2Proof/Machine/CmdControl.lean ====
section
/-!
DEFINITION. Meanings of the commands of the control cycle: the boundary, the deadline, the ends of the Kneader's lists and of a modulator
run (chapters 1, 5, 6, 7).
-/
namespace Sys2Proof.Machine

/-- A cycle boundary (R33, R431). -/
def execCycleBoundary (s : State) : Host.Outcome State Fault Refusal :=
  event (fun s => s.sys.phase != .inReset && s.boundaryDue) (fun s => s.cycleBoundary) s

/-- The telemetry deadline of the cycle (R24, R137, R149, R196). -/
def execTelemetryDeadline (s : State) : Host.Outcome State Fault Refusal :=
  event (fun s => s.awake && !s.mby.frozen && s.reached s.deadlineNs) (fun s => s.telemetryDeadline) s

/-- The correction list ends (R186). -/
def execCorrectionEnd (s : State) : Host.Outcome State Fault Refusal :=
  event (fun s => s.awake && s.kneRunning && (s.knePhase == 1 || s.knePhase == 2) && s.listOver) (fun s => s.correctionEnd) s

/-- The prediction list ends (R170, R186). -/
def execPredictionEnd (s : State) : Host.Outcome State Fault Refusal :=
  event (fun s => s.awake && s.kneRunning && s.knePhase == 3 && s.listOver) (fun s => s.predictionEnd) s

/-- A modulator run ends (R229). -/
def execModulatorDone (s : State) : Host.Outcome State Fault Refusal :=
  event (fun s => s.awake && s.mod.run.isSome) (fun s => s.modDone) s

/-- CLR of MOD_CNT_CLR (R236). -/
def execModCntClr (s : State) : Host.Outcome State Fault Refusal := event (fun s => s.awake) (fun s => s.modCntClr) s

end Sys2Proof.Machine
end

