-- ==== Sys2Proof/Machine/Recipe.lean ====
section
/-!
DEFINITION. The Recipe (R73-R77, R537): the image's layout, the sections' contents and where they land, and the checks of R76. The checks of
values are made on the module as the sections would leave it, so that each value is judged beside its neighbours.
-/
namespace Sys2Proof.Machine

/-- A directory entry (R74). -/
structure Sect where
  type : Nat
  flags : Nat
  off : Nat
  len : Nat
  deriving DecidableEq, Repr

/-- Slots in MRAM (R35). -/
def activeSlot : Nat := 0x01000000
def pendingSlot : Nat := 0x01300000

/-- Registers and the section offset of their values: TYPE 0x0005 (R235). -/
def modWords : List (Nat × Nat) := [(0x00, Reg.MOD_CTRL), (0x04, Reg.MOD_PULSE_CFG), (0x08, Reg.MOD_DTC_CFG), (0x0C, Reg.MOD_ROT_CFG),
  (0x10, Reg.MOD_LFSR_SEED), (0x14, Reg.MOD_EQ_CFG), (0x18, Reg.MOD_EQ_LIM), (0x1C, Reg.MOD_DAB_CFG), (0x20, Reg.MOD_VNOM)]

/-- TYPE 0x0008: the time servo and the port delays (R459). -/
def timWords : List (Nat × Nat) := [(0x1D4, Reg.TIM_SRV_CFG), (0x1D8, Reg.TIM_SRV_THR), (0x1DC, Reg.TIM_SRV_HOLD), (0x1E0, Reg.TIM_SRV_KP0),
  (0x1E4, Reg.TIM_SRV_KI0), (0x1E8, Reg.TIM_SRV_KP1), (0x1EC, Reg.TIM_SRV_KI1), (0x1F0, Reg.TIM_ETH_CFG 0), (0x1F4, Reg.TIM_ETH_CFG 1)]

/-- TYPE 0x000A without the segments (R421). -/
def clkWords : List (Nat × Nat) :=
  [(0x00, Reg.CLK_MON_CFG), (0x04, Reg.CLK_SYN_CFG), (0x08, Reg.CLK_SYN_BASE), (0x0C, Reg.CLK_SYNC_CFG), (0x10, Reg.CLK_OUT_EN)]
    ++ (List.range 8).flatMap (fun n => [(0x20 + 8 * n, Reg.CLK_OUTN_CFG n), (0x24 + 8 * n, Reg.CLK_OUTN_DLY n)])
    ++ (List.range 4).flatMap (fun p => [(0x60 + 8 * p, Reg.CLK_RISEP_CFG p), (0x64 + 8 * p, Reg.CLK_RISEP_V0 p)])

/-- TYPE 0x000D: RWB registers of the measurement part (R336). -/
def measWords : List (Nat × Nat) :=
  (List.range 16).flatMap (fun c => [(0x10 + 16 * c, Reg.ADC_CH_CFG c), (0x14 + 16 * c, Reg.ADC_CH_OW c),
      (0x18 + 16 * c, Reg.ADC_CH_GAIN c), (0x1C + 16 * c, Reg.ADC_CH_OFFSET c)])
    ++ (List.range 8).map (fun k => (0x110 + 4 * k, Reg.ADC_XTOL k))
    ++ (List.range 3).map (fun p => (0x130 + 4 * p, Reg.ADC_MTR_CFG p))
    ++ [(0x13C, Reg.HKP_TCFG), (0x140, Reg.HKP_NTC), (0x144, Reg.HKP_DIODE)]
    ++ (List.range 32).map (fun k => (0x150 + 4 * k, Reg.HKP_SEQ k))

/-- TYPE 0x000D: the recorder part (R404). -/
def recWords : List (Nat × Nat) :=
  [(0x200, Reg.REC_CFG), (0x204, Reg.REC_DIV), (0x208, Reg.REC_POST), (0x20C, Reg.REC_TRIGCFG), (0x210, Reg.REC_LF)]
    ++ (List.range 64).map (fun k => (0x220 + 4 * k, Reg.REC_SIG k))

/-- The default assignment of R21: chains per phase. -/
def defaultPer (v : Variant) : Nat := if v = .h then 2 else 4

namespace State

/-! ## Reading an image -/

def zeroAt (s : State) (a n : Nat) : Bool := allZero (s.bytesAt a n)

/-- The used entries of the directory. -/
def sects (s : State) (b : Nat) : List Sect :=
  (List.range (s.memN (b + 6) 1)).map fun i =>
    let a := b + 0x100 + 16 * i
    { type := s.memN a 2, flags := s.memN (a + 2) 2, off := s.memN (a + 4) 4, len := s.memN (a + 8) 4 }

def sectsOf (s : State) (b ty : Nat) : List Sect := (s.sects b).filter fun x => x.type == ty

/-- The address of the section of a type, if the image has one. -/
def sectAt (s : State) (b ty : Nat) : Option Nat := (s.sectsOf b ty).head?.map fun x => b + x.off

/-- No section overlaps the one before it; the entries are sorted by offset (R74). -/
def sectsApart : Nat → List Sect → Bool
  | _, [] => true
  | e, x :: xs => decide (e ≤ x.off) && x.off % 64 == 0 && sectsApart (x.off + x.len) xs

/-- MAGIC, FORMAT, lengths, ranges, directory and reserved bytes (step 2 of R76). -/
def formatOk (s : State) (b : Nat) : Bool :=
  let total := s.memN (b + 8) 4
  let n := s.memN (b + 6) 1
  s.memN b 4 == 0x50524350 && s.memN (b + 4) 2 == 1 && decide (1 ≤ n) && decide (n ≤ 32) && decide (s.memN (b + 7) 1 ≤ 1)
    && decide (0x400 ≤ total) && decide (total ≤ 0x300000) && decide (s.memN (b + 0xC) 1 ≤ 64)
    && decide (1 ≤ s.memN (b + 0xD) 1) && decide (s.memN (b + 0xD) 1 ≤ 3)
    && s.zeroAt (b + 0xE) 2 && s.zeroAt (b + 0x18) 8 && s.zeroAt (b + 0xB0) 80 && s.zeroAt (b + 0x360) 32
    && s.zeroAt (b + 0x100 + 16 * n) (16 * (32 - n))
    && ((List.range n).all fun i => s.zeroAt (b + 0x10C + 16 * i) 4)
    && sectsApart 0x380 (s.sects b)
    && (s.sects b).all fun x => decide (x.off + x.len ≤ total) && decide (x.flags < (if x.type = 0x0B then 16 else 1))

/-! ## Where sections land -/

def putAll (s : State) (a : Nat) (l : List (Nat × Nat)) : State := l.foldl (fun t x => t.putN x.2 (s.memN (a + x.1) 4)) s

/-- RWB registers take their value in shadow and active register alike. -/
def putAllAct (s : State) (a : Nat) (l : List (Nat × Nat)) : State :=
  (s.putAll a l) |> fun t => l.foldl (fun u x => u.putAct x.2 (BitVec.ofNat 32 (s.memN (a + x.1) 4))) t

/-- The deadline that a DL field stands for (R137). -/
def dlOf (n : Nat) : Nat := if n = 0 then 1750 else n

/-- The topology map in force (R21, R134, R136). -/
def applyTopology (s : State) (at' : Option Nat) : State :=
  let field := fun (o n : Nat) => match at' with | some a => s.memN (a + o) n | none => 0
  let named := match at' with | some _ => (List.range 12).any fun c => field (4 * c) 1 != 0xFF | none => false
  let per := defaultPer s.variant
  let entry := fun (c : Nat) =>
    if named then (if field (4 * c) 1 = 0xFF then none else some (field (4 * c) 1, field (4 * c + 1) 1))
    else if c < 3 * per then some (c / per, 12) else none
  let s := { s with mby := { s.mby with dlEnergize := dlOf (field 0x30 2), dlFull := dlOf (field 0x32 2), dlFast := dlOf (field 0x34 2) } }
  (List.range 12).foldl (fun s c => match entry c with
    | some (p, n) => s.putN (Reg.LNK_CH_CFG c) (b2n (!s.paired) * 512 + 256 + n * 16 + p)
    | none => s.putN (Reg.LNK_CH_CFG c) 0) s

/-- The Kneader program section (R175). -/
def applyPrograms (s : State) (a : Nat) : State :=
  { s with kne := { s.kne with periods := (List.range 4).map (fun i => s.memN (a + 16 * i) 2),
                               present := (List.range 4).map (fun i => s.memN (a + 16 * i + 2) 1 == 1) } }

/-- The contents of both banks (R75). -/
def applyBanks (s : State) (b : Nat) : State :=
  [0, 1].foldl (fun s k =>
    let s := s.zeroRange (bankBase k) 0x200000
    match (s.sectsOf b (3 + k)).head? with
    | some x => s.copyRange (b + x.off) (bankBase k) x.len
    | none => s) s

/-- The protection section (R359). -/
def applyProtection (s : State) (a : Nat) : State :=
  let fixedPair := fun (c : Nat) => match fltInfo c with | some (_, 1, _) => true | _ => false
  let s := (List.range 12).foldl (fun t k => t.putN (Reg.FLT_THR k) (s.memN (a + 4 * k) 4)) s
  let s := (List.range 16).foldl (fun t c =>
    (t.putN (Reg.FLT_ADC_LO c) (s.memN (a + 0x40 + 8 * c) 4)).putN (Reg.FLT_ADC_HI c) (s.memN (a + 0x44 + 8 * c) 4)) s
  let s := (List.range 16).foldl (fun t c =>
    (t.putN (Reg.FLT_THW c) (s.memN (a + 0xC0 + 8 * c) 4)).putN (Reg.FLT_THS c) (s.memN (a + 0xC4 + 8 * c) 4)) s
  let s := (List.range 16).foldl (fun t k => t.putN (Reg.FLT_CLASS k) (s.memN (a + 0x140 + 4 * k) 4)) s
  let s := (List.range 8).foldl (fun t k =>
    let m := s.memN (a + 0x180 + 4 * k) 4
    (t.putN (Reg.FLT_PAIR k) (maskOf 32 fun i => bitAt m i || fixedPair (32 * k + i))).putN (Reg.FLT_RTRG k) (s.memN (a + 0x1A0 + 4 * k) 4)) s
  { s with sys := { s.sys with protInForce := true } }

/-- The network section: addresses of the own head, allow list, peers, servo (R450, R459). PAIRED is written before the topology. -/
def applyNetwork (s : State) (a : Nat) : State :=
  let h := b2n s.sys.headB
  let port := fun (t : State) (p : Nat) =>
    let e := a + 0x10 + 0x20 * (2 * h + p)
    let d := a + 0x190 + 0x20 * p
    let t := t.putN (Reg.ETH_CFG p) (s.memN (a + 4 + 4 * p) 4)
    let t := (t.putBytes (Reg.ETH_MAC_LO p) 2 (s.bytesAt e 6 ++ [0, 0])).putN (Reg.ETH_IP4 p) (s.memN (e + 8) 4)
    let t := (t.putN (Reg.ETH_IP4_PLEN p) (s.memN (e + 12) 1)).putBytes (Reg.ETH_IP6 p 0) 4 (s.bytesAt (e + 16) 16)
    let t := (t.putBytes (Reg.ETH_SD_MAC_LO p) 2 (s.bytesAt d 6 ++ [0, 0])).putN (Reg.ETH_SD_FAM p) (s.memN (d + 6) 1)
    let t := t.putBytes (Reg.ETH_SD_ADDR p 0) 4 (s.bytesAt (d + 8) 16)
    (List.range 8).foldl (fun t q =>
      let x := a + 0x90 + 0x20 * q
      (t.putBytes (Reg.ETH_UZA p q 0) 1 (s.bytesAt x 4)).putBytes (Reg.ETH_UZA p q 1) 4 (s.bytesAt (x + 4) 16)) t
  let s := [0, 1].foldl port s
  ((s.putAll a timWords).setFlag Reg.PTN_CFG 8 (bitAt (s.memN (a + 2) 1) 0)).sourceShow

/-- The clocks section (R421). -/
def applyClocks (s : State) (a : Nat) : State :=
  let segs := (List.range 64).map fun k => (s.memN (a + 0x100 + 8 * k) 4, BitVec.ofNat 32 (s.memN (a + 0x104 + 8 * k) 4))
  (s.putAll a clkWords).setClk fun c => { c with segs }

/-- Measurement and recorder (R336, R404). -/
def applyMeasurement (s : State) (a : Nat) : State :=
  ((s.putN Reg.ADC_PAIR_CFG (s.memN a 4)).putAllAct a measWords).putAll a recWords

/-- Cores and roles that the core images name (R479). -/
def applyRoles (s : State) (b : Nat) : State :=
  let xs := s.sectsOf b 0x0B
  let has := fun (n : Nat) => xs.any fun x => x.flags % 4 == n
  let named := fun (bit : Nat) => (xs.find? fun x => bitAt x.flags bit).map fun x => x.flags % 4
  { s with sys := { s.sys with modeCore := some ((named 2).getD 0), logCore := some ((named 3).getD (if has 1 then 1 else 0)) } }

/-- Identity, directory and key table of the image (R73, R75, R109). -/
def applyIdentity (s : State) (b : Nat) : State :=
  let owner := s.bytesAt (b + 0x20) 96
  let dels := match (s.sectsOf b 0x0C).head? with
    | some x => (List.range (x.len / 104)).map fun i => (s.bytesAt (b + x.off + 104 * i) 96, s.memN (b + x.off + 104 * i + 96) 4)
    | none => []
  let keys := (owner, 0x3FE) :: dels
  let s := (s.putN Reg.TRU_RCP_ID (s.memN (b + 0x10) 4)).putN Reg.TRU_RCP_VER (s.memN (b + 0x14) 4)
  let s := s.putBytes (Reg.TRU_RCP_DIG 0) 12 (sha384 (s.bytesAt b 0x300))
  let s := ((s.sects b).zipIdx).foldl (fun s x =>
    ((s.putN (Reg.TRU_SEC_TYPE x.2) (x.1.flags * 65536 + x.1.type)).putN (Reg.TRU_SEC_OFF x.2) x.1.off).putN (Reg.TRU_SEC_LEN x.2) x.1.len) s
  let s := (keys.zipIdx).foldl (fun s x => (s.putN (Reg.TRU_KEYID x.2) (keyIdOf x.1.1)).putN (Reg.TRU_KEYPERM x.2) x.1.2) s
  { s with tru := { s.tru with keys } }

/-- Every section applied, but for the core images and the safety set, which do not bear on any check. -/
def applyRecipe (s : State) (b : Nat) : State :=
  let at' := s.sectAt b
  let opt := fun (t : State) (ty : Nat) (f : State → Nat → State) => match at' ty with | some a => f t a | none => t
  let s := opt s 0x08 applyNetwork
  let s := (opt s 0x02 applyPrograms).applyTopology (at' 0x01)
  let s := opt s 0x07 fun t a => { t with sys := { t.sys with roles := (List.range 6).map fun h => t.memN (a + h) 1 } }
  let s := opt (s.applyBanks b) 0x05 fun t a => t.putAll a modWords
  let s := opt s 0x06 applyProtection
  let s := opt s 0x09 fun t a => t.setFld Reg.SYS_MODE_PERM 7 3 (t.memN a 1 / 8)
  let s := opt s 0x0A applyClocks
  let s := opt s 0x0D applyMeasurement
  (s.applyRoles b).applyIdentity b

/-! ## Checks of content (step 8 of R76). t is the module as the sections would leave it. -/

/-- The words of a section lie within their field tables, with every reserved bit 0 (R537). -/
def wordsOk (t : State) (a : Nat) (l : List (Nat × Nat)) : Bool :=
  l.all fun x =>
    let v := t.memN (a + x.1) 4
    match regDesc? x.2 with
    | some d => maskWithout v d.mask == 0 && t.valueOk t.getN x.2 v
    | none => false

/-- Section counts of R75; types that R75 does not list have no place. -/
def countsOk (s : State) (b : Nat) : Bool :=
  let n := fun ty => (s.sectsOf b ty).length
  ((s.sects b).all fun x => decide (1 ≤ x.type) && decide (x.type ≤ 0x0D))
    && ([2, 5, 6, 8].all fun ty => n ty == 1) && ([1, 3, 4, 7, 9, 0x0A, 0x0C, 0x0D].all fun ty => decide (n ty ≤ 1))
    && decide (1 ≤ n 0x0B) && decide (n 0x0B ≤ 4) && noRepeat ((s.sectsOf b 0x0B).map fun x => x.flags % 4)
    && (s.sectsOf b 0x0B).any fun x => x.flags % 4 == 0

/-- Fixed section lengths. -/
def lengthsOk (s : State) (b : Nat) : Bool :=
  (s.sects b).all fun x =>
    if x.type = 1 ∨ x.type = 2 ∨ x.type = 5 then x.len == 64
    else if x.type = 3 ∨ x.type = 4 then decide (x.len ≤ 0x200000)
    else if x.type = 6 then x.len == 512
    else if x.type = 7 then x.len == 8
    else if x.type = 8 then x.len == 576
    else if x.type = 9 then x.len == 4
    else if x.type = 0x0A then x.len == 768
    else if x.type = 0x0C then x.len % 104 == 0 && inRange (x.len / 104) 1 7
    else if x.type = 0x0D then x.len == 0x720
    else decide (16 ≤ x.len)

/-- The Kneader program section (R175). -/
def programsOk (s : State) (a : Nat) : Bool :=
  let present := fun i => s.memN (a + 16 * i + 2) 1 == 1
  ((List.range 4).all fun i =>
    let per := s.memN (a + 16 * i) 2
    decide (s.memN (a + 16 * i + 2) 1 ≤ 1) && s.zeroAt (a + 16 * i + 3) 13
      && (if present i then (if i < 2 then inRange per 1250 12500 else inRange per 625 1250) else per == 0))
    && (present 3 || !(present 1 || present 2))

/-- The topology map (R18, R20, R136, R137). -/
def topologyOk (t : State) (a : Nat) : Bool :=
  let ph := fun c => t.memN (a + 4 * c) 1
  let used := (List.range 12).any fun c => ph c != 0xFF
  let entries := (List.range 12).all fun c =>
    t.zeroAt (a + 4 * c + 2) 2
      && (if ph c = 0xFF then t.memN (a + 4 * c + 1) 1 == 0 else decide (ph c ≤ 2) && inRange (t.memN (a + 4 * c + 1) 1) 1 12)
  let n := fun p => (t.cellsOfPhase p).length
  let lmax := ((List.range 12).map t.chainCells).foldl max 0
  let dl := fun (o : Nat) (progs : List Nat) (least : Nat) =>
    let d := t.memN (a + o) 2
    let ps := (progs.filter fun i => t.kne.present.getD i false).map fun i => t.kne.periods.getD i 0
    let short := if ps.isEmpty then least else ps.foldl min 65535
    d == 0 || inRange d (270 + 80 * (lmax - 1)) (4 * short - 250)
  entries && t.zeroAt (a + 0x36) 10 && (!used || (n 0 == n 1 && n 1 == n 2 && decide (n 0 ≤ 48)))
    && dl 0x30 [0] 1250 && dl 0x32 [1] 1250 && dl 0x34 [2, 3] 625

/-- The protection section (R341, R342, R346, R359). -/
def protectionOk (s : State) (a : Nat) : Bool :=
  let w := fun o => s.memN (a + o) 4
  let f := fun o => Fl.of32 (w o)
  let pos := fun o => finite32 (w o) && Fl.lt Fl.zero (f o)
  let gf := w 0x20
  let adc := (List.range 16).all fun c =>
    let lo := w (0x40 + 8 * c)
    let hi := w (0x44 + 8 * c)
    (lo == 0xFF800000 && hi == 0x7F800000) || (finite32 lo && finite32 hi && Fl.le (Fl.of32 lo) (Fl.of32 hi))
  let therm := (List.range 16).all fun c =>
    let x := w (0xC0 + 8 * c)
    let y := w (0xC4 + 8 * c)
    decide (signed 16 (x % 65536) ≤ signed 16 (x / 65536)) && (c == 8 || c == 9 || decide (signed 16 (x / 65536) ≤ signed 16 (y % 65536)))
      && y / 65536 == 0
  let code := (List.range 256).all fun c =>
    let cls := fieldOf (s.memN (a + 0x140 + c / 4) 1) (2 * (c % 4) + 1) (2 * (c % 4))
    let pb := bitAt (s.memN (a + 0x180 + c / 8) 1) (c % 8)
    let tb := bitAt (s.memN (a + 0x1A0 + c / 8) 1) (c % 8)
    match fltInfo c with
    | none => cls == 0 && !pb && !tb
    | some (mn, scope, _) => decide (mn ≤ cls) && (decide (cls < 3) || mn == 3) && !(scope == 2 && pb)
  pos 0 && Fl.le (f 0) (Fl.ofNat 150) && pos 4 && nonneg32 (w 8) && Fl.le (f 8) (f 4) && pos 0xC && pos 0x10
    && Fl.le Fl.zero (Fl.add (f 0x14) (Fl.mul (Fl.ofNat 2) (f 0x1C))) && Fl.lt (Fl.add (f 0x14) (Fl.mul (Fl.ofNat 2) (f 0x1C))) (f 0x18)
    && maskWithout gf 0x0F0F0F0F == 0 && inRange (gf / 2 ^ 24) 1 15
    && inRange (w 0x24) 1 10000 && inRange (w 0x28) 10 10000 && inRange (w 0x2C) 100 600000
    && s.zeroAt (a + 0x30) 16 && s.zeroAt (a + 0x1C0) 64 && adc && therm && code

/-- Roles (R22). -/
def rolesOk (s : State) (a : Nat) : Bool :=
  let rs := (List.range 6).map fun h => s.memN (a + h) 1
  rs.all (fun r => decide (r ≤ 6)) && s.zeroAt (a + 6) 2 && ([0, 1, 2, 3].all fun r => decide (rs.countP (· == r) ≤ 1))
    && rs.countP (· == 4) % 2 == 0

/-- The network section (R459). The safety parameter set at 0x200 is judged by the island alone (R378), its bytes marked 0 with it: whether
R537 has the section check judge them too the spec does not say (the model's choice, log entry 209). -/
def networkOk (t : State) (a : Nat) : Bool :=
  let entry := fun h p => a + 0x10 + 0x20 * (2 * h + p)
  let heads := [0, 1].all fun h => [0, 1].all fun p =>
    let e := entry h p
    !t.zeroAt e 6 && t.memN e 1 % 2 == 0 && t.zeroAt (e + 6) 2 && decide (t.memN (e + 12) 1 ≤ 32) && t.zeroAt (e + 13) 3
  let has := fun (fam ports : Nat) => [0, 1].all fun h => [0, 1].all fun p =>
    !bitAt ports p || !(if fam = 4 then t.zeroAt (entry h p + 8) 4 else t.zeroAt (entry h p + 16) 16)
  let allow := (List.range 8).all fun q =>
    let x := a + 0x90 + 0x20 * q
    let fam := t.memN x 1
    t.zeroAt (x + 3) 1 && t.zeroAt (x + 20) 12 && if fam = 0 then true
    else (fam == 4 || fam == 6) && decide (t.memN (x + 1) 1 ≤ (if fam = 4 then 32 else 128)) && decide (t.memN (x + 2) 1 ≤ 3)
      && has fam (t.memN (x + 2) 1)
  let peers := [0, 1].all fun p =>
    let x := a + 0x190 + 0x20 * p
    let fam := t.memN (x + 6) 1
    t.zeroAt (x + 7) 1 && t.zeroAt (x + 24) 8 && if fam = 0 ∧ bitAt (t.memN (a + 4 + 4 * p) 4) 4 = false then true
    else (fam == 4 || fam == 6) && has fam (2 ^ p)
  t.memN a 2 == 1 && decide (t.memN (a + 2) 1 ≤ 1) && t.zeroAt (a + 3) 1 && t.zeroAt (a + 0xC) 4 && t.zeroAt (a + 0x1D0) 4
    && t.zeroAt (a + 0x1F8) 8 && ([4, 8].all fun o => maskWithout (t.memN (a + o) 4) 0x0FFFF01D == 0)
    && heads && allow && peers && t.wordsOk a timWords

/-- The clocks section (R419, R421). -/
def clocksOk (t : State) (a : Nat) : Bool :=
  let prof := fun p =>
    let segs := (List.range (t.segCount p)).map (t.seg p)
    if t.riseRef p then true
    else synListOk segs (t.getN Reg.CLK_SYN_BASE) (t.flag (Reg.CLK_RISEP_CFG p) 9)
  t.wordsOk a clkWords && t.zeroAt (a + 0x14) 12 && t.zeroAt (a + 0x80) 128
    && ((List.range 64).all fun k => decide (t.memN (a + 0x100 + 8 * k) 4 < 2 ^ 24)) && [0, 1, 2, 3].all prof

/-- Measurement and recorder (R336, R404). -/
def measurementOk (t : State) (a : Nat) : Bool :=
  decide (t.memN a 4 < 65536) && ((List.range 8).all fun k => fieldOf (t.memN a 4) (2 * k + 1) (2 * k) != 3)
    && t.zeroAt (a + 4) 12 && t.zeroAt (a + 0x148) 8 && t.zeroAt (a + 0x1D0) 48 && t.zeroAt (a + 0x214) 12
    && t.wordsOk a measWords && t.wordsOk a recWords

/-- Segments of a core image: destination, bytes, bytes set to 0, offset (R478). -/
def coreSegs (s : State) (a : Nat) : List (Nat × Nat × Nat × Nat) :=
  (List.range (s.memN (a + 4) 2)).map fun i =>
    let x := a + 0x10 + 16 * i
    (s.memN x 4, s.memN (x + 4) 4, s.memN (x + 8) 4, s.memN (x + 12) 4)

/-- No two of the ranges overlap; an empty one overlaps nothing. -/
def apart : List (Nat × Nat) → Bool
  | [] => true
  | r :: rs => rs.all (fun q => decide (r.2 ≤ q.1) || decide (q.2 ≤ r.1) || decide (r.2 ≤ r.1) || decide (q.2 ≤ q.1)) && apart rs

/-- The core images (R478, R479). -/
def coresOk (s : State) (b : Nat) : Bool :=
  let xs := s.sectsOf b 0x0B
  let inTcm := fun (g : Nat × Nat × Nat × Nat) => decide (0x80000000 ≤ g.1) && decide (g.1 < 0x80040000) && decide (g.1 + g.2.1 + g.2.2.1 ≤ 0x80040000)
  let inRam := fun (g : Nat × Nat × Nat × Nat) => decide (0x02000000 ≤ g.1) && decide (g.1 < 0x02400000) && decide (g.1 + g.2.1 + g.2.2.1 ≤ 0x02400000)
  let range := fun (g : Nat × Nat × Nat × Nat) => (g.1, g.1 + g.2.1 + g.2.2.1)
  let one := fun (x : Sect) =>
    let a := b + x.off
    let n := s.memN (a + 4) 2
    let gs := s.coreSegs a
    let entry := s.memN a 4
    inRange n 1 32 && s.zeroAt (a + 6) 10 && decide (16 + 16 * n ≤ x.len)
      && (gs.all fun g => g.1 % 8 == 0 && g.2.1 % 8 == 0 && g.2.2.1 % 8 == 0 && g.2.2.2 % 8 == 0 && decide (g.2.2.2 + g.2.1 ≤ x.len)
        && (inTcm g || inRam g))
      && (gs.any fun g => decide (g.1 ≤ entry) && decide (entry < g.1 + g.2.1))
      && apart ((gs.filter inTcm).map range)
  xs.all one && apart ((xs.flatMap fun x => (s.coreSegs (b + x.off)).filter inRam).map range)
    && decide (xs.countP (fun x => bitAt x.flags 2) ≤ 1) && decide (xs.countP (fun x => bitAt x.flags 3) ≤ 1)

/-- Delegate keys: reserved bytes, and no KEYID twice among owner and delegates. -/
def delegatesOk (t : State) (b : Nat) (x : Sect) : Bool :=
  ((List.range (x.len / 104)).all fun i => t.zeroAt (b + x.off + 104 * i + 100) 4) && noRepeat (t.tru.keys.map fun k => keyIdOf k.1)

/-- The bank checks of R204 at boot: bank A alone, bank B as the new bank of a swap with bank A active. The code, and the bank that
failed. -/
def bootBanks (t : State) (b : Nat) : Nat × Nat :=
  let chk := fun k beyond => match (t.sectsOf b (3 + k)).head? with
    | some x => t.bankCheck k x.len beyond
    | none => 0
  if chk 0 none != 0 then (chk 0 none, 0) else (chk 1 (some 0), 1)

/-- Step 8 of R76 but for the banks. -/
def contentOk (s t : State) (b : Nat) : Bool :=
  let one := fun ty (f : Nat → Bool) => match s.sectAt b ty with | some a => f a | none => true
  s.countsOk b && s.lengthsOk b && one 2 s.programsOk && one 1 t.topologyOk
    && one 5 (fun a => t.wordsOk a modWords && t.zeroAt (a + 0x24) 28)
    && one 6 s.protectionOk && one 7 s.rolesOk && one 8 t.networkOk && one 9 (fun a => maskWithout (s.memN a 4) 0xF8 == 0)
    && one 0x0A t.clocksOk && s.coresOk b && (s.sectsOf b 0x0C).all (t.delegatesOk b) && one 0x0D t.measurementOk

/-- The checks of R76 on the image in a slot: the RESULT code. -/
def imageCheck (s : State) (b : Nat) : Nat :=
  let owner := s.bytesAt (b + 0x20) 96
  let total := s.memN (b + 8) 4
  let v := s.memN (b + 0xD) 1
  let named6 := match s.sectAt b 1 with
    | some a => (List.range 6).any fun k => s.memN (a + 4 * (6 + k)) 1 != 0xFF
    | none => false
  if s.memN b 4 = 0 then 1
  else if !s.formatOk b then 2
  else if s.fuses.ownerHash ≠ some (sha384 owner) then 4
  else if !ecdsaVerify owner (s.bytesAt (b + 0x300) 96) (s.bytesAt b 0x300) then 4
  else if s.bytesAt (b + 0x80) 48 ≠ sha384 (s.bytesAt (b + 0x380) (total - 0x380)) then 3
  else if s.memN (b + 0xC) 1 < s.fuses.secver then 5
  else if !bitAt v (if s.variant = .h then 1 else 0) || (s.variant == .h && named6) then 6
  else
    let t := s.applyRecipe b
    if !s.contentOk t b then 7
    else if (t.bootBanks b).1 ≠ 0 then 7
    else 0

end State
end Sys2Proof.Machine
end

