-- ==== Sys2Proof/Machine/Trust.lean ====
section
/-!
DEFINITION. Verification and effect of commands (R72, R78-R91, R94-R100): the ten steps of R90 on the command in front of the queue, and
what each opcode does. A command whose effect needs time of its own (the bank digest, VERIFY_PENDING, the promotion copy) has a second event.
-/
namespace Sys2Proof.Machine

/-- A COMMIT's payload (R94): register entries and the MRAM run. -/
structure CommitBody where
  entries : List (Nat × Nat)
  runAddr : Nat
  run : List Byte
  deriving DecidableEq, Repr

/-- The payload read; none where its parts do not fill it or a reserved byte is not 0. The run is of whole words (R93). -/
def commitBody? (p : List Byte) : Option CommitBody :=
  let n := leAt p 0 4
  let ln := leAt p 8 4
  if p.length < 16 ∨ p.length ≠ 16 + 8 * n + ln ∨ leAt p 12 4 ≠ 0 ∨ ln % 4 ≠ 0 ∨ leAt p 4 4 % 4 ≠ 0 then none
  else some { entries := (List.range n).map fun i => (leAt p (16 + 8 * i) 4, leAt p (20 + 8 * i) 4),
              runAddr := leAt p 4 4, run := p.drop (16 + 8 * n) }

/-- Opcodes of R85 that exist. -/
def opcodeKnown (op : Nat) : Bool := decide (1 ≤ op) && decide (op ≤ 9)

/-- Opcodes that have the ECDSA form only (R85). -/
def ecdsaOnly (op : Nat) : Bool := op == 3 || op == 6 || op == 8 || op == 9

/-- The command of R67 that wakes the module: one entry, SYS_MODE_REQ with TARGET 1, whose reserved bits are ignored (R9), and no run. -/
def Cmd.isWake (c : Cmd) : Bool :=
  c.opcode == 1 && (match commitBody? c.payload with
    | some b => (match b.entries with | [e] => e.1 == Reg.SYS_MODE_REQ && e.2 % 8 == 1 | _ => false) && b.run.isEmpty
    | none => false)

namespace State

/-! ## Steps 1 to 7 of R90 -/

/-- The key that signs, with its mask: for the HMAC form a session. -/
inductive Signer where
  | key (pub : List Byte) (mask : Nat)
  | session (x : Session)
  deriving DecidableEq, Repr

/-- Step 1: format. -/
def formatReason (c : Cmd) : Nat :=
  let h := c.hdr
  if leAt h 0 4 ≠ 0x444D4350 ∨ leAt h 4 2 ≠ 1 ∨ (c.form ≠ 1 ∧ c.form ≠ 2) ∨ 1 < c.flags ∨ leAt h 0x1A 2 ≠ 0 ∨ leAt h 0x24 12 ≠ 0
      ∨ (c.form = 2 ∧ c.flags = 1) ∨ c.badFormat = true then 0x01
  else if c.stageBad then 0x0A
  else 0

/-- Step 3: who signed (R82, R87), or the reason of refusal. -/
def signer (s : State) (c : Cmd) : Except Nat Signer :=
  let provisioned := s.fuses.ownerHash.isSome
  if !provisioned && c.opcode != 9 then .error 0x03
  else if c.form = 1 then
    if c.flags = 1 then
      let isOwner := s.fuses.ownerHash == some (sha384 c.key)
      if keyIdOf c.key = c.keyid ∧ (isOwner ∨ (c.opcode = 9 ∧ !provisioned)) then .ok (.key c.key 0x3FE) else .error 0x03
    else match s.tru.keys.find? fun k => keyIdOf k.1 == c.keyid with
      | some k => .ok (.key k.1 k.2)
      | none => .error 0x03
  else match s.tru.sessions.filterMap (fun x => x.held) |>.find? fun x => x.id == c.keyid with
    | some x => .ok (.session x)
    | none => if s.tru.sessions.any (fun x => x.held.isNone && x.ended == c.keyid && x.ended != 0) then .error 0x07 else .error 0x03

def Signer.mask : Signer → Nat
  | .key _ m => m
  | .session x => x.perm

/-- Step 5: the authenticator (R82, R83). -/
def authReason (c : Cmd) : Signer → Nat
  | .key pub _ => if ecdsaVerify pub c.auth c.hdr then 0 else 0x05
  | .session x => if hmac256 x.key c.hdr |>.take 16 |> (· == c.auth.take 16) then 0 else 0x06

/-- Steps 1 to 7: the reason, 0 if they pass. -/
def headReason (s : State) (c : Cmd) : Nat :=
  if formatReason c ≠ 0 then formatReason c
  else if leAt c.hdr 0x10 8 ≠ s.fuses.uid then 0x02
  else match s.signer c with
    | .error r => r
    | .ok g =>
      if c.opcode = 9 ∧ c.src ≠ 0 then 0x20
      else if !opcodeKnown c.opcode || !bitAt g.mask c.opcode || (c.form == 2 && ecdsaOnly c.opcode) then 0x04
      else if authReason c g ≠ 0 then authReason c g
      else if s.windowClosed && c.form == 1 && !(s.mode == STANDBY && c.isWake) then 0x1B
      else if c.counter ≤ s.tru.ctr then 0x08
      else if c.payload.length ≠ c.len ∨ sha384 c.payload ≠ slice c.hdr 0x30 48 then 0x09
      else 0

/-! ## Acceptance -/

/-- The stored counter takes the command's COUNTER (R88). -/
def takeCounter (s : State) (n : Nat) : State :=
  let held := s.mramBarred
  let s := { s with tru := { s.tru with ctr := n, ctrMram := if held then s.tru.ctrMram else n } }
  ((s.putN Reg.TRU_CTR_LO (n % 2 ^ 32)).putN Reg.TRU_CTR_HI (n / 2 ^ 32)).setFlag Reg.TRU_STAT 29 held

/-- The command in front is refused and leaves the queue. -/
def refuse (s : State) (c : Cmd) (reason : Nat) : State := s.dequeue.cmdEnd c reason

/-- The command in front is accepted: its effect f, the counter, its record, which takes the counter to MRAM; it leaves the queue
(R88, R91, R103). -/
def acceptWith (s : State) (c : Cmd) (f : State → State) : State :=
  (((f s.dequeue).takeCounter c.counter).cmdEnd c 0).logCarries s.tru.ctrMram

/-- The tick's opening mode and the present one admit an opcode's modes: WRONG_MODE, then CONFLICT (R32, R44, R90). -/
def modeReason (s : State) (ok : Nat → Bool) : Nat := if !ok s.sys.tickMode then 0x0E else 0

def conflictReason (s : State) (ok : Nat → Bool) : Nat := if !ok s.mode then 0x15 else 0

/-- The first reason that is not 0. -/
def firstReason : List Nat → Nat
  | [] => 0
  | r :: rs => if r = 0 then firstReason rs else r

/-! ## COMMIT (R94-R96) -/

/-- An entry's value with its reserved bits cut off (R9). -/
def entryValue (e : Nat × Nat) : Nat := match regDesc? e.1 with
  | some d => maskAnd e.2 d.mask
  | none => e.2

/-- The mode that the last entry for SYS_MODE_REQ asks for. -/
def commitTarget (b : CommitBody) : Option Nat :=
  (b.entries.reverse.find? fun e => e.1 == Reg.SYS_MODE_REQ).map fun e => e.2 % 8

def runToPending (b : CommitBody) : Bool :=
  !b.run.isEmpty && decide (pendingSlot ≤ b.runAddr) && decide (b.runAddr + b.run.length ≤ 0x01600000)

def runToStore (b : CommitBody) : Bool :=
  !b.run.isEmpty && decide (0x01700000 ≤ b.runAddr) && decide (b.runAddr + b.run.length ≤ 0x017FF000)

/-- LNK_TEST of a lane. -/
def isLaneTest (a : Nat) : Bool := decide (0x30000 ≤ a) && decide (a < 0x38000) && (a - 0x30000) % 0x800 == 0x0C

/-- An entry turns on loopback or PRBS of a lane (R41). -/
def laneTestOn (a v : Nat) : Bool :=
  isLaneTest a && (v % 8 != 0 || bitAt v 4 || bitAt v 5)

/-- Entries and run that a mode permits (R41, R44, R67, R96). -/
def commitModeOk (c : Cmd) (b : CommitBody) (m : Nat) : Bool :=
  if m = STANDBY then c.isWake
  else
    (m == COMMISSION || b.entries.all fun e =>
      let v := entryValue e
      !laneTestOn e.1 v && !(e.1 == Reg.GDR_DIRECT && v % 64 != 0) && !(e.1 == Reg.MOD_OL_CTRL && bitAt v 0) && !(e.1 == Reg.MOD_JOG_CFG && bitAt v 8))
    && (m == LOAD || !runToPending b)

/-- Registers of access RO with one RW1C field: a direct write clears that field, and a commit entry cannot name them, as R95 reads of RO registers
(DEDUCED, log entry 201). -/
def roWithClear (d : RegDesc) : Bool := [Reg.TRU_CMT_STAT 0, Reg.TIM_TXQ_STAT 0, Reg.TIM_CMP_STAT 0].contains d.base

/-- An entry names a register that can be written (R95). -/
def targetOk (s : State) (a : Nat) : Bool := match s.regAt a with
  | some d => d.acc != .ro && !roWithClear d
  | none => false

/-- The module leaves COMMISSION with this commit: LNK_TEST counts as written outside it (R130). -/
def leavesTest (s : State) (b : CommitBody) : Bool := s.mode == COMMISSION && commitTarget b == some SAFE

/-- An entry is refused because its block runs (R11, R130). -/
def entryLocked (s : State) (b : CommitBody) (e : Nat × Nat) : Bool :=
  (match regDesc? e.1 with | some d => d.acc == .rwl | none => false)
    && (s.locked e.1 (entryValue e) || isLaneTest e.1 && s.leavesTest b)

/-- Entries refused because their block runs, each judged with the segment that the entries before it have selected (R11, R95, R420). -/
def lockedIn (b : CommitBody) : State → List (Nat × Nat) → List Nat
  | _, [] => []
  | s, e :: es =>
    let rest := lockedIn b (if e.1 = Reg.CLK_SEG_ADDR then s.putN e.1 (entryValue e) else s) es
    if s.entryLocked b e then e.1 :: rest else rest

def lockedEntries (s : State) (b : CommitBody) : List Nat := lockedIn b s b.entries

/-- Step 9 for a COMMIT. -/
def commitContent (s : State) (b : CommitBody) : Nat :=
  let ws := b.entries.map fun e => (e.1, entryValue e)
  if b.entries.any (fun e => !s.targetOk e.1) || (!b.run.isEmpty && !runToPending b && !runToStore b) then 0x0B
  else if !(s.lockedEntries b).isEmpty then 0x0C
  else if ws.any fun e => (match regDesc? e.1 with | some d => d.acc != .rw1c | none => true) && !s.writeOk (s.after ws) e.1 e.2 then 0x0D
  else 0

/-- In the state of R64 only a commit signed with ECDSA, from the HPI, reaches PENDING; the reason for any other is NOT_PERMITTED (the
model's choice, log entry 177). -/
def pendingClosed (s : State) (c : Cmd) (b : CommitBody) : Bool := runToPending b && !s.sys.recipeOk && (c.form != 1 || c.src != 0)

/-- Step 8 for the mode that a COMMIT requests, and step 9, on the state given. -/
def commitJudge (s : State) (c : Cmd) (b : CommitBody) : Nat :=
  firstReason [match commitTarget b with | some t => s.modeCheck t c.isWake | none => 0, s.commitContent b]

/-- Steps 8 to 10 for a COMMIT: the reason on the state at the start of the tick; where that passes and the events of the tick have made
it impossible, CONFLICT (R32, R90). A window that closes in the tick is TEMP, not CONFLICT (R510). -/
def commitReason (s : State) (c : Cmd) : Nat :=
  match commitBody? c.payload with
  | none => if s.sys.tickMode = STANDBY then 0x0E else 0x01
  | some b =>
    firstReason [s.modeReason (commitModeOk c b),
      if s.opening.leavesTest b && b.entries.any (fun e => laneTestOn e.1 (entryValue e)) then 0x0E else 0,
      if s.pendingClosed c b then 0x04 else 0, s.opening.commitJudge c b,
      if !b.run.isEmpty && !s.tru.runOn && s.mramBarred then 0x1B else 0,
      s.conflictReason (commitModeOk c b), if s.commitJudge c b = 0 then 0 else 0x15]

/-- A write to PENDING takes VERIFIED back (R78). -/
def pendingWritten (s : State) : State := s.setFlag Reg.TRU_PND_STAT 8 false

/-- The effect of a COMMIT: the run, then every entry in payload order. A mode request is made once, by its last entry. -/
def commitApply (s : State) (c : Cmd) (b : CommitBody) : State :=
  let s := s.setBytes b.runAddr b.run
  let s := if runToPending b then s.pendingWritten else s
  let s := b.entries.foldl (fun s e => if e.1 = Reg.SYS_MODE_REQ then s.putN e.1 (e.2 % 8) else (s.applyWrite c.keyid c.counter e.1 e.2).testBy c.src e.1) s
  match commitTarget b with
  | some t => s.modeRequest t c.keyid c.counter
  | none => s

/-- An accepted COMMIT takes effect in one tick with its record written (R60, R91, R96); SYS_RESET_REQ then resets the module. -/
def commitAccept (s : State) (c : Cmd) (b : CommitBody) : State :=
  let s := (s.acceptWith c fun s => s.commitApply c b).logSettled
  if b.entries.any fun e => e.1 == Reg.SYS_RESET_REQ then s.resetModule 9 else s

/-- The run of a COMMIT is admitted: it is written through the journal, and its row comes again when run and record are complete, in the tick of
R91 (R96, R510). What R90 judges is judged in both ticks (log entry 219). -/
def commitAdmit (s : State) : State := ({ s with tru := { s.tru with runOn := true } } : State).journalWrite

/-- A COMMIT in front of the queue ends its verification; one with an MRAM run is admitted first, and ends when its row comes again (R90, R96). -/
def commitRun (s : State) (c : Cmd) : State :=
  match if s.tru.runOn then 0 else s.headReason c with
  | 0 =>
    match s.commitReason c, commitBody? c.payload with
    | 0, some b => if b.run.isEmpty || s.tru.runOn then s.commitAccept c b else s.commitAdmit
    | r, some b =>
      let s := if r = 0x0C then (s.opening.lockedEntries b).foldl (fun s a => s.refuseLocked c.src a) s else s
      s.refuse c r
    | r, none => s.refuse c r
  | r => s.refuse c r

/-! ## The other opcodes -/

/-- A command with modes ok, content check and effect. Its effect ends with its record complete, so that no reset takes one without the other
(R60). -/
def opRun (s : State) (c : Cmd) (ok : Nat → Bool) (content : Nat) (f : State → State) : State :=
  match firstReason [s.headReason c, s.modeReason ok, content, s.conflictReason ok] with
  | 0 => (s.acceptWith c f).logSettled
  | r => s.refuse c r

def inLoad (m : Nat) : Bool := m == LOAD

/-- VERIFY_PENDING is accepted; the checks of the image run from now on and hold the command path (R79, R89). -/
def verifyRun (s : State) (c : Cmd) : State :=
  s.opRun c inLoad (if c.payload.isEmpty then 0 else 0x01) fun s =>
    ({ s with tru := { s.tru with verifying := true } } : State).queueShow

/-- The checks of PENDING end (R79). -/
def verifyDone (s : State) : State :=
  let r := s.imageCheck pendingSlot
  let s := ({ s with tru := { s.tru with verifying := false } } : State).queueShow
  let s := (s.setFld Reg.TRU_PND_STAT 3 0 r).setFlag Reg.TRU_PND_STAT 8 (r == 0)
  if r = 0 then s.putBytes (Reg.TRU_PND_DIG 0) 12 (sha384 (s.bytesAt pendingSlot 0x300)) else s

/-- PROMOTE (R80). MRAM barred by THERM_DIE refuses it with TEMP, as a closed window does (the model's choice, log entry 221). Its first step
begins at once. -/
def promoteRun (s : State) (c : Cmd) : State :=
  let content :=
    if c.payload.length ≠ 48 then 0x01
    else if s.flag Reg.TRU_PND_STAT 9 then 0x14
    else if !s.flag Reg.TRU_PND_STAT 8 || s.getBytes (Reg.TRU_PND_DIG 0) 12 != c.payload then 0x1A
    else if s.mramBarred then 0x1B
    else 0
  s.opRun c inLoad content fun s =>
    ({ s with tru := { s.tru with promote := some 0, promoteBy := (c.keyid, c.counter), copying := true } } : State).setFlag Reg.TRU_PND_STAT 9 true

/-- One 64 KiB step of the copy, recorded first in the journal; 48 steps copy the slot. It completes although the window has closed; the next one
then waits for the window (R80). -/
def copyStep (s : State) (k : Nat) : State :=
  ({ s with tru := { s.tru with promote := some (k + 1), copying := !s.mramBarred } } : State).journalWrite.copyRange (pendingSlot + k * 65536) (activeSlot + k * 65536) 65536

/-- The PROMOTE record, with KEYID and COUNTER of the command (R102, R103). -/
def promoteRecord (s : State) : State :=
  s.logRecord { type := 0x0008, code := 0x0003, keyid := s.tru.promoteBy.1, counter := s.tru.promoteBy.2, detail := s.bytesAt (activeSlot + 0x10) 8 }

/-- A step of the running copy; after the last one the record, which is written, and the reset of R53. -/
def promoteStep (s : State) (k : Nat) : State :=
  let s := s.copyStep k
  if k + 1 < 48 then s
  else
    let s := s.promoteRecord.logSettled
    ({ s with tru := { s.tru with promote := none, copying := false } } : State).resetModule 9

/-- CLEAR_PENDING (R78). -/
def clearRun (s : State) (c : Cmd) : State :=
  s.opRun c inLoad (if !c.payload.isEmpty then 0x01 else if s.mramBarred then 0x1B else 0)
    fun s => (s.setBytes pendingSlot [0, 0, 0, 0]).pendingWritten

/-- PROVISION (R72). -/
def provisionRun (s : State) (c : Cmd) : State :=
  let fresh := s.fuses.ownerHash.isNone
  s.opRun c (fun m => m == LOAD && fresh) (if c.payload.length ≠ 96 then 0x01 else if c.payload ≠ c.key then 0x0D else 0)
    fun s => ({ s with fuses := { s.fuses with ownerHash := some (sha384 c.payload) } } : State).fusedShow

/-! ## Banks (R98, R99) -/

/-- Step 9 for a BANK_COMMIT; whether one is under way is judged as at the start of the tick (R90, R98). -/
def bankContent (s : State) (p : List Byte) : Nat :=
  let len := leAt p 4 4
  let cyc := leAt p 8 4
  let d := signed 32 ((cyc + 2 ^ 32 - s.cycle) % 2 ^ 32)
  if p.length ≠ 64 ∨ leAt p 1 3 ≠ 0 ∨ leAt p 12 4 ≠ 0 then 0x01
  else if 1 < leAt p 0 1 ∨ len % 8 ≠ 0 ∨ len < 8 ∨ 0x200000 < len then 0x0D
  else if leAt p 0 1 = s.activeBank then 0x18
  else if cyc ≠ 0 ∧ d ≤ 0 then 0x17
  else if cyc ≠ 0 ∧ 100000 < d then 0x0D
  else if s.sys.tickBank then 0x14
  else 0

/-- BANK_COMMIT passes the steps of R90: the bank is locked, and the command stays in front while the digest is computed (R99). -/
def bankRun (s : State) (c : Cmd) : State :=
  let p := c.payload
  match firstReason [s.headReason c, s.modeReason engineMode, s.bankContent p, s.conflictReason engineMode,
                     if s.tru.bank.isSome then 0x15 else 0] with
  | 0 => { s with tru := { s.tru with bank := some { bank := leAt p 0 1, length := leAt p 4 4, cycle := leAt p 8 4, digest := slice p 16 48,
                                                     accepted := false, keyid := c.keyid, counter := c.counter } } }
  | r => s.refuse c r

/-- The digest and the bank check end (R99, R204). -/
def bankDone (s : State) (c : Cmd) (x : BankCommit) : State :=
  let unlocked : State := { s with tru := { s.tru with bank := none } }
  if sha384 (s.bytesAt (bankBase x.bank) x.length) ≠ x.digest then unlocked.refuse c 0x19
  else
    let code := s.bankCheck x.bank x.length (some s.activeBank)
    let s := s.recordCheck x.bank code
    let unlocked : State := { s with tru := { s.tru with bank := none } }
    let passed := x.cycle != 0
      && (decide (signed 32 ((x.cycle + 2 ^ 32 - s.cycle) % 2 ^ 32) ≤ 0) || (s.boundaryDue && x.cycle == s.tim.cycleNext))
    if code ≠ 0 then unlocked.refuse c 0x0D
    else if passed then unlocked.refuse c 0x17
    else if !engineMode s.sys.tickMode then unlocked.refuse c 0x0E
    else if !engineMode s.mode then unlocked.refuse c 0x15
    else s.acceptWith c fun s =>
      let s := ({ s with tru := { s.tru with bank := some { x with accepted := true, tick := s.tickNo } } } : State).putBytes (Reg.TRU_BANK_DIG 0) 12 x.digest
      let next := (s.tim.cycleNext + b2n s.boundaryDue) % 2 ^ 32
      s.putN Reg.KNE_SWAP ((if x.cycle = 0 then next else x.cycle) % 65536 * 65536 + 2 * x.bank + 1)

/-! ## Sessions (R86, R87) -/

/-- n free bytes, four from each free value. -/
def freeBytes (s : State) : Nat → List Byte × State
  | 0 => ([], s)
  | k + 1 =>
    let (w, s) := s.free
    let (bs, s) := freeBytes s k
    (leBytes 4 w.toNat ++ bs, s)

/-- A SESSION record (R103). -/
def sessRecord (s : State) (code id life keyid counter : Nat) : State :=
  s.logRecord { type := 0x0005, code, keyid, counter, detail := leBytes 4 id ++ leBytes 4 life }

/-- The slot a GRANT takes: the one that holds the same session, else the first free one. R86 does not say which free slot; the lowest is
the model's choice (log entry 178). -/
def grantSlot (s : State) (id : Nat) : Option Nat :=
  let held := fun (x : SessSlot) => match x.held with | some h => h.id == id | none => false
  match s.tru.sessions.findIdx? held with
  | some n => some n
  | none => s.tru.sessions.findIdx? fun x => x.held.isNone

/-- Step 9 for a GRANT; mask is the granting key's. That BAD_FORMAT, for a length other than 112 or a point off the curve, is judged before
VALUE is the model's choice (log entry 179). -/
def grantContent (s : State) (p : List Byte) (mask : Nat) : Nat :=
  let perm := leAt p 8 4
  let life := leAt p 4 4
  if p.length ≠ 112 ∨ !onCurve (beAt p 16 48) (beAt p 64 48) then 0x01
  else if bitAt perm 3 || bitAt perm 6 || bitAt perm 8 || bitAt perm 9 || maskWithout perm mask != 0 || leAt p 0 4 == 0
      || life == 0 || decide (86400 < life) || leAt p 12 4 != 0 then 0x0D
  else if (s.grantSlot (leAt p 0 4)).isNone then 0x1D
  else 0

/-- The session key (R86). A device key of 0, which no module has, gives a point without coordinates: its x is free. -/
def sessionKey (s : State) (p : List Byte) (counter : Nat) : List Byte × State :=
  let (zx, s) := match ecMul 384 s.fuses.devPriv (some (beAt p 16 48, beAt p 64 48)) with
    | some (x, _) => (beBytes 48 x, s)
    | none => s.freeBytes 12
  ((sha384 (zx ++ [0x50, 0x56, 0x53, 0x4B] ++ leBytes 4 (leAt p 0 4) ++ leBytes 8 counter)).take 32, s)

def grantApply (s : State) (c : Cmd) : State :=
  let p := c.payload
  let (key, s) := s.sessionKey p c.counter
  let x : Session := { id := leAt p 0 4, key, keyid := c.keyid, life := leAt p 4 4, left := leAt p 4 4, perm := leAt p 8 4 }
  match s.grantSlot x.id with
  | none => s
  | some n =>
    let s := ({ s with tru := { s.tru with sessions := modNth (fun _ => { held := some x, ended := 0 }) n s.tru.sessions } } : State).sessShow
    s.sessRecord 0x0006 x.id x.life c.keyid c.counter

/-- GRANT (R86). -/
def grantRun (s : State) (c : Cmd) : State :=
  let mask := match s.signer c with | .ok g => g.mask | .error _ => 0
  s.opRun c (fun m => m != STANDBY) (s.grantContent c.payload mask) fun s => s.grantApply c

/-- REVOKE ends the named session, or all (R87). -/
def revokeApply (s : State) (c : Cmd) : State :=
  let id := leAt c.payload 0 4
  [0, 1, 2, 3].foldl (fun s n => match (s.tru.sessions.getD n {}).held with
    | some h => if id = 0 ∨ h.id = id then (s.sessEnd n).sessRecord 0x0007 h.id h.life c.keyid c.counter else s
    | none => s) s

def revokeRun (s : State) (c : Cmd) : State :=
  s.opRun c (fun _ => true) (if c.payload.length = 4 then 0 else 0x01) fun s => s.revokeApply c

/-- The lifetime of a slot's session has elapsed (R87). -/
def sessExpire (s : State) (n : Nat) : State := match (s.tru.sessions.getD n {}).held with
  | some h => (s.sessEnd n).sessRecord 0 h.id h.life 0 0
  | none => s

/-! ## Debug access (R100) -/

def debugContent (p : List Byte) : Nat :=
  let d := leAt p 4 4
  if p.length ≠ 8 then 0x01
  else if leAt p 0 1 = 0 ∨ 15 < leAt p 0 1 ∨ 1 < leAt p 1 1 ∨ leAt p 2 2 ≠ 0 ∨ d = 0 ∨ 28800 < d then 0x0D
  else 0

def debugApply (s : State) (c : Cmd) : State :=
  let p := c.payload
  let d := leAt p 4 4
  let s := s.putN Reg.TRU_DBG_STAT (d * 65536 + leAt p 1 1 * 256 + leAt p 0 1)
  let s := ({ s with tru := { s.tru with dbgDuration := d } } : State).setFlag Reg.TRU_STAT 30 true
  s.debugRecord 0x0008 c.keyid c.counter

/-- DEBUG_UNLOCK. -/
def debugRun (s : State) (c : Cmd) : State := s.opRun c idleMode (debugContent c.payload) fun s => s.debugApply c

/-! ## Attestation (R108) -/

/-- The device-key signature over the nonce, LOG_HEAD, LOG_SEQ - 1 and the UID is ready: an ECDSA signature whose own nonce, which the spec
does not give, is free (log entry 3). -/
def attDone (s : State) (a : List Byte × List Byte × Nat) : State :=
  let (k, s) := s.freeBytes 12
  let sig := ecdsaSign s.fuses.devPriv (beNat k) (a.1 ++ a.2.1 ++ leBytes 4 a.2.2 ++ leBytes 8 s.fuses.uid)
  let s := (s.putBytes (Reg.LOG_ATT_SIG 0) 24 sig).putN Reg.LOG_ATT_SEQ a.2.2
  (({ s with tru := { s.tru with att := none } } : State).setFld Reg.LOG_ATT_STAT 1 0 2).irq 31

/-- The command in front may end its verification: no image check and no bank digest is under way. -/
def headReady (s : State) : Option Cmd :=
  if s.tru.verifying then none
  else match s.tru.bank with
    | some x => if x.accepted then s.tru.queue.head? else none
    | none => s.tru.queue.head?

end State
end Sys2Proof.Machine
end

