-- ==== Sys2Proof/Machine/Boot.lean ====
section
/-!
DEFINITION. Boot (R61-R64, R77, R80, R508), the pins and monitors that hold the module in reset (R56, R58), and STANDBY's save and wake
(R65, R67, R68).
-/
namespace Sys2Proof.Machine
namespace State

/-! ## Starting to boot -/

/-- An open promotion journal is completed from PENDING (R80). -/
def promoteComplete (s : State) : State := match s.tru.promote with
  | none => s
  | some k =>
    let s := ((List.range 48).drop k).foldl (fun s i => s.copyRange (pendingSlot + i * 65536) (activeSlot + i * 65536) 65536) s
    { s with tru := { s.tru with promote := none } }

/-- An open log entry: one with its mark completes its slot; one without is discarded, and a GAP record that counts it takes its SEQ
(R107, R509). LOG_GAPS, the records dropped since power-on, does not count it: the model's choice (log entry 211). -/
def entryComplete (s : State) : State :=
  let t : State := { s with log := { s.log with openEntry := none } }
  if s.log.openEntry = some false then t.logRecord { type := 0x000A, detail := leBytes 4 1 } else t

/-- A COMMIT whose run the journal holds complete takes its effect: the run, the counter and its record (R60, R88, R96). -/
def runComplete (s : State) : State :=
  match s.log.openRun with
  | none => s
  | some c =>
    let t : State := { s with log := { s.log with openRun := none } }
    match commitBody? c.payload with
    | some b => (((t.setBytes b.runAddr b.run).takeCounter c.counter).cmdRecord c.src c.hdr 0).2
    | none => t

def journalComplete (s : State) : State := s.promoteComplete.entryComplete.runComplete

/-- A journal of R80 or R107 is open. -/
def journalOpen (s : State) : Bool := s.tru.promote.isSome || s.log.openEntry.isSome || s.log.openRun.isSome

/-- The Starter begins (R62): the time base is released (R426), HEAD_SEL is sampled (R238), and the MRAM die, measured at t, opens or
closes the write window; an open journal outside the window holds the boot (R508). -/
def bootStart (s : State) (headB : Bool) (t : Int) : State :=
  let s := ({ s with sys := { s.sys with phase := .boot, headB, released := s.tickNo } } : State).timRelease
  let s := (s.setFlag Reg.PTN_STAT 27 headB).mramResult t
  if s.journalOpen ∧ s.mramBarred then { s with sys := { s.sys with bootHeld := true } } else s.journalComplete

/-- The die has entered the window: the journal is completed and the times of boot run from here (R508). -/
def bootResume (s : State) (t : Int) : State :=
  let s := s.mramResult t
  if s.mramBarred then s
  else ({ s with sys := { s.sys with bootHeld := false, released := s.tickNo } } : State).journalComplete

/-! ## Ending boot -/

/-- One core image reaches its destinations (R480). TCM addresses go to the TCM of core n. -/
def loadImage (s : State) (b : Nat) (x : Sect) : State :=
  let n := x.flags % 4
  let a := b + x.off
  let place := fun (d : Nat) => if 0x80000000 ≤ d then tcmBase n + (d - 0x80000000) else d
  let s := (s.coreSegs a).foldl (fun s g => (s.copyRange (a + g.2.2.2) (place g.1) g.2.1).zeroRange (place (g.1 + g.2.1)) g.2.2.1) s
  s.coreRelease n (s.memN a 4)

/-- The Starter blows anti-rollback fuses up to SECVER (R77) and records it. -/
def raiseSecver (s : State) (b : Nat) : State :=
  let new := s.memN (b + 0xC) 1
  let old := s.fuses.secver
  if bitAt (s.memN (b + 7) 1) 0 && decide (old < new) then
    (({ s with fuses := { s.fuses with secver := new } } : State).fusedShow).logRecord { type := 0x0007, detail := leBytes 1 old ++ leBytes 1 new }
  else s

/-- Every section in force, banks judged and bank A active, cores released, the safety set handed over, blocks initialised (R62). -/
def bootAccept (s : State) (b : Nat) : State :=
  let s := (s.raiseSecver b).applyRecipe b
  let chk := fun (s : State) (k : Nat) (beyond : Option Nat) => match (s.sectsOf b (3 + k)).head? with
    | some x => s.recordCheck k (s.bankCheck k x.len beyond)
    | none => s
  let s := (chk (chk s 0 none) 1 (some 0)).activateBank 0
  let s := match (s.sectsOf b 3).head? with
    | some x => s.putN Reg.PTN_BDIG (leNat ((sha384 (s.bytesAt (bankBase 0) x.len)).take 4))
    | none => s
  let s := { s with sys := { s.sys with recipeOk := true } }
  let s := (s.sectsOf b 0x0B).foldl (fun s x => s.loadImage b x) s
  let s := match s.sectAt b 0x08 with
    | some a => let set := s.bytesAt (a + 0x200) 64; s.isl (·.deliver set)
    | none => s
  (s.baseWritten.setDeadline.lanesStart).geomShow

/-- RESULT in SYS_BOOT_STAT with the fused version, SYS_BOOT_TIME, and the BOOT record (R61, R69, R103). -/
def bootShow (s : State) (result : Nat) : State :=
  let s := s.putN Reg.SYS_BOOT_STAT (s.fuses.secver * 256 + result)
  let s := s.putN Reg.SYS_BOOT_TIME ((s.tickNo - s.sys.released) * 8 / 1000)
  s.logRecord { type := 0x0003, code := s.getN Reg.SYS_RESET_CAUSE % 65536, result := b2n (result != 0),
                detail := leBytes 4 (s.getN Reg.SYS_RESET_CAUSE) ++ leBytes 4 (s.getN Reg.SYS_BOOT_STAT) ++ leBytes 4 (s.getN Reg.SYS_BOOT_TIME) }

/-- A raise that carries BOOT (R356). -/
def raiseBoot (s : State) (code item value : Nat) : State :=
  { s with flt := { s.flt with todo := s.flt.todo ++ [{ code, item, value, boot := true }] } }

/-- A cause latched in bits lo to hi of GDR_HB_FLT: its source is present and raised. -/
def bootCause (s : State) (h code lo hi : Nat) : State :=
  let v := s.getN (Reg.GDR_HB_FLT h)
  if fieldOf v hi lo = 0 then s
  else (s.setFlag (Reg.FLT_ACTIVE ((code + h) / 32)) ((code + h) % 32) true).raiseBoot (code + h) h v

/-- The fault manager raises what the reset left latched: gate-drive causes and thermal latches (R309, R356). A thermal source that has been
raised since the reset is none of these. -/
def bootRaise (s : State) : State :=
  let s := (List.range 6).foldl (fun s h =>
    ((((s.bootCause h 0x08 0 1).bootCause h 0x0E 2 3).bootCause h 0x14 4 5).bootCause h 0x98 6 7).bootCause h 0xA0 8 8) s
  ((List.range 15).filter fun k => s.fltLatched (0x1A + k) && !s.flt.srcs.any fun x => x.1 == 0x1A + k).foldl
    (fun s k => s.raiseBoot (0x1A + k) (if k = 0 then 0xFFFF else if k < 9 then k - 1 else k - 9) 0) s

/-- What boot leaves of a check with RESULT r: the Recipe in force, or the code of a bank that failed (R204). -/
def bootJudge (s : State) (b r : Nat) : State :=
  match r with
  | 0 => s.bootAccept b
  | 7 => if s.contentOk (s.applyRecipe b) b then s.setFld Reg.KNE_PROG_STAT 11 8 ((s.applyRecipe b).bootBanks b).1 else s
  | _ => s

/-- The handover in mode m with REASON code. -/
def bootHandover (s : State) (m reason : Nat) : State :=
  let s := { s with sys := { s.sys with phase := .run, tickMode := m, wdtKick := List.replicate 4 s.tickNo } }
  let s := (s.putN Reg.SYS_MODE (reason * 256 + m)).logMode 0 m 0 reason 0 0 s.cycle
  let s := (List.range 6).foldl legStat ([0, 1, 2, 3].foldl tgtShow (s.adcStart.hkStart 0 false))
  let s := s.setFlag Reg.PWM_STAT 6 (decide (m ≤ 1))
  let s := ((s.pwmIsland (!s.island.gen)).irq 36).pinShow.clkShow
  { s with sys := { s.sys with tickRegs := s.regs } }

/-- The end of boot: SAFE with the Recipe in force, or LOAD (R46, R62, R64). -/
def bootEnd (s : State) (r : Nat) : State :=
  let s := ((s.bootJudge activeSlot r).bootShow r).loneLead
  match r with
  | 0 =>
    let s := s.bootHandover SAFE 0
    (if s.flag Reg.REC_CFG 18 then s.recArm else s).bootRaise
  | _ => (s.bootHandover LOAD 0xB).bootRaise

/-! ## Sources that hold reset (R56, R58) -/

/-- NRST_DUR code of a low time in ns (R69). -/
def nrstDur (ns : Nat) : Nat :=
  if ns < 1000000 then 0 else if ns < 100000000 then 1 else if ns < 10000000000 then 2 else 3

/-- nRESET has been high for 10 µs: boot may start. The low time counts to the rising edge. -/
def nresetRelease (s : State) : State :=
  let low := (s.tickNo - s.sys.nresetFell) * 8 - 10000
  let s := s.setFld Reg.SYS_RESET_CAUSE 13 12 (nrstDur low)
  { s with sys := { s.sys with nresetLow := false, nresetHeld := false, released := s.tickNo } }

/-- A monitored rail leaves its reset band (R58). -/
def supplyReset (s : State) (rail : Nat) : State :=
  let s := s.setFlag Reg.SYS_RAIL_STAT rail false
  let s := ({ s with sys := { s.sys with supplyBad := true, supplyTick := s.tickNo } } : State).resetModule 1
  s.setFld Reg.SYS_RESET_CAUSE 19 16 rail

/-- Every rail has been back for 2 ms (R58). The excursion counts from the last report that a rail left its band: when a rail came back
within it, no command tells. -/
def railReturn (s : State) : State :=
  ({ s with sys := { s.sys with supplyBad := false, released := s.tickNo } } : State).setFld Reg.SYS_RAIL_STAT 6 0 0x7F

/-! ## STANDBY (R65-R68) -/

/-- The retention save is complete: the module is in STANDBY, the Kneader's and the modulator's state is discarded (R41), the ADC segments
are unpowered (R314), and the watchdogs keep their count until the wake (DEDUCED, log entry 22:
R66 does not list them among what runs). -/
def standbyEnter (s : State) : State :=
  let s := ({ s with sys := { s.sys with saving := false } } : State).setMode STANDBY 1 s.sys.stbyKeyid s.sys.stbyCounter
  let s := (((s.icuSave.sessEndAll).recStop).riseSafe).pwmSafe
  let s := { s with flt := { s.flt with gfHold := 0, gfLast := none } }
  [0, 1, 2, 3].foldl wdtPause s.kneDiscard.modDiscard.adcStop

/-- The bit of a wake source in SYS_STBY_CFG is 1 (R67). -/
def wakeEnabled (s : State) (source : Nat) : Bool :=
  (source == 2 && s.flag Reg.SYS_STBY_CFG 0) || (source == 3 && s.flag Reg.SYS_STBY_CFG 1)
    || (source == 4 && s.flag Reg.SYS_STBY_CFG 2) || (source == 5 && s.flag Reg.SYS_STBY_CFG 3)

/-- An enabled source wakes the module, or ends an entry into STANDBY (R67, R68). -/
def wakeBy (s : State) (source : Nat) : State := if s.wakeEnabled source then s.wake source else s

/-- What an enabled source must find to assert: for the ICU a pending source with WAKE, for the thermal warning THERM_WARN (R67, R489). -/
def wakeAsserts (s : State) (source : Nat) : Bool :=
  s.wakeEnabled source
    && (source != 4 || (List.range 320).any fun i => s.icuPending i && bitAt (s.icuCfg i) 7)
    && (source != 5 || s.condition 0xE8)

/-- The wake is complete: SAFE, with the ICU state restored (R67). -/
def wakeDone (s : State) (source : Nat) : State :=
  let s := { s with sys := { s.sys with waking := none } }
  let s := (s.setFld Reg.SYS_STBY_STAT 2 0 source).setMode SAFE 9 0 0
  let s := [0, 1, 2, 3].foldl (fun s n => if (s.coreSt n).halted then s else s.wdtResume n) s
  (((s.lanesStart).icuRestore).adcStart.riseSafe).pinShow

end State
end Sys2Proof.Machine
end

