-- ==== Sys2Proof/Machine/Net.lean ====
section
/-!
DEFINITION. Ethernet (R449-R458): reception and its five destinations, the Uzopex reassembly, safe-data copies, the receive and transmit
rings, the order of sending, and the link.
-/
namespace Sys2Proof.Machine

/-- A received frame read from its destination MAC on; at most one tag. -/
structure EthHead where
  dst : List Byte
  src : List Byte
  vid : Option Nat
  etype : Nat
  off : Nat

def ethHead (f : List Byte) : EthHead :=
  let t := beAt f 12 2
  if t = 0x8100 then { dst := f.take 6, src := slice f 6 6, vid := some (beAt f 14 2 % 4096), etype := beAt f 16 2, off := 18 }
  else { dst := f.take 6, src := slice f 6 6, vid := none, etype := t, off := 14 }

/-- A UDP datagram that is no fragment: family, addresses, ports, payload, and whether its checksums and lengths are right. -/
structure Datagram where
  fam : Nat
  src : List Byte
  dst : List Byte
  sport : Nat
  dport : Nat
  body : List Byte
  good : Bool

/-- The UDP part u of a packet (RFC 768). A checksum of 0 is accepted over IPv4 (R451). -/
def udpPart (fam : Nat) (src dst u : List Byte) (headOk : Bool) : Datagram :=
  let len := beAt u 4 2
  let whole := u.take len
  let sumOk := inetChecksum (pseudo fam 17 src dst len ++ whole) == 0 || (fam == 4 && beAt u 6 2 == 0)
  { fam, src, dst, sport := beAt u 0 2, dport := beAt u 2 2, body := whole.drop 8,
    good := headOk && decide (8 ≤ len) && decide (len ≤ u.length) && sumOk }

/-- The UDP datagram in a frame, if it carries one whole (R451). -/
def datagram? (f : List Byte) : Option Datagram :=
  let h := ethHead f
  let p := f.drop h.off
  if h.etype = 0x0800 then
    let ihl := leAt p 0 1 % 16 * 4
    if leAt p 0 1 / 16 = 4 ∧ 20 ≤ ihl ∧ leAt p 9 1 = 17 ∧ beAt p 6 2 % 0x4000 = 0 then
      let total := beAt p 2 2
      some (udpPart 4 (slice p 12 4) (slice p 16 4) (slice p ihl (total - ihl))
        (inetChecksum (p.take ihl) == 0 && decide (ihl + 8 ≤ total) && decide (total ≤ p.length)))
    else none
  else if h.etype = 0x86DD then
    if leAt p 0 1 / 16 = 6 ∧ leAt p 6 1 = 17 then
      some (udpPart 6 (slice p 8 16) (slice p 24 16) (slice p 40 (beAt p 4 2)) (decide (40 + beAt p 4 2 ≤ p.length)))
    else none
  else none

/-- The first n bits of two addresses are equal. -/
def prefixEq (n : Nat) (a b : List Byte) : Bool :=
  let w := a.length * 8
  beNat a / 2 ^ (w - n) == beNat b / 2 ^ (w - n)

/-- An event message of PTP, version 2 (R440). -/
def ptpMessage (b : List Byte) : Bool := decide (leAt b 0 1 % 16 ≤ 3) && leAt b 1 1 % 16 == 2

namespace State

/-! ## Addresses (R450, R451) -/

/-- An address of the port in the family; the link-local one while IPv6 is on. -/
def ownAddr (s : State) (p fam : Nat) (a : List Byte) : Bool :=
  if fam = 4 then !allZero (s.ownIp4 p) && a == s.ownIp4 p
  else !allZero (s.ownIp6 p) && (a == s.ownIp6 p || a == s.linkLocal p)

/-- The tag of a frame admits it to the hardware destinations (R451). -/
def tagFits (s : State) (p : Nat) (h : EthHead) : Bool :=
  match h.vid with
  | none => true
  | some v => s.flag (Reg.ETH_CFG p) 15 && v == s.fld (Reg.ETH_CFG p) 27 16

/-- A PTP event message in a transport that TIM_ETH_CFG enables (R440, R447). -/
def ptpEvent (s : State) (p : Nat) (f : List Byte) : Bool :=
  let h := ethHead f
  if h.etype = 0x88F7 then s.flag (Reg.TIM_ETH_CFG p) 4 && ptpMessage (f.drop h.off)
  else match datagram? f with
    | some d => d.dport == 319 && s.flag (Reg.TIM_ETH_CFG p) (if d.fam = 4 then 5 else 6) && ptpMessage d.body
    | none => false

/-- The reply to an ARP request (RFC 826) or a neighbour solicitation (RFC 4861) for an address of the port (R450). -/
def ethReply? (s : State) (p : Nat) (f : List Byte) : Option (List Byte) :=
  let h := ethHead f
  let b := f.drop h.off
  if !s.tagFits p h then none
  else if h.etype = 0x0806 then
    if beAt b 0 2 = 1 ∧ beAt b 2 2 = 0x0800 ∧ leAt b 4 1 = 6 ∧ leAt b 5 1 = 4 ∧ beAt b 6 2 = 1 ∧ s.ownAddr p 4 (slice b 24 4) = true then
      some (s.macHead p (slice b 8 6) 0x0806 ++ [0, 1, 8, 0, 6, 4, 0, 2] ++ s.ownMac p ++ slice b 24 4 ++ slice b 8 10)
    else none
  else if h.etype = 0x86DD ∧ leAt b 6 1 = 58 ∧ leAt b 7 1 = 255 ∧ beAt b 40 2 = 0x8700 ∧ s.ownAddr p 6 (slice b 48 16) = true
      ∧ inetChecksum (pseudo 6 58 (slice b 8 16) (slice b 24 16) (beAt b 4 2) ++ slice b 40 (beAt b 4 2)) = 0 then
    let target := slice b 48 16
    let asked := !allZero (slice b 8 16)
    let dst := if asked then slice b 8 16 else [0xFF, 2, 0, 0, 0, 0, 0, 0, 0, 0, 0, 0, 0, 0, 0, 1]
    let mac := if asked then h.src else [0x33, 0x33, 0, 0, 0, 1]
    let na := fun (ck : Nat) => [136, 0] ++ beBytes 2 ck ++ [if asked then 0x60 else 0x20, 0, 0, 0] ++ target ++ [2, 1] ++ s.ownMac p
    let ck := inetChecksum (pseudo 6 58 target dst 32 ++ na 0)
    some (s.macHead p mac 0x86DD ++ [0x60, 0, 0, 0, 0, 32, 58, 255] ++ target ++ dst ++ na ck)
  else none

/-! ## Uzopex (R455-R457) -/

/-- UZ_STAT of both ports. -/
def uzShow (s : State) : State := [0, 1].foldl (fun s p => s.putN (Reg.ETH_UZ_STAT p) s.uz.length) s

def setUz (s : State) (l : List Reasm) : State := ({ s with uz := l } : State).uzShow

/-- The allow list admits a source on the port (R456, R459). -/
def uzAllowed (s : State) (p fam : Nat) (a : List Byte) : Bool :=
  (List.range 8).any fun q =>
    let w := s.getN (Reg.ETH_UZA p q 0)
    fieldOf w 7 0 == fam && bitAt w (16 + p)
      && prefixEq (fieldOf w 15 8) a ((s.getBytes (Reg.ETH_UZA p q 1) 4).take (if fam = 4 then 4 else 16))

/-- A complete block arrives (R89, R456, R457): one that breaks its format is answered in this tick. -/
def uzArrive (s : State) (p : Nat) (x : Peer) (msgId : Nat) (b : List Byte) : State :=
  let hdr := b.take 96
  let included := bitAt (leAt hdr 0x19 1) 0
  let body := if included then 288 else 192
  let c : Cmd := { src := 5, port := p, reply := x.bytes msgId, hdr := hdr ++ List.replicate (96 - hdr.length) 0, auth := slice b 96 96,
                   key := if included then slice b 192 96 else [], payload := b.drop body,
                   badFormat := b.length != body + leAt hdr 0x20 4, stageBad := false }
  if s.waiting < 4 ∧ formatReason c ≠ 0 then s.cmdEnd c (formatReason c) else s.arrive c

/-- A segment that breaks R455 or disagrees with its reassembly ends it, and is answered with BAD_FORMAT. -/
def uzBreak (s : State) (p : Nat) (x : Peer) (msgId : Nat) (rest : List Reasm) : State :=
  ((s.setUz rest).ethCount p 12).uzRespond p (x.bytes msgId) 0x01 0xFFFFFFFF 0 0

/-- The fields of a segment's header fit each other (R455). -/
def segmentOk (b : List Byte) : Bool :=
  let sg := leAt b 8 1
  let n := leAt b 9 1
  let len := leAt b 10 2
  let total := leAt b 12 4
  leAt b 0 4 == 0x58505A55 && leAt b 4 1 == 1 && leAt b 5 1 == 1 && decide (1 ≤ n) && decide (n ≤ 64) && decide (sg < n) && b.length == 16 + len
    && (if sg + 1 = n then decide (1 ≤ len) && decide (len ≤ 1408) && total == (n - 1) * 1408 + len
        else len == 1408 && decide ((n - 1) * 1408 < total) && decide (total ≤ n * 1408))

/-- A segment of a Uzopex request (R456). -/
def uzSegment (s : State) (p : Nat) (h : EthHead) (d : Datagram) : State :=
  let b := d.body
  let id := leAt b 6 2
  let x : Peer := { fam := d.fam, mac := h.src, addr := d.src, port := d.sport }
  let mine := fun (r : Reasm) => r.fam == d.fam && r.addr == d.src && r.udp == d.sport && r.msgId == id
  let rest := s.uz.filter fun r => !mine r
  if !d.good then s.ethCount p 12
  else if !s.uzAllowed p d.fam d.src then
    let s := ((s.ethCount p 11).stick (Reg.ETH_EVT p) 6).putN (Reg.ETH_DENY_FAM p) d.fam
    s.putBytes (Reg.ETH_DENY_ADDR p 0) 4 ((d.src ++ List.replicate 16 0).take 16)
  else
    let n := leAt b 9 1
    let total := leAt b 12 4
    match s.uz.find? mine with
    | none =>
      if !segmentOk b then s.uzBreak p x id rest
      else if n = 1 then (s.ethCount p 10).uzArrive p x id (b.drop 16)
      else if 4 ≤ s.uz.length then s.ethCount p 12
      else
        let r : Reasm := { fam := d.fam, addr := d.src, udp := d.sport, msgId := id, nseg := n, total, segs := [(leAt b 8 1, b.drop 16)],
                           tick := s.tickNo, port := p }
        (s.ethCount p 10).setUz (s.uz ++ [r])
    | some r =>
      if !segmentOk b || r.nseg != n || r.total != total then s.uzBreak p x id rest
      else if r.segs.any fun g => g.1 == leAt b 8 1 then s
      else
        let segs := (leAt b 8 1, b.drop 16) :: r.segs
        let s := s.ethCount p 10
        if segs.length = n then
          (s.setUz rest).uzArrive p x id ((sortBy (fun a b => decide (a.1 < b.1)) segs).flatMap (·.2))
        else s.setUz (s.uz.map fun q => if mine q then { q with segs } else q)

/-- 100 ms after its first segment a reassembly is dropped (R456). -/
def uzTimeout (s : State) (k : Nat) (r : Reasm) : State := (s.setUz (s.uz.eraseIdx k)).ethCount r.port 13

/-! ## Safe data (R458) -/

def sdReceive (s : State) (p : Nat) (d : Datagram) : State :=
  let peer := (s.getBytes (Reg.ETH_SD_ADDR p 0) 4).take (if d.fam = 4 then 4 else 16)
  if d.fam ≠ s.fld (Reg.ETH_SD_FAM p) 7 0 ∨ d.src ≠ peer ∨ d.sport ≠ 47811 then s.ethCount p 16
  else
    let b := if d.good && d.body.length == 32 then d.body else []
    let s := s.ethCount p 15
    if s.island.up then { s with island := { s.island with rx := s.island.rx ++ [(p, b)] } } else s

/-! ## The receive ring (R451, R453, R454) -/

/-- The software ring admits a destination MAC (R451, R472). -/
def rxAdmits (s : State) (p : Nat) (dst : List Byte) : Bool :=
  let f := fun i => s.flag (Reg.ETH_RX_FILT p) i
  let multi := leAt dst 0 1 % 2 == 1
  let bcast := dst == [0xFF, 0xFF, 0xFF, 0xFF, 0xFF, 0xFF]
  let ptp := dst == [0x01, 0x1B, 0x19, 0, 0, 0] || dst == [0x01, 0x80, 0xC2, 0, 0, 0x0E] || dst == [0x01, 0x00, 0x5E, 0x00, 0x01, 0x81]
    || dst == [0x01, 0x00, 0x5E, 0x00, 0x00, 0x6B] || dst == [0x33, 0x33, 0, 0, 0x01, 0x81] || dst == [0x33, 0x33, 0, 0, 0, 0x6B]
  let i := crc32 dst / 2 ^ 26
  dst == s.ownMac p || f 4 || (bcast && f 0)
    || (multi && !bcast && (f 3 || (f 2 && ptp) || (f 1 && s.flag (Reg.ETH_MCHASH p (i / 32)) (i % 32))))

/-- Descriptor k of a ring with this base. -/
def descAt (s : State) (base k : Nat) : Nat := s.getN base + 16 * k

/-- HEAD advances modulo N. -/
def headNext (s : State) (cfg head : Nat) : State := s.putN head ((s.getN head + 1) % (max 1 (s.fld cfg 10 0)))

/-- Bytes written to shared core RAM; what lies outside it is lost. -/
def putShared (s : State) (a : Nat) (bs : List Byte) : State :=
  if inShared a && inShared (a + bs.length - 1) then s.setBytes a bs else s

/-- A frame for the software ring, stamped pos units of 250 ps before the tick. -/
def rxRing (s : State) (p : Nat) (f : List Byte) (pos : Nat) : State :=
  let head := s.fld (Reg.ETH_RXR_HEAD p) 9 0
  let a := s.descAt (Reg.ETH_RXR_BASE p) head
  if !s.flag (Reg.ETH_STAT p) 4 || head == s.fld (Reg.ETH_RXR_TAIL p) 9 0 || !bitAt (s.memN (a + 8) 1) 7 then
    (s.ethCount p 4).stick (Reg.ETH_EVT p) 2
  else
    let buf := s.memN a 4
    let t := if s.flag (Reg.TIM_ETH_CFG p) 0 then s.stampAgo pos else (0, 0, 0)
    let s := (s.putShared buf f).putShared (buf + 1528) (leBytes 6 t.1 ++ [0, 0])
    let st := b2n (ethHead f).vid.isSome + 2 * b2n (s.ptpEvent p f)
    let s := s.putShared (a + 4) (leBytes 2 f.length ++ [0, 0] ++ leBytes 1 0 ++ leBytes 1 st ++ [0, 0] ++ leBytes 4 (t.2.2 * 2 ^ 30 + t.2.1))
    (s.headNext (Reg.ETH_RXR_CFG p) (Reg.ETH_RXR_HEAD p)).setEvt (Reg.ETH_EVT p) 4 (20 + 3 * p)

/-- A frame without its FCS has arrived on port p (R449, R451, R471); bad is the number of invalid code-groups met. -/
def ethReceive (s : State) (p : Nat) (f : List Byte) (fcsOk : Bool) (bad : Nat) (pos : Nat) : State :=
  let s := if bad = 0 then s else s.addFld (Reg.ETH_CNT p 3) 31 0 bad
  if f.length < 60 ∨ 1518 < f.length then s.ethCount p 2
  else if !fcsOk then s.ethCount p 1
  else
    let s := (s.ethCount p 0).evt (0x048 + 2 * p)
    let h := ethHead f
    if h.etype = 0x8808 then (s.ethCount p 6).stick (Reg.ETH_EVT p) 7
    else match s.ethReply? p f with
      | some r => s.ethQueue p 1 r
      | none =>
        let hard := match datagram? f with
          | some d =>
            if s.tagFits p h && s.ownAddr p d.fam d.dst then
              if d.dport = 47810 ∧ s.flag (Reg.ETH_CFG p) 3 = true then some (s.uzSegment p h d)
              else if d.dport = 47811 ∧ s.flag (Reg.ETH_CFG p) 4 = true then some (s.sdReceive p d)
              else none
            else none
          | none => none
        match hard with
        | some t => t
        | none => if s.rxAdmits p h.dst then s.rxRing p f pos else s.ethCount p 5

/-! ## Sending (R452, R454) -/

/-- The transmit descriptor at HEAD. -/
def txDesc (s : State) (p : Nat) : Nat := s.descAt (Reg.ETH_TXR_BASE p) (s.fld (Reg.ETH_TXR_HEAD p) 9 0)

/-- The transmit descriptor at address a, the one at HEAD, completes with a STATUS, and HEAD leaves it. -/
def txComplete (s : State) (p a st : Nat) : State :=
  let own := s.memN (a + 8) 1 % 128
  let t := s.putShared (a + 8) (leBytes 1 own ++ leBytes 1 st)
  (t.headNext (Reg.ETH_TXR_CFG p) (Reg.ETH_TXR_HEAD p)).setEvt (Reg.ETH_EVT p) 3 (21 + 3 * p)

/-- The port takes the next frame in the order of R452. -/
def ethPick (s : State) (p : Nat) : State :=
  let e := s.ethSt p
  if e.cur.isSome then s
  else
    let take := fun (f : EthOut) (g : Eth → Eth) =>
      if s.linkUp p then s.setEth p fun e => { g e with cur := some f, curTick := s.tickNo } else (s.setEth p g).ethCount p 9
    match e.spdus, e.replies, e.responses with
    | f :: _, _, _ => take f fun e => { e with spdus := e.spdus.drop 1 }
    | [], f :: _, _ => take f fun e => { e with replies := e.replies.drop 1 }
    | [], [], f :: _ => take f fun e => { e with responses := e.responses.drop 1 }
    | [], [], [] =>
      let a := s.txDesc p
      if !s.flag (Reg.ETH_STAT p) 3 || s.fld (Reg.ETH_TXR_HEAD p) 9 0 == s.fld (Reg.ETH_TXR_TAIL p) 9 0 || !bitAt (s.memN (a + 8) 1) 7 then s
      else
        let len := s.memN (a + 4) 2
        let buf := s.memN a 4
        if len < 14 ∨ 1518 < len ∨ inShared buf = false ∨ inShared (buf + len - 1) = false then s.txComplete p a 1
        else if !s.linkUp p then (s.txComplete p a 2).ethCount p 9
        else
          let f : EthOut := { kind := 3, bytes := s.bytesAt buf len, id := s.memN (a + 6) 2, tsReq := bitAt (s.memN (a + 8) 1) 0, desc := some a }
          s.setEth p fun e => { e with cur := some f, curTick := s.tickNo }

/-- Ticks that a frame takes on the line: 8 bytes before it, its bytes padded to 60, and the FCS, at 1 Gbit/s (R449, R453). -/
def ethTicks (f : EthOut) : Nat := 8 + max 60 f.bytes.length + 4

/-- The frame on the line of port p has had the time to leave (R452). -/
def ethLeft (s : State) (p : Nat) : Bool := match (s.ethSt p).cur with
  | some f => decide ((s.ethSt p).curTick + ethTicks f ≤ s.tickNo)
  | none => false

/-- The frame on the line has left the port; its timestamp point left J2 pos units of 250 ps before the tick (R441, R454). -/
def ethSent (s : State) (p : Nat) (f : EthOut) (pos : Nat) : State :=
  let out := f.bytes ++ List.replicate (60 - f.bytes.length) 0
  let s := s.setEth p fun e => { e with cur := none, sent := out ++ leBytes 4 (crc32 out) }
  let s := (s.ethCount p 8).evt (0x049 + 2 * p)
  match f.kind with
  | 0 => s.ethCount p 17
  | 1 => s.ethCount p 7
  | 2 => s.ethCount p 14
  | _ =>
    let s := match f.desc with | some a => s.txComplete p a 0 | none => s
    if f.tsReq && s.flag (Reg.TIM_ETH_CFG p) 1 && s.ptpEvent p f.bytes then
      let t := s.stampAgo pos
      s.txPush p { id := f.id, sec := t.1, ns := t.2.1, sub := t.2.2 }
    else s

/-! ## The link (R449) -/

/-- The PCS is synchronised (lp none) or, with AN_EN, auto-negotiation has given the partner's base page lp. -/
def ethLinkUp (s : State) (p : Nat) (lp : Option Nat) : State :=
  let up := fun (s : State) => (s.setFlag (Reg.ETH_STAT p) 0 true).setEvt (Reg.ETH_EVT p) 1 (22 + 3 * p)
  let s := s.setFlag (Reg.ETH_STAT p) 1 true
  if !s.flag (Reg.ETH_CFG p) 2 then up s
  else match lp with
    | none => s
    | some lp =>
      let s := ((s.setFlag (Reg.ETH_STAT p) 2 true).putN (Reg.ETH_AN_LP p) (lp % 65536)).setFlag (Reg.ETH_STAT p) 5 (bitAt lp 5)
      if bitAt lp 5 then up s else s

/-- Synchronisation is lost, or auto-negotiation starts again, on a port whose link was not up (R472). -/
def ethSyncLost (s : State) (p : Nat) : State := s.setFld (Reg.ETH_STAT p) 2 0 0

/-- The link goes down: the frame on the line is lost. -/
def ethLinkDown (s : State) (p : Nat) : State :=
  let cur := (s.ethSt p).cur
  let s := s.setEth p fun e => { e with cur := none }
  let s := match cur with
    | some f => (match f.desc with | some a => s.txComplete p a 2 | none => s).ethCount p 9
    | none => s
  (s.setFld (Reg.ETH_STAT p) 2 0 0).setEvt (Reg.ETH_EVT p) 0 (22 + 3 * p)

/-- The ports run: not in the state of R64. -/
def ethOn (s : State) (p : Nat) : Bool := s.live && s.sys.recipeOk && s.flag (Reg.ETH_CFG p) 0

end State
end Sys2Proof.Machine
end

