-- ==== Sys2Proof/Machine/Csr.lean ====
section
/-!
DEFINITION. What debug sees of a core (R37-R40, R475, R488, R491): its accesses to the bus, its control and status registers, and its
registers by number. A register that no command has made known is free (log entry 3); once read in a halt it keeps its value.
-/
namespace Sys2Proof.Machine
namespace State

def dm (s : State) : Dm := s.cores.dm
def setDm (s : State) (f : Dm → Dm) : State := { s with cores := { s.cores with dm := f s.cores.dm } }

/-! ## What a core reads -/

/-- A 32-bit read of core n from the bus: the value, what the read does beside it, and whether something answers (R37-R40, R428, R464). -/
def busRead (s : State) (n a : Nat) : Option (Word × State) :=
  let mem := fun (x : Nat) => some (BitVec.ofNat 32 (s.busN x 4), s)
  if a < 0xD8000 then
    match canRamAt a with
    | some (c, o) =>
      let v := BitVec.ofNat 32 (s.memN a 4)
      if o < 0x1900 then
        let b := (o - 0x100) / 0x60
        let w := (o - 0x100) % 0x60 / 4
        let last := w == 4 + (s.bufLen c b + 3) / 4
        let t := s.bufLock c b
        some (v, if last then t.bufRelease c b else t)
      else some (v, s)
    | none => some (s.readReg (n + 1) a, if a = Reg.TIM_NOW_NS then s.timeRead (n + 1) else s)
  else if (0x00100000 ≤ a ∧ a < 0x00B00000) ∨ (0x01000000 ≤ a ∧ a < 0x01800000) ∨ inShared a = true then mem a
  else if 0x80000000 ≤ a ∧ a < 0x80040000 then mem (tcmBase n + (a - 0x80000000))
  else none

/-- Something answers a 32-bit write of a core. -/
def busWrites (a : Nat) : Bool :=
  decide (a < 0xD8000) || (decide (0x00100000 ≤ a) && decide (a < 0x00B00000)) || (decide (0x01000000 ≤ a) && decide (a < 0x01800000)) || inShared a
    || (decide (0x80000000 ≤ a) && decide (a < 0x80040000))

/-- The word of memory at the bus address a of core n is uncorrectable (R36). -/
def busEcc (s : State) (n a : Nat) : Bool := s.eccIn (if 0x80000000 ≤ a ∧ a < 0x80040000 then tcmBase n + (a - 0x80000000) else a) 4

/-! ## Control and status registers -/

/-- The CSRs of the cores: those of R15's privileged edition with machine and user level and 16 PMP entries, of F, of the debug standard with
its triggers, and of R488. No other address exists (R475, R488). -/
def csrExists (a : Nat) : Bool :=
  [0x001, 0x002, 0x003, 0x300, 0x301, 0x304, 0x305, 0x306, 0x30A, 0x310, 0x31A, 0x320, 0x340, 0x341, 0x342, 0x343, 0x344, 0xB00, 0xB80, 0xFC0,
   0x7A0, 0x7A1, 0x7A2, 0x7C1, 0x7C2].contains a
    || [(0x323, 0x33F), (0x3A0, 0x3A3), (0x3B0, 0x3BF), (0x7B0, 0x7B3), (0xB02, 0xB1F), (0xB82, 0xB9F), (0xC00, 0xC1F), (0xC80, 0xC9F),
        (0xF11, 0xF15)].any fun x => decide (x.1 ≤ a) && decide (a ≤ x.2)

/-- A CSR that can only be read: the top bits of its address are 11. -/
def csrRo (a : Nat) : Bool := decide (0xC00 ≤ a)

/-- dcsr of core n: debug version 4, cause, privilege, and what was written. -/
def dcsr (s : State) (n : Nat) : Nat :=
  let c := s.coreSt n
  let w := (Assoc.get 0 c.csr 0x7B0).toNat
  putField (putField (putField w 31 28 4) 8 6 c.haltCause) 1 0 c.priv

/-- Trigger register key: tdata1 and tdata2 of the trigger that tselect names. -/
def trigKey (s : State) (n regno : Nat) : Nat := 2 * ((Assoc.get 0 (s.coreSt n).csr 0x7A0).toNat % 4) + (regno - 0x7A1)

/-- tdata1 of type mcontrol (R491): there is no supervisor level to match. -/
def mcontrol (v : Word) : Word := BitVec.ofNat 32 (putField (maskAnd v.toNat 0x081FFFCF) 26 21 Config.maskMax.toNat + 2 * 2 ^ 28)

/-- CSRs whose value the module gives, or that hold one for ever: misa, mhartid, the identification, the time, the counters that read 0,
icu_level, the upper status words, and the bits of mip that are hardwired 0 (R475, R488). -/
def fixedCsr (s : State) (n regno : Nat) : Option Word :=
  if regno = 0x301 then some 0x40101125#32
  else if regno = 0xF14 then some (BitVec.ofNat 32 n)
  else if 0xF11 ≤ regno ∧ regno ≤ 0xF15 then some (Config.idCsr (regno - 0xF10))
  else if regno = 0xC01 then some (BitVec.ofNat 32 s.time64)
  else if regno = 0xC81 then some (BitVec.ofNat 32 (s.time64 / 2 ^ 32))
  else if (0xB03 ≤ regno ∧ regno ≤ 0xB1F) ∨ (0xB83 ≤ regno ∧ regno ≤ 0xB9F) ∨ (0xC03 ≤ regno ∧ regno ≤ 0xC1F) ∨ (0xC83 ≤ regno ∧ regno ≤ 0xC9F)
    ∨ (0x323 ≤ regno ∧ regno ≤ 0x33F) then some 0
  else if regno = 0x344 ∨ regno = 0x310 ∨ regno = 0x31A then some 0
  else if regno = 0xFC0 then some (match (s.coreSt n).level with | none => 16 | some l => BitVec.ofNat 32 l)
  else none

/-- One byte of pmpcfg: 0 in its reserved bits, and no write permission without read (R475). -/
def pmpByte (b : Nat) : Nat := if b % 4 = 2 then maskAnd b 0x9C else maskAnd b 0x9F

/-- The legal value of a CSR for a written or unknown word w (R475, R488): reserved and hardwired bits are 0, MPP is M or U and SD follows FS. -/
def csrLegal (a : Nat) (w : Word) : Word :=
  let n := w.toNat
  if a = 0x300 then
    let m := maskAnd n 0x00227888
    BitVec.ofNat 32 (putField m 11 11 (fieldOf m 12 12) + b2n (fieldOf m 14 13 == 3) * 2 ^ 31)
  else if a = 0x304 then w &&& 0xFFFFF7F7#32
  else if a = 0x305 then w &&& 0xFFFFFFFD#32
  else if a = 0x341 then w &&& 0xFFFFFFFE#32
  else if a = 0x003 then w &&& 0xFF#32
  else if a = 0x320 then w &&& 5#32
  else if a = 0x30A ∨ a = 0x7C2 then w &&& 1#32
  else if 0x3A0 ≤ a ∧ a ≤ 0x3A3 then BitVec.ofNat 32 (leNat ((leBytes 4 n).map fun b => BitVec.ofNat 8 (pmpByte b.toNat)))
  else w

/-- A register of the list that `l` picks out of the core, at i: its value, which a halt keeps; unknown it is a free value, legalised. -/
def known (s : State) (n : Nat) (l : CoreSt → List (Nat × Word)) (keep : Word → CoreSt → CoreSt) (legal : Word → Word) (i : Nat) : Word × State :=
  let c := s.coreSt n
  let stays := c.halted || c.stopped
  match (if stays then (l c).lookup i else none) with
  | some v => (v, s)
  | none =>
    let (w, s) := s.free
    (legal w, if stays then s.setCore n (keep (legal w)) else s)

/-- A CSR that is stored under its own number. -/
def csrStored (s : State) (n a : Nat) : Word × State :=
  s.known n (·.csr) (fun v c => { c with csr := Assoc.ins c.csr a v }) (csrLegal a) a

/-- mcycle as 64 bits: it counts CORE clocks, four in a tick, unless dcsr.stopcount or mcountinhibit stops it (R475). -/
def cycles (s : State) (n : Nat) : Nat × State :=
  let fresh := ((s.coreSt n).csr.lookup 0xB00).isNone
  let (lo, s) := s.csrStored n 0xB00
  let (hi, s) := s.csrStored n 0xB80
  let (inh, s) := s.csrStored n 0x320
  let s := if fresh then s.setCore n fun c => { c with cycAt := s.tickNo } else s
  let stays := (s.coreSt n).halted && bitAt (s.dcsr n) 10
  let run := if stays || bitAt inh.toNat 0 then 0 else 4 * (s.tickNo - (s.coreSt n).cycAt)
  ((hi.toNat * 2 ^ 32 + lo.toNat + run) % 2 ^ 64, s)

/-- mcycle holds v from this tick on. -/
def cyclesSet (s : State) (n v : Nat) : State :=
  s.setCore n fun c => { c with csr := Assoc.ins (Assoc.ins c.csr 0xB00 (BitVec.ofNat 32 v)) 0xB80 (BitVec.ofNat 32 (v / 2 ^ 32)), cycAt := s.tickNo }

/-- A read of a CSR that exists. fflags and frm are fields of fcsr, and the user counters show the machine's. -/
def csrGet (s : State) (n a : Nat) : Word × State :=
  if a = 0x7B1 then ((s.coreSt n).pc, s)
  else if a = 0x7B0 then (BitVec.ofNat 32 (s.dcsr n), s)
  else if a = 0x7A0 then (BitVec.ofNat 32 ((Assoc.get 0 (s.coreSt n).csr 0x7A0).toNat % 4), s)
  else if a = 0x7A1 then (mcontrol (Assoc.get 0 (s.coreSt n).trig (s.trigKey n a)), s)
  else if a = 0x7A2 then (Assoc.get 0 (s.coreSt n).trig (s.trigKey n a), s)
  else if let some v := s.fixedCsr n a then (v, s)
  else if a = 0x001 then (let (v, s) := s.csrStored n 3; (v &&& 0x1F#32, s))
  else if a = 0x002 then (let (v, s) := s.csrStored n 3; (BitVec.ofNat 32 (fieldOf v.toNat 7 5), s))
  else if a = 0xB00 ∨ a = 0xC00 then (let (v, s) := s.cycles n; (BitVec.ofNat 32 v, s))
  else if a = 0xB80 ∨ a = 0xC80 then (let (v, s) := s.cycles n; (BitVec.ofNat 32 (v / 2 ^ 32), s))
  else if a = 0xC02 ∨ a = 0xC82 then s.csrStored n (a - 0x100)
  else s.csrStored n a

/-- The PMP entry i is locked, or is the lower end of a locked range (R475). -/
def pmpLocked (cfg : Nat → Nat) (i : Nat) : Bool := bitAt (cfg i) 7 || (decide (i < 15) && bitAt (cfg (i + 1)) 7 && fieldOf (cfg (i + 1)) 4 3 == 1)

/-- The sixteen configuration bytes of the PMP. -/
def pmpCfgs (s : State) (n : Nat) : List Nat × State :=
  [0x3A0, 0x3A1, 0x3A2, 0x3A3].foldl (fun o a => let (v, t) := o.2.csrStored n a; (o.1 ++ (leBytes 4 v.toNat).map (·.toNat), t)) ([], s)

/-- A write of a CSR that exists and is not read-only. -/
def csrPut (s : State) (n a : Nat) (v : Word) : State :=
  let store := fun (s : State) (w : Word) => s.setCore n fun c => { c with csr := Assoc.ins c.csr a w }
  if a = 0x7B1 then s.setCore n fun c => { c with pc := v &&& 0xFFFFFFFE#32 }
  else if a = 0x7B0 then
    let (cyc, s) := s.cycles n
    (s.cyclesSet n cyc).setCore n fun c => { c with csr := Assoc.ins c.csr 0x7B0 (v &&& 0x9E14#32), priv := if v.toNat % 4 = 0 then 0 else 3 }
  else if a = 0x7A0 then store s (v &&& 3#32)
  else if a = 0x7A1 ∨ a = 0x7A2 then s.setCore n fun c => { c with trig := Assoc.set 0 c.trig (s.trigKey n a) (if a = 0x7A1 then mcontrol v else v) }
  else if a = 0x7C1 then s.icuReturn n
  else if (s.fixedCsr n a).isSome then s
  else if a = 0x001 ∨ a = 0x002 then
    let (f, s) := s.csrStored n 3
    let w := if a = 0x001 then putField f.toNat 4 0 v.toNat else putField f.toNat 7 5 v.toNat
    s.setCore n fun c => { c with csr := Assoc.ins c.csr 3 (BitVec.ofNat 32 w) }
  else if a = 0xB00 ∨ a = 0xB80 then
    let (cyc, s) := s.cycles n
    s.cyclesSet n (if a = 0xB00 then putField cyc 31 0 v.toNat else putField cyc 63 32 v.toNat)
  else if a = 0x320 then
    let (cyc, s) := s.cycles n
    store (s.cyclesSet n cyc) (csrLegal a v)
  else if a = 0x300 then
    let (old, s) := s.csrStored n a
    let mpp := fieldOf v.toNat 12 11
    store s (csrLegal a (if mpp = 1 ∨ mpp = 2 then BitVec.ofNat 32 (putField v.toNat 12 11 (fieldOf old.toNat 12 11)) else v))
  else if 0x3A0 ≤ a ∧ a ≤ 0x3A3 then
    let (old, s) := s.csrStored n a
    let keep := fun i => let b := fieldOf old.toNat (8 * i + 7) (8 * i); if bitAt b 7 then b else pmpByte (fieldOf v.toNat (8 * i + 7) (8 * i))
    store s (BitVec.ofNat 32 (leNat ([0, 1, 2, 3].map fun i => BitVec.ofNat 8 (keep i))))
  else if 0x3B0 ≤ a ∧ a ≤ 0x3BF then
    let (cfg, s) := s.pmpCfgs n
    if pmpLocked (fun i => cfg.getD i 0) (a - 0x3B0) then s else store s v
  else store s (csrLegal a v)

/-! ## Registers by number -/

/-- An integer register: x0 is 0. -/
def gpr (s : State) (n i : Nat) : Word × State :=
  if i = 0 then (0, s) else s.known n (·.x) (fun v c => { c with x := Assoc.ins c.x i v }) id i

def setGpr (s : State) (n i : Nat) (v : Word) : State := if i = 0 then s else s.setCore n fun c => { c with x := Assoc.ins c.x i v }

/-- A floating-point register. -/
def fpr (s : State) (n i : Nat) : Word × State := s.known n (·.f) (fun v c => { c with f := Assoc.ins c.f i v }) id i

def setFpr (s : State) (n i : Nat) (v : Word) : State := s.setCore n fun c => { c with f := Assoc.ins c.f i v }

/-- A register of core n by its number in an abstract command; none where no such register exists. -/
def coreReg (s : State) (n regno : Nat) : Option (Word × State) :=
  if regno < 0x1000 then (if csrExists regno then some (s.csrGet n regno) else none)
  else if regno < 0x1020 then some (s.gpr n (regno - 0x1000))
  else if regno < 0x1040 then some (s.fpr n (regno - 0x1020))
  else none

def setCoreReg (s : State) (n regno : Nat) (v : Word) : State :=
  if regno < 0x1000 then s.csrPut n regno v
  else if regno < 0x1020 then s.setGpr n (regno - 0x1000) v
  else s.setFpr n (regno - 0x1020) v

end State
end Sys2Proof.Machine
end

