-- ==== Sys2Proof/Machine/Hart.lean ====
section
/-!
DEFINITION. The instructions that the program buffer runs on a halted core (R475, R491): RV32IMAFC with Zicsr and Zifencei of R15's
unprivileged edition. In debug mode WFI and fences do nothing, and control transfers and AUIPC act as illegal instructions, which the debug
standard allows (log entry 233). An exception ends the program.
-/
namespace Sys2Proof.Machine

/-! ## Integer arithmetic -/

/-- The register-register operation funct3; alt is bit 30: SUB and SRA. -/
def rvAlu (f3 : Nat) (alt : Bool) (a b : Word) : Word :=
  let sh := b.toNat % 32
  match f3 with
  | 0 => if alt then a - b else a + b
  | 1 => a <<< sh
  | 2 => if a.slt b then 1 else 0
  | 3 => if a.ult b then 1 else 0
  | 4 => a ^^^ b
  | 5 => if alt then a.sshiftRight sh else a >>> sh
  | 6 => a ||| b
  | _ => a &&& b

/-- The M operation funct3. Division by 0 and the overflow of the most negative number by -1 give what the ISA states. -/
def rvMulDiv (f3 : Nat) (a b : Word) : Word :=
  let hi := fun (x : Int) => BitVec.ofInt 32 (x / 2 ^ 32)
  match f3 with
  | 0 => a * b
  | 1 => hi (a.toInt * b.toInt)
  | 2 => hi (a.toInt * (b.toNat : Int))
  | 3 => hi ((a.toNat : Int) * (b.toNat : Int))
  | 4 => if b = 0 then 0xFFFFFFFF#32 else BitVec.ofInt 32 (a.toInt.tdiv b.toInt)
  | 5 => if b = 0 then 0xFFFFFFFF#32 else BitVec.ofNat 32 (a.toNat / b.toNat)
  | 6 => if b = 0 then a else BitVec.ofInt 32 (a.toInt.tmod b.toInt)
  | _ => if b = 0 then a else BitVec.ofNat 32 (a.toNat % b.toNat)

/-- What an atomic operation stores, by funct5; none for a code that names none. -/
def rvAmo (f5 : Nat) (old b : Word) : Option Word :=
  match f5 with
  | 0x01 => some b
  | 0x00 => some (old + b)
  | 0x04 => some (old ^^^ b)
  | 0x0C => some (old &&& b)
  | 0x08 => some (old ||| b)
  | 0x10 => some (if old.slt b then old else b)
  | 0x14 => some (if old.slt b then b else old)
  | 0x18 => some (if old.ult b then old else b)
  | 0x1C => some (if old.ult b then b else old)
  | _ => none

/-! ## Floating point (R475: IEEE 754-2019, no flushing of subnormals) -/

/-- fflags: invalid, division by zero, overflow, underflow, inexact. -/
def NV : Nat := 16
def DZ : Nat := 8
def OF : Nat := 4
def UF : Nat := 2
def NX : Nat := 1

/-- Rounding mode rm moves a magnitude of sign neg up, past its kept part d, by a remainder r of 2^k. -/
def roundsUp (rm : Nat) (neg : Bool) (d r k : Nat) : Bool :=
  match rm with
  | 0 => decide (2 ^ k < 2 * r) || (2 * r == 2 ^ k && d % 2 == 1)
  | 1 => false
  | 2 => neg && r != 0
  | 3 => !neg && r != 0
  | _ => decide (2 ^ k ≤ 2 * r)

/-- m × 2^e kept from exponent q on, in mode rm: the magnitude, and whether something was lost. -/
def keepFrom (rm : Nat) (neg : Bool) (m : Nat) (e q : Int) : Nat × Bool :=
  if q ≤ e then (m * 2 ^ (e - q).toNat, false)
  else
    let k := (q - e).toNat
    let d := m / 2 ^ k
    let r := m % 2 ^ k
    (if roundsUp rm neg d r k then d + 1 else d, r != 0)

/-- A result rounded to binary32 in mode rm, and its flags. Tininess is judged after rounding. -/
def rvRound (rm : Nat) : Fl → Nat × Nat
  | .fin s m e =>
    if m = 0 then (Fl.to32 (.fin s 0 0), 0)
    else
      let len : Int := (Nat.log2 m + 1 : Nat)
      let q := max (e + len - 24) (-149)
      let (d, lost) := keepFrom rm s m e q
      let free := keepFrom rm s m e (e + len - 24)
      let tiny := decide (e + len ≤ -126) && !(e + len == -126 && free.1 == 2 ^ 24)
      if d ≠ 0 ∧ 128 < q + (Nat.log2 d + 1 : Nat) then
        let up := rm = 0 ∨ rm = 4 ∨ (rm = 2 ∧ s) ∨ (rm = 3 ∧ !s)
        ((if s then 2 ^ 31 else 0) + (if up then 0x7F800000 else 0x7F7FFFFF), OF + NX)
      else (Fl.to32 (.fin s d q), if lost then NX + (if tiny then UF else 0) else 0)
  | x => (Fl.to32 x, 0)

/-- A signaling NaN. -/
def snan (w : Word) : Bool := fieldOf w.toNat 30 23 == 255 && fieldOf w.toNat 22 0 != 0 && !w.getLsbD 22

/-- The exact sum with the sign of an exact zero of mode rm. -/
def rvSum (rm : Nat) (a b : Fl) : Fl :=
  match Fl.add a b with
  | .fin s 0 e => .fin (if a.isZero && b.isZero && a.isNeg == b.isNeg then s else rm == 2) 0 e
  | x => x

/-- A result whose NaN is invalid unless an operand was a quiet NaN. -/
def rvResult (rm : Nat) (ops : List Word) (x : Fl) : Nat × Nat :=
  let bad := ops.any snan || (x.isNan && !ops.any fun w => (Fl.of32 w.toNat).isNan)
  let r := rvRound rm x
  (r.1, if bad then NV else r.2)

/-- The fused a × b + c; the product of an infinity and zero is invalid whatever c is. -/
def rvFma (rm : Nat) (a b c : Word) (np nc : Bool) : Nat × Nat :=
  let p := Fl.mul (Fl.of32 a.toNat) (Fl.of32 b.toNat)
  let fa := Fl.of32 a.toNat
  let fb := Fl.of32 b.toNat
  let x := rvSum rm (if np then p.neg else p) (if nc then (Fl.of32 c.toNat).neg else Fl.of32 c.toNat)
  let r := rvResult rm [a, b, c] x
  (r.1, if p.isNan && !fa.isNan && !fb.isNan then NV else r.2)

/-- The integer nearest to a finite value in mode rm, and whether it is exact. -/
def rvInt (rm : Nat) : Fl → Int × Bool
  | .fin s m e =>
    let (d, lost) := keepFrom rm s m e 0
    (if s then -(d : Int) else d, lost)
  | _ => (0, false)

/-- FCVT to an integer of range lo to hi. -/
def rvToInt (rm : Nat) (lo hi : Int) (w : Word) : Word × Nat :=
  match Fl.of32 w.toNat with
  | .nan => (BitVec.ofInt 32 hi, NV)
  | .inf s => (BitVec.ofInt 32 (if s then lo else hi), NV)
  | x =>
    let (i, lost) := rvInt rm x
    if i < lo then (BitVec.ofInt 32 lo, NV) else if hi < i then (BitVec.ofInt 32 hi, NV) else (BitVec.ofInt 32 i, if lost then NX else 0)

/-- FCLASS. -/
def rvClass (w : Word) : Nat :=
  let s := w.getLsbD 31
  let x := fieldOf w.toNat 30 23
  let f := fieldOf w.toNat 22 0
  if x = 255 then (if f = 0 then (if s then 1 else 128) else if w.getLsbD 22 then 512 else 256)
  else if x = 0 then (if f = 0 then (if s then 8 else 16) else if s then 4 else 32)
  else if s then 2 else 64

/-- FMIN and FMAX: -0 is below +0, and a NaN gives way to a number. -/
def rvMinMax (max : Bool) (a b : Word) : Nat × Nat :=
  let x := Fl.of32 a.toNat
  let y := Fl.of32 b.toNat
  let fl := if snan a || snan b then NV else 0
  if x.isNan && y.isNan then (0x7FC00000, fl)
  else if x.isNan then (b.toNat, fl)
  else if y.isNan then (a.toNat, fl)
  else
    let less := Fl.lt x y || (Fl.eqv x y && a.getLsbD 31 && !b.getLsbD 31)
    ((if less != max then a.toNat else b.toNat), fl)

/-! ## Compressed instructions -/

def rvI (imm rs1 f3 rd op : Nat) : Nat := imm % 4096 * 2 ^ 20 + rs1 * 2 ^ 15 + f3 * 2 ^ 12 + rd * 2 ^ 7 + op
def rvR (f7 rs2 rs1 f3 rd op : Nat) : Nat := f7 * 2 ^ 25 + rs2 * 2 ^ 20 + rs1 * 2 ^ 15 + f3 * 2 ^ 12 + rd * 2 ^ 7 + op
def rvS (imm rs2 rs1 f3 op : Nat) : Nat := rvR (imm / 32 % 128) rs2 rs1 f3 (imm % 32) op

/-- An n-bit number extended with its sign to 32 bits. -/
def sext (n x : Nat) : Nat := unsigned 32 (signed n x)

/-- The instruction that a compressed one stands for; none for a reserved code and for the control transfers, which act as illegal. -/
def rvExpand (h : Nat) : Option Nat :=
  let f := fieldOf h
  let rd := f 11 7
  let rs2 := f 6 2
  let rdp := 8 + f 4 2
  let rsp := 8 + f 9 7
  let imm6 := sext 6 (f 12 12 * 32 + f 6 2)
  let w := f 12 10 * 8 + f 6 6 * 4 + f 5 5 * 64
  match h % 4, f 15 13 with
  | 0, 0 =>
    let n := f 12 11 * 16 + f 10 7 * 64 + f 6 6 * 4 + f 5 5 * 8
    if n = 0 then none else some (rvI n 2 0 rdp 0x13)
  | 0, 2 => some (rvI w rsp 2 rdp 0x03)
  | 0, 3 => some (rvI w rsp 2 rdp 0x07)
  | 0, 6 => some (rvS w rdp rsp 2 0x23)
  | 0, 7 => some (rvS w rdp rsp 2 0x27)
  | 1, 0 => some (rvI imm6 rd 0 rd 0x13)
  | 1, 2 => some (rvI imm6 0 0 rd 0x13)
  | 1, 3 =>
    if rd = 2 then
      let n := f 12 12 * 512 + f 6 6 * 16 + f 5 5 * 64 + f 4 3 * 128 + f 2 2 * 32
      if n = 0 then none else some (rvI (sext 10 n) 2 0 2 0x13)
    else if imm6 = 0 then none
    else some (imm6 % 2 ^ 20 * 4096 + rd * 128 + 0x37)
  | 1, 4 =>
    match f 11 10 with
    | 0 => if f 12 12 = 1 then none else some (rvI rs2 rsp 5 rsp 0x13)
    | 1 => if f 12 12 = 1 then none else some (rvI (1024 + rs2) rsp 5 rsp 0x13)
    | 2 => some (rvI imm6 rsp 7 rsp 0x13)
    | _ =>
      if f 12 12 = 1 then none
      else match f 6 5 with
        | 0 => some (rvR 32 rdp rsp 0 rsp 0x33)
        | 1 => some (rvR 0 rdp rsp 4 rsp 0x33)
        | 2 => some (rvR 0 rdp rsp 6 rsp 0x33)
        | _ => some (rvR 0 rdp rsp 7 rsp 0x33)
  | 2, 0 => if f 12 12 = 1 then none else some (rvI rs2 rd 1 rd 0x13)
  | 2, 2 => if rd = 0 then none else some (rvI (f 12 12 * 32 + f 6 4 * 4 + f 3 2 * 64) 2 2 rd 0x03)
  | 2, 3 => some (rvI (f 12 12 * 32 + f 6 4 * 4 + f 3 2 * 64) 2 2 rd 0x07)
  | 2, 4 =>
    if rs2 ≠ 0 then some (rvR 0 rs2 (if f 12 12 = 1 then rd else 0) 0 rd 0x33)
    else if f 12 12 = 1 ∧ rd = 0 then some 0x00100073
    else none
  | 2, 6 => some (rvS (f 12 9 * 4 + f 8 7 * 64) rs2 2 2 0x23)
  | 2, 7 => some (rvS (f 12 9 * 4 + f 8 7 * 64) rs2 2 2 0x27)
  | _, _ => none

namespace State

/-! ## Memory -/

/-- The privilege of loads and stores in debug mode: machine, or with mprven and MPRV that of MPP. -/
def dataPriv (s : State) (n : Nat) : Nat × State :=
  let (m, s) := s.csrStored n 0x300
  (if bitAt (s.dcsr n) 4 && bitAt m.toNat 17 then fieldOf m.toNat 12 11 else 3, s)

/-- The bytes [lo, hi) that PMP entry i with configuration cfg covers: TOR, NA4 or NAPOT (R475). -/
def pmpRange (cfg addr before i : Nat) : Nat × Nat :=
  match fieldOf cfg 4 3 with
  | 1 => (if i = 0 then 0 else 4 * before, 4 * addr)
  | 2 => (4 * addr, 4 * addr + 4)
  | 3 =>
    let ones := ((List.range 32).takeWhile fun k => bitAt addr k).length
    (addr / 2 ^ (ones + 1) * 2 ^ (ones + 3), (addr / 2 ^ (ones + 1) + 1) * 2 ^ (ones + 3))
  | _ => (0, 0)

/-- The PMP allows len bytes at a: the lowest entry that covers any of them decides, and must cover all; bit is 0 for a read, 1 for a
write (R475). -/
def pmpAllows (s : State) (n a len bit : Nat) : Bool × State :=
  let (priv, s) := s.dataPriv n
  let (cfg, s) := s.pmpCfgs n
  let (adr, s) := (List.range 16).foldl (fun o i => let (v, t) := o.2.csrStored n (0x3B0 + i); (o.1 ++ [v.toNat], t)) (([] : List Nat), s)
  let range := fun i => pmpRange (cfg.getD i 0) (adr.getD i 0) (adr.getD (i - 1) 0) i
  (match (List.range 16).find? fun i => decide ((range i).1 < a + len) && decide (a < (range i).2) && decide ((range i).1 < (range i).2) with
    | none => priv == 3
    | some i =>
      let c := cfg.getD i 0
      decide ((range i).1 ≤ a) && decide (a + len ≤ (range i).2) && ((priv == 3 && !bitAt c 7) || bitAt c bit), s)

/-- An access of len bytes at a reaches the bus: aligned, allowed by the PMP, and a whole word where it meets a register (R7, R475). -/
def dataOk (s : State) (n a len bit : Nat) : Option State :=
  let (ok, s) := s.pmpAllows n a len bit
  if a % len = 0 ∧ ok ∧ (len = 4 ∨ 0xD8000 ≤ a ∨ (canRamAt a).isSome) then some s else none

/-- A load of len bytes; none where it ends in an exception (R36, R38). -/
def hartLoad (s : State) (n a len : Nat) : Option (Nat × State) :=
  match s.dataOk n a len 0 with
  | none => none
  | some s =>
    if s.busEcc n (a / 4 * 4) then none
    else (s.busRead n (a / 4 * 4)).map fun x => (x.1.toNat / 2 ^ (8 * (a % 4)) % 2 ^ (8 * len), x.2)

/-- A store of len bytes. -/
def hartStore (s : State) (n : Fin 4) (a len : Nat) (v : Word) : Option State :=
  match s.dataOk n a len 1 with
  | none => none
  | some s =>
    let s := s.setCore n fun c => { c with resv := if c.resv = some (a / 4 * 4) then none else c.resv }
    if busWrites (a / 4 * 4) then some (s.writeAt (.core n) a len v) else none

/-! ## One instruction -/

/-- Floating point is on: FS of mstatus is not 0. -/
def fpOn (s : State) (n : Nat) : Bool × State :=
  let (m, s) := s.csrStored n 0x300
  (fieldOf m.toNat 14 13 != 0, s)

/-- A floating-point instruction has changed the state: FS is dirty, and fcsr gathers flags. -/
def fpDirty (s : State) (n flags : Nat) : State :=
  let (m, s) := s.csrStored n 0x300
  let (f, s) := s.csrStored n 3
  s.setCore n fun c => { c with csr := Assoc.ins (Assoc.ins c.csr 0x300 (csrLegal 0x300 (BitVec.ofNat 32 (putField m.toNat 14 13 3)))) 3
                                         (f ||| BitVec.ofNat 32 flags) }

/-- The rounding mode of an instruction, or frm where it says dynamic; none for a reserved one. -/
def fpMode (s : State) (n rm : Nat) : Option Nat × State :=
  if rm = 7 then
    let (f, s) := s.csrStored n 3
    (if fieldOf f.toNat 7 5 ≤ 4 then some (fieldOf f.toNat 7 5) else none, s)
  else (if rm ≤ 4 then some rm else none, s)

/-- A CSR instruction (Zicsr). A write of a read-only CSR, an absent one, and a floating-point one with FS 0 are illegal. -/
def runCsr (s : State) (n w : Nat) : Option State :=
  let a := fieldOf w 31 20
  let f3 := fieldOf w 14 12
  let (x, s) := if f3 < 4 then s.gpr n (fieldOf w 19 15) else (BitVec.ofNat 32 (fieldOf w 19 15), s)
  let writes := f3 % 4 = 1 ∨ fieldOf w 19 15 ≠ 0
  let (fp, s) := s.fpOn n
  if !csrExists a || (decide writes && csrRo a) || (decide (a ≤ 3) && !fp) then none
  else
    let reads := ¬(f3 % 4 = 1 ∧ fieldOf w 11 7 = 0)
    let (old, s) := if reads then s.csrGet n a else (0, s)
    let new := match f3 % 4 with
      | 1 => x
      | 2 => old ||| x
      | _ => old &&& ~~~x
    let s := if writes then s.csrPut n a new else s
    let s := if writes ∧ a ≤ 3 then s.fpDirty n 0 else s
    some (s.setGpr n (fieldOf w 11 7) old)

/-- An atomic instruction (A). An SC succeeds on the address that an LR of the same program has reserved. -/
def runAmo (s : State) (n : Fin 4) (w : Nat) : Option State :=
  let (a, s) := s.gpr n (fieldOf w 19 15)
  let (b, s) := s.gpr n (fieldOf w 24 20)
  let rd := fieldOf w 11 7
  let f5 := fieldOf w 31 27
  if fieldOf w 14 12 ≠ 2 then none
  else if f5 = 2 then
    if fieldOf w 24 20 ≠ 0 then none
    else (s.hartLoad n a.toNat 4).map fun x => (x.2.setCore n fun c => { c with resv := some a.toNat }).setGpr n rd (BitVec.ofNat 32 x.1)
  else if f5 = 3 then
    if a.toNat % 4 ≠ 0 then none
    else
      let clear := fun (s : State) => s.setCore n fun c => { c with resv := none }
      if (s.coreSt n).resv = some a.toNat then (s.hartStore n a.toNat 4 b).map fun t => (clear t).setGpr n rd 0
      else some ((clear s).setGpr n rd 1)
  else match s.hartLoad n a.toNat 4 with
    | none => none
    | some (old, s) => match rvAmo f5 (BitVec.ofNat 32 old) b with
      | none => none
      | some new => (s.hartStore n a.toNat 4 new).map fun t => t.setGpr n rd (BitVec.ofNat 32 old)

/-- A computation of F: opcode 0x43 to 0x4F fused, 0x53 the others. -/
def runFp (s : State) (n w : Nat) : Option State :=
  let (on, s) := s.fpOn n
  let (x, s) := s.fpr n (fieldOf w 19 15)
  let (y, s) := s.fpr n (fieldOf w 24 20)
  let (mode, s) := s.fpMode n (fieldOf w 14 12)
  let rd := fieldOf w 11 7
  let f3 := fieldOf w 14 12
  let rs2 := fieldOf w 24 20
  let toF := fun (s : State) (r : Nat × Nat) => some ((s.setFpr n rd (BitVec.ofNat 32 r.1)).fpDirty n r.2)
  let toX := fun (s : State) (r : Word × Nat) => some ((if r.2 = 0 then s else s.fpDirty n r.2).setGpr n rd r.1)
  let op := w % 128
  let fx := Fl.of32 x.toNat
  let fy := Fl.of32 y.toNat
  if !on then none
  else if op ≠ 0x53 then
    let (z, s) := s.fpr n (fieldOf w 31 27)
    match mode with
    | some rm => if fieldOf w 26 25 = 0 then toF s (rvFma rm x y z (op == 0x4B || op == 0x4F) (op == 0x47 || op == 0x4F)) else none
    | none => none
  else match fieldOf w 31 25, mode with
    | 0x00, some rm => toF s (rvResult rm [x, y] (rvSum rm fx fy))
    | 0x04, some rm => toF s (rvResult rm [x, y] (rvSum rm fx fy.neg))
    | 0x08, some rm => toF s (rvResult rm [x, y] (Fl.mul fx fy))
    | 0x0C, some rm =>
      if fx.isFinite && !fx.isZero && fy.isZero then toF s ((rvRound rm (Fl.quot fx fy)).1, DZ) else toF s (rvResult rm [x, y] (Fl.quot fx fy))
    | 0x2C, some rm => if rs2 = 0 then toF s (rvResult rm [x] (Fl.root fx)) else none
    | 0x60, some rm =>
      if rs2 = 0 then toX s (rvToInt rm (-(2 ^ 31)) (2 ^ 31 - 1) x) else if rs2 = 1 then toX s (rvToInt rm 0 (2 ^ 32 - 1) x) else none
    | 0x68, some rm =>
      let (i, s) := s.gpr n (fieldOf w 19 15)
      if rs2 = 0 then toF s (rvRound rm (Fl.ofInt i.toInt)) else if rs2 = 1 then toF s (rvRound rm (Fl.ofNat i.toNat)) else none
    | 0x10, _ =>
      let sg := match f3 with
        | 0 => some (y.getLsbD 31)
        | 1 => some (!y.getLsbD 31)
        | 2 => some (x.getLsbD 31 != y.getLsbD 31)
        | _ => none
      sg.bind fun b => toF s (x.toNat % 2 ^ 31 + b2n b * 2 ^ 31, 0)
    | 0x14, _ => if f3 < 2 then toF s (rvMinMax (f3 == 1) x y) else none
    | 0x50, _ =>
      let quiet := if snan x || snan y then NV else 0
      let loud := if fx.isNan || fy.isNan then NV else 0
      match f3 with
      | 0 => toX s (if Fl.le fx fy then 1 else 0, loud)
      | 1 => toX s (if Fl.lt fx fy then 1 else 0, loud)
      | 2 => toX s (if Fl.eqv fx fy then 1 else 0, quiet)
      | _ => none
    | 0x70, _ =>
      if rs2 ≠ 0 then none else if f3 = 0 then toX s (x, 0) else if f3 = 1 then toX s (BitVec.ofNat 32 (rvClass x), 0) else none
    | 0x78, _ =>
      let (i, s) := s.gpr n (fieldOf w 19 15)
      if rs2 = 0 ∧ f3 = 0 then toF s (i.toNat, 0) else none
    | _, _ => none

/-- One instruction of 32 bits on core n; none where it ends in an exception. EBREAK does not come here. -/
def runInstr (s : State) (n : Fin 4) (w : Nat) : Option State :=
  let rd := fieldOf w 11 7
  let f3 := fieldOf w 14 12
  let f7 := fieldOf w 31 25
  let immI := BitVec.ofNat 32 (sext 12 (fieldOf w 31 20))
  let immS := BitVec.ofNat 32 (sext 12 (f7 * 32 + rd))
  let (x, s) := s.gpr n (fieldOf w 19 15)
  match w % 128 with
  | 0x37 => some (s.setGpr n rd (BitVec.ofNat 32 (w / 4096 * 4096)))
  | 0x13 =>
    if f3 = 1 ∧ f7 ≠ 0 then none
    else if f3 = 5 ∧ f7 ≠ 0 ∧ f7 ≠ 32 then none
    else some (s.setGpr n rd (rvAlu f3 (f3 == 5 && f7 == 32) x immI))
  | 0x33 =>
    let (y, s) := s.gpr n (fieldOf w 24 20)
    if f7 = 1 then some (s.setGpr n rd (rvMulDiv f3 x y))
    else if f7 = 0 ∨ (f7 = 32 ∧ (f3 = 0 ∨ f3 = 5)) then some (s.setGpr n rd (rvAlu f3 (f7 == 32) x y))
    else none
  | 0x03 =>
    let go := fun (len : Nat) (signedLoad : Bool) => (s.hartLoad n (x + immI).toNat len).map fun r =>
      r.2.setGpr n rd (BitVec.ofNat 32 (if signedLoad then sext (8 * len) r.1 else r.1))
    match f3 with
    | 0 => go 1 true
    | 1 => go 2 true
    | 2 => go 4 false
    | 4 => go 1 false
    | 5 => go 2 false
    | _ => none
  | 0x23 =>
    let (y, s) := s.gpr n (fieldOf w 24 20)
    if f3 < 3 then s.hartStore n (x + immS).toNat (2 ^ f3) y else none
  | 0x07 =>
    let (on, s) := s.fpOn n
    if !on || f3 != 2 then none
    else (s.hartLoad n (x + immI).toNat 4).map fun r => (r.2.setFpr n rd (BitVec.ofNat 32 r.1)).fpDirty n 0
  | 0x27 =>
    let (on, s) := s.fpOn n
    let (y, s) := s.fpr n (fieldOf w 24 20)
    if !on || f3 != 2 then none else s.hartStore n (x + immS).toNat 4 y
  | 0x0F => if f3 < 2 then some s else none
  | 0x2F => s.runAmo n w
  | 0x43 => s.runFp n w
  | 0x47 => s.runFp n w
  | 0x4B => s.runFp n w
  | 0x4F => s.runFp n w
  | 0x53 => s.runFp n w
  | 0x73 => if f3 % 4 ≠ 0 then s.runCsr n w else if w = 0x10500073 then some s else none
  | _ => none

/-- minstret counts an instruction that has retired, unless dcsr.stopcount or mcountinhibit stops it (R475). -/
def retire (s : State) (n : Nat) : State :=
  let (lo, s) := s.csrStored n 0xB02
  let (hi, s) := s.csrStored n 0xB82
  let (inh, s) := s.csrStored n 0x320
  if bitAt (s.dcsr n) 10 || bitAt inh.toNat 2 then s
  else
    let v := hi.toNat * 2 ^ 32 + lo.toNat + 1
    s.setCore n fun c => { c with csr := Assoc.ins (Assoc.ins c.csr 0xB02 (BitVec.ofNat 32 v)) 0xB82 (BitVec.ofNat 32 (v / 2 ^ 32)) }

/-- The halfwords of a program, up to its end or an EBREAK; and whether it ended in an exception. -/
def runProgram (s : State) (n : Fin 4) : List Nat → State × Bool
  | [] => (s, false)
  | h :: l =>
    if h % 4 ≠ 3 then
      match rvExpand h with
      | none => (s, true)
      | some 0x00100073 => (s, false)
      | some w => match s.runInstr n w with
        | none => (s, true)
        | some t => runProgram (t.retire n) n l
    else match l with
      | [] => (s, true)
      | h2 :: l =>
        if h + 65536 * h2 = 0x00100073 then (s, false)
        else match s.runInstr n (h + 65536 * h2) with
          | none => (s, true)
          | some t => runProgram (t.retire n) n l

/-- The program buffer runs on core n: two words and an implicit EBREAK (R491). -/
def progRun (s : State) (n : Fin 4) : State × Bool :=
  let a := s.dm.progbuf0.toNat
  let b := s.dm.progbuf1.toNat
  (s.setCore n fun c => { c with resv := none }).runProgram n [a % 65536, a / 65536, b % 65536, b / 65536]

end State
end Sys2Proof.Machine
end

