-- ==== Sys2Proof/Machine/Dmi.lean ====
section
/-!
DEFINITION. Debug access over JTAG (R490-R492): the debug module of RISC-V External Debug Support 0.13.2 as far as R491 supports it.
-/
namespace Sys2Proof.Machine
namespace State

/-! ## Access (R100, R491) -/

def debugOpen (s : State) : Bool := s.flag Reg.TRU_STAT 30
/-- SCOPE 0x01: halt and modify. -/
def debugScope (s : State) : Bool := s.flag Reg.TRU_DBG_STAT 8
def debugNames (s : State) (n : Nat) : Bool := s.flag Reg.TRU_DBG_STAT n

/-! ## Abstract commands -/

def cmdErr (s : State) (e : Nat) : State := if s.dm.cmderr = 0 then s.setDm fun d => { d with cmderr := e } else s

/-- The command register acts: Access Register of 32 bits (R491). Under SCOPE 0x00 writes and the program buffer are ignored and reads are
served. Of a core that its shadow has stopped registers can be read (R477). -/
def abstractRun (s : State) : State :=
  let d := s.dm
  let w := d.cmd.toNat
  let n := d.hartsel
  let regno := w % 65536
  if d.cmderr ≠ 0 then s
  else if fieldOf w 31 24 ≠ 0 ∨ bitAt w 19 = true ∨ (bitAt w 17 = true ∧ fieldOf w 22 20 ≠ 2) then s.cmdErr 2
  else if !s.debugNames n || (s.debugScope && !(s.coreSt n).halted && !((s.coreSt n).stopped && !bitAt w 16 && !bitAt w 18)) then s.cmdErr 4
  else
    let transfer := bitAt w 17
    if transfer && (decide (0x1040 ≤ regno) || (decide (regno < 0x1000) && (!csrExists regno || (bitAt w 16 && csrRo regno)))) then s.cmdErr 3
    else
      let s := if !transfer then s
        else if bitAt w 16 then (if s.debugScope then s.setCoreReg n regno d.data0 else s)
        else match s.coreReg n regno with
          | some (v, t) => t.setDm fun d => { d with data0 := v }
          | none => s.cmdErr 3
      if bitAt w 18 && s.debugScope then
        let r := s.progRun (Fin.ofNat 4 n)
        if r.2 then r.1.cmdErr 3 else r.1
      else s

/-! ## System bus access -/

def sbErr (s : State) (e : Nat) : State := s.setDm fun d => { d with sbcs := BitVec.ofNat 32 (putField d.sbcs.toNat 14 12 e) }

/-- The access size and the address fit a 32-bit access; otherwise sberror. -/
def sbFits (s : State) : Nat :=
  let d := s.dm
  if fieldOf d.sbcs.toNat 14 12 ≠ 0 then 7
  else if fieldOf d.sbcs.toNat 19 17 ≠ 2 then 4
  else if d.sbaddr.toNat % 4 ≠ 0 then 3
  else 0

def sbStep (s : State) : State := s.setDm fun d => if bitAt d.sbcs.toNat 16 then { d with sbaddr := d.sbaddr + 4 } else d

/-- A bus read as an access of the selected core. One that returns an uncorrectable word delivers the stored data and is flagged as failed
(R36), with sberror 7, other: the number is the model's choice, the standard has none for it (log entry 185). -/
def sbRead (s : State) : State :=
  match s.sbFits with
  | 0 => match s.busRead s.dm.hartsel s.dm.sbaddr.toNat with
    | some (v, t) =>
      let u := t.setDm fun d => { d with sbdata := v }
      if s.busEcc s.dm.hartsel s.dm.sbaddr.toNat then (u.readFail none s.dm.sbaddr.toNat).sbErr 7 else u.sbStep
    | none => s.sbErr 2
  | 7 => s
  | e => s.sbErr e

/-- A bus write as an access of the selected core; ignored under SCOPE 0x00. -/
def sbWrite (s : State) (n : Fin 4) : State :=
  if !s.debugScope then s
  else match s.sbFits with
    | 0 => if busWrites s.dm.sbaddr.toNat then (s.writeAt (.core n) s.dm.sbaddr.toNat 4 s.dm.sbdata).sbStep else s.sbErr 2
    | 7 => s
    | e => s.sbErr e

/-! ## Registers of the debug module -/

/-- dmstatus while access is open. -/
def dmStatus (s : State) : Nat :=
  let n := s.dm.hartsel
  let c := s.coreSt n
  let gone := !s.debugNames n || !c.released
  let halted := !gone && c.halted
  let runs := !gone && !c.halted
  let ack := !gone && c.resumeAck
  2 ^ 22 + b2n (!gone && c.haveReset) * (3 * 2 ^ 18) + b2n ack * (3 * 2 ^ 16) + b2n gone * (3 * 2 ^ 12) + b2n runs * (3 * 2 ^ 10) + b2n halted * (3 * 2 ^ 8) + 2 ^ 7 + 2

/-- A DMI read: its value. -/
def dmiValue (s : State) (a : Nat) : Nat :=
  let d := s.dm
  if !s.debugOpen then (if a = 0x11 then 2 else 0)
  else match a with
    | 0x04 => d.data0.toNat
    | 0x10 => d.hartsel * 65536 + b2n d.active
    | 0x11 => s.dmStatus
    | 0x16 => 2 * 2 ^ 24 + d.cmderr * 256 + 1
    | 0x18 => d.autoexec.toNat
    | 0x20 => d.progbuf0.toNat
    | 0x21 => d.progbuf1.toNat
    | 0x38 => putField (d.sbcs.toNat) 31 29 1 / 4096 * 4096 + 32 * 32 + 4
    | 0x39 => d.sbaddr.toNat
    | 0x3C => d.sbdata.toNat
    | 0x40 => maskOf 4 fun n => s.debugNames n && (s.coreSt n).halted
    | _ => 0

/-- A command named in abstractauto runs again after an access of data0 or the program buffer. -/
def autoRun (s : State) (bit : Nat) : State := if bitAt s.dm.autoexec.toNat bit then s.abstractRun else s

/-- What a DMI read does beside its value. -/
def dmiRead (s : State) (a : Nat) : State :=
  let s := s.setDm fun d => { d with out := BitVec.ofNat 32 (s.dmiValue a) }
  if !s.debugOpen then s
  else match a with
    | 0x04 => s.autoRun 0
    | 0x20 => s.autoRun 16
    | 0x21 => s.autoRun 17
    | 0x3C => if bitAt s.dm.sbcs.toNat 15 then s.sbRead else s
    | _ => s

/-- A write of dmcontrol: dmactive 0 resets the module; hartsel, ackhavereset, and under SCOPE 0x01 a halt or resume request. -/
def dmControl (s : State) (w : Nat) : State :=
  if !bitAt w 0 then s.setDm fun d => { out := d.out, ir := d.ir, last := d.last, cap := d.cap }
  else
    let n := fieldOf w 17 16
    let s := s.setDm fun d => { d with active := true, hartsel := n }
    let s := if bitAt w 28 then s.setCore n fun c => { c with haveReset := false } else s
    if !s.debugScope || !s.debugNames n then s
    else
      let halt := bitAt w 31
      let s := s.setDm fun d => { d with req := putField d.req n n (b2n halt) }
      if bitAt w 30 && !halt then
        let s := s.setCore n fun c => { c with resumeAck := false }
        if (s.coreSt n).halted then s.debugResume n else s
      else s

/-- A DMI write while access is open. -/
def dmiWrite (s : State) (a : Nat) (v : Word) : State :=
  let w := v.toNat
  if !s.debugOpen then s
  else if a = 0x10 then s.dmControl w
  else if !s.dm.active then s
  else match a with
    | 0x04 => (s.setDm fun d => { d with data0 := v }).autoRun 0
    | 0x16 => s.setDm fun d => { d with cmderr := maskWithout d.cmderr (fieldOf w 10 8) }
    | 0x17 => if s.dm.cmderr = 0 then (s.setDm fun d => { d with cmd := v }).abstractRun else s
    | 0x18 => s.setDm fun d => { d with autoexec := BitVec.ofNat 32 (maskAnd w 0x30001) }
    | 0x20 => (s.setDm fun d => { d with progbuf0 := v }).autoRun 16
    | 0x21 => (s.setDm fun d => { d with progbuf1 := v }).autoRun 17
    | 0x38 => s.setDm fun d =>
        { d with sbcs := BitVec.ofNat 32 (putField (maskAnd w 0x1F8000) 14 12 (maskWithout (fieldOf d.sbcs.toNat 14 12) (fieldOf w 14 12))) }
    | 0x39 =>
      let s := s.setDm fun d => { d with sbaddr := v }
      if bitAt s.dm.sbcs.toNat 20 then s.sbRead else s
    | 0x3C => (s.setDm fun d => { d with sbdata := v }).sbWrite (Fin.ofNat 4 s.dm.hartsel)
    | _ => s

/-! ## The JTAG port (R490) -/

/-- What a data register scan captures: IDCODE, DTMCS, under DMI the address and value of the access before it with no error, and the 0 of
BYPASS under every other instruction (R490). The code 0x01 of IDCODE and the fields of DTMCS are presumed (log entry 188). -/
def jtagCapture (s : State) (ir : Nat) : Nat :=
  if ir = 0x01 then 0x30144001 else if ir = 0x10 then 0x71 else if ir = 0x11 then s.dm.last * 2 ^ 34 + s.dm.out.toNat * 4 else 0

/-- A data register scan (R490). Under DMI op 1 reads and op 2 writes; no DMI access is ever busy or fails, so dmireset of DTMCS has nothing to
clear, and dmihardreset takes back the last access. -/
def jtagScan (s : State) (scan : JtagScan) (addr : Nat) (v : Word) : State :=
  let code := match scan with | .dmi _ => 0x11 | .reg ir => ir.val
  let c := s.jtagCapture code
  let s := s.setDm fun d => { d with ir := code, cap := c }
  match scan with
  | .dmi op =>
    let s := s.setDm fun d => { d with last := addr }
    if op.val = 1 then s.dmiRead addr else if op.val = 2 then s.dmiWrite addr v else s
  | .reg ir => if ir.val = 0x10 ∧ v.getLsbD 17 then s.setDm fun d => { d with out := 0, last := 0 } else s

end State
end Sys2Proof.Machine
end

