-- ==== Sys2Proof/Machine/CmdCores.lean ====
section
/-!
DEFINITION. Meanings of the commands of chapter 18: interrupt entry and return, sleep, lockstep, debug and the event counters. What a
core's own program has put into a register comes with the command.
-/
namespace Sys2Proof.Machine

/-- Entry begins for the source that the ICU has selected, on core n (R483, R484). pc, mstatus and priv are what the core's program has left;
an entry at once after another entry or an abandoned exit, or out of WFI, finds them in the state (R485, R487). -/
def execIcuEntry (n : Fin 4) (pc mstatus mtvec : Word) (priv : Nat) (s : State) : Host.Outcome State Fault Refusal :=
  let ctx := fun (s : State) => s.entryCtx n.val pc mstatus priv
  let due := fun (s : State) => s.icuDeliver n.val (bitAt (ctx s).2.1.toNat 3)
  event (fun s => s.awake && s.coreFree n.val && (priv == 0 || priv == 3) && (due s).isSome)
    (fun s => match due s with | some (i, p) => s.icuEnter n.val i p (ctx s).1 (ctx s).2.1 mtvec (ctx s).2.2 | none => s) s

/-- A core writes icuret (R485). -/
def execIcuReturn (n : Fin 4) (s : State) : Host.Outcome State Fault Refusal :=
  event (fun s => s.awake && s.coreRuns n.val && s.coreFree n.val) (fun s => s.icuReturn n.val) s

/-- The SWI bits of ICU_CTRL (R481). -/
def execIcuSwi (src : Src) (mask : Word) (s : State) : Host.Outcome State Fault Refusal :=
  event (fun s => s.live) (fun s => s.write src Reg.ICU_CTRL 4 (BitVec.ofNat 32 (mask.toNat % 256 * 256))) s

/-- CLR of ICU_CTRL (R496). -/
def execIcuClr (src : Src) (s : State) : Host.Outcome State Fault Refusal :=
  event (fun s => s.live) (fun s => s.write src Reg.ICU_CTRL 4 1) s

/-- A core executes WFI; deep is icuctl.DEEP (R487). -/
def execCoreWfi (n : Fin 4) (deep : Bool) (pc mstatus : Word) (s : State) : Host.Outcome State Fault Refusal :=
  event (fun s => s.awake && s.coreRuns n.val && s.coreFree n.val) (fun s => s.coreWfi n.val deep pc mstatus) s

/-- The ICU wakes a core (R487). -/
def execCoreWake (n : Fin 4) (s : State) : Host.Outcome State Fault Refusal :=
  event (fun s => s.awake && s.wakeWaits n.val) (fun s => s.coreWake n.val) s

/-- A core and its shadow disagree (R477). -/
def execLockstepMismatch (n : Fin 4) (s : State) : Host.Outcome State Fault Refusal :=
  event (fun s => s.awake && (s.coreSt n.val).released && !(s.coreSt n.val).stopped) (fun s => s.lockstep n.val) s

namespace State

/-- What a halt of core n needs by its cause: an ebreak that dcsr sends to debug, a trigger whose action is debug mode, a halt request, or the
step bit of dcsr (R491). -/
def haltCauseOk (s : State) (n cause : Nat) : Bool :=
  let c := s.coreSt n
  let d := (Assoc.get 0 c.csr 0x7B0).toNat
  if cause = 1 then bitAt d 15 || bitAt d 12
  else if cause = 2 then [0, 2, 4, 6].any fun k => let t := (Assoc.get 0 c.trig k).toNat; fieldOf t 15 12 == 1
  else if cause = 3 then bitAt s.dm.req n
  else bitAt d 2

/-- Debug may halt core n: access is open with SCOPE 0x01 for it, it is neither stopped nor halted, and the cause is there (R491, R492). -/
def haltOk (s : State) (n cause : Nat) : Bool :=
  let c := s.coreSt n
  s.debugOpen && s.debugScope && s.debugNames n && c.released && !c.stopped && !c.halted && s.haltCauseOk n cause

end State

/-- Core n halts for debug (R492); cause is that of dcsr. -/
def execDebugHalt (n : Fin 4) (cause : Nat) (pc : Word) (s : State) : Host.Outcome State Fault Refusal :=
  event (fun s => s.awake && decide (1 ≤ cause) && decide (cause ≤ 4) && s.haltOk n.val cause)
    (fun s => (s.setDm fun d => { d with req := putField d.req n.val n.val 0 }).debugHalt n.val cause pc) s

/-- A halted core resumes (R492). -/
def execDebugResume (n : Fin 4) (s : State) : Host.Outcome State Fault Refusal :=
  event (fun s => s.live && (s.coreSt n.val).halted) (fun s => s.debugResume n.val) s

/-- A write of EVC_SNAP (R495). -/
def execEvcSnap (src : Src) (mask : Word) (s : State) : Host.Outcome State Fault Refusal :=
  event (fun s => s.live) (fun s => s.write src Reg.EVC_SNAP 4 mask) s

/-- A write of EVC_CLR (R495). -/
def execEvcClr (src : Src) (mask : Word) (s : State) : Host.Outcome State Fault Refusal :=
  event (fun s => s.live) (fun s => s.write src Reg.EVC_CLR 4 mask) s

/-- A data register scan of the JTAG port: a DMI access, or a scan under another instruction (R490, R491). -/
def execDmiAccess (scan : JtagScan) (addr : Nat) (v : Word) (s : State) : Host.Outcome State Fault Refusal :=
  event (fun _ => true) (fun s => s.jtagScan scan addr v) s

end Sys2Proof.Machine
end

