-- ==== Sys2Proof/Machine/CmdDrive.lean ====
section
/-!
DEFINITION. Meanings of the commands of chapters 9 and 10: the local PWM and the gate drive. In STANDBY neither has a clock (R66).
-/
namespace Sys2Proof.Machine

/-! ## Local PWM -/

/-- A period of a group on FREE or CYCLE ends (R268, R274). -/
def execPwmPeriodBoundary (g : Nat) (s : State) : Host.Outcome State Fault Refusal :=
  event (fun s => s.awake && decide (g < 2) && s.periodEnds g) (fun s => s.pwmBoundary g (s.periodDue g)) s

/-- START of a group (R277). -/
def execPwmStart (src : Src) (g : Fin 2) (s : State) : Host.Outcome State Fault Refusal :=
  event (fun s => s.live) (fun s => s.write src (Reg.PWM_G_CTRL g) 4 1) s

/-- STOP of a group (R277). -/
def execPwmStop (src : Src) (g : Fin 2) (s : State) : Host.Outcome State Fault Refusal :=
  event (fun s => s.live) (fun s => s.write src (Reg.PWM_G_CTRL g) 4 2) s

/-- ARM of a group (R274). -/
def execPwmArm (src : Src) (g : Fin 2) (s : State) : Host.Outcome State Fault Refusal :=
  event (fun s => s.live) (fun s => s.write src (Reg.PWM_G_CTRL g) 4 4) s

/-- A rising edge of OUTn, pos units of 250 ps into the tick: its divider rises there, and its gate lets it through (R270, R413). -/
def execSynEdge (n pos : Nat) (s : State) : Host.Outcome State Fault Refusal :=
  event (fun s => s.awake && s.tsrc 1 == 2 && s.fld (Reg.PWM_G_CFG 1) 19 16 == n && decide (pos < 32) && s.outEdge n (32 * s.tickNo + pos))
    (fun s => s.synEdge (32 * s.tickNo + pos)) s

/-- No edge of OUTn within 2 × Pm; before the first Pm there is no such time (R270). -/
def execSynLost (s : State) : Host.Outcome State Fault Refusal :=
  event (fun s => s.awake && s.tsrc 1 == 2 && (s.grp 1).run && (match (s.grp 1).synEdge with
      | some y => s.fld (Reg.PWM_G_SYNPER 1) 23 0 != 0 && decide (y + 2 * s.fld (Reg.PWM_G_SYNPER 1) 23 0 ≤ 32 * s.tickNo)
      | none => false))
    (fun s => s.synLost) s

/-- A software commutation event (R281). -/
def execMaskSwEvent (src : Src) (g : Fin 2) (s : State) : Host.Outcome State Fault Refusal :=
  event (fun s => s.live) (fun s => s.write src (Reg.PWM_G_MSK_SW g) 4 1) s

/-- An edge of COMM_IN (R281, R493, R494). -/
def execCommInEdge (rising : Bool) (s : State) : Host.Outcome State Fault Refusal :=
  event (fun s => s.live)
    (fun s => if s.awake then s.commEdge rising else { s with cores := { s.cores with comm := rising } }) s

/-- The PWM clock has been absent for 16 ns (R283). -/
def execPwmClockStop (s : State) : Host.Outcome State Fault Refusal :=
  event (fun s => s.awake && !s.flag Reg.PWM_STAT 5) (fun s => s.pwmClockStop) s

/-- The PWM clock returns (R283). -/
def execPwmClockReturn (s : State) : Host.Outcome State Fault Refusal :=
  event (fun s => s.live && s.flag Reg.PWM_STAT 5) (fun s => s.pwmClockBack) s

/-- The counter of the half-bridge's group reaches the value u, where an edge of PULSE may form (R271, R278). -/
def execPwmCompareEdge (h : Fin 6) (u : Nat) (s : State) : Host.Outcome State Fault Refusal :=
  event (fun s => s.awake && (s.grp (hbGroup h)).run && !(s.grp (hbGroup h)).waiting && !s.hbSrc h && !s.direct h
      && decide (u < s.periodOf (hbGroup h)) && decide ((s.grp (hbGroup h)).start + u < 32 * (s.tickNo + 1)))
    (fun s => s.compareEdge h u) s

/-- The J3 pins of a half-bridge change (R272, R293). -/
def execJ3InputChange (h : Fin 6) (pulse en : Bool) (s : State) : Host.Outcome State Fault Refusal :=
  event (fun s => s.awake) (fun s => s.j3Input h pulse en) s

/-- CLR of PWM_CNT_CLR (R284). -/
def execPwmCntClr (src : Src) (s : State) : Host.Outcome State Fault Refusal :=
  event (fun s => s.live) (fun s => s.write src Reg.PWM_CNT_CLR 4 1) s

/-! ## Gate drive -/

/-- The dead time of a command that is still present ends (R288, R291). -/
def execDeadTimeElapsed (h : Fin 6) (hi : Bool) (s : State) : Host.Outcome State Fault Refusal :=
  event (fun s => s.awake && s.deadTimeOver h hi) (fun s => s.deadTimeEnd h hi) s

/-- The gate of the switch named, off for at least as long, has been sensed below +2.0 V for 20 ns (R291). -/
def execInterlockRelease (h : Fin 6) (hi : Bool) (s : State) : Host.Outcome State Fault Refusal :=
  event (fun s => s.awake && !(s.sw h hi).on && !(s.sw h hi).low && s.passedNs (s.sw h hi).offAt 20) (fun s => s.gateLow h hi) s

/-- A switching edge that has not been reported, with its time in ns where it was measured (R300, R301). -/
def execGateEdgeMeasured (h : Fin 6) (hi on : Bool) (t : Option Nat) (s : State) : Host.Outcome State Fault Refusal :=
  event (fun s => s.awake && s.edgeOpen h hi on) (fun s => s.gateEdge h hi on t) s

/-- The desaturation comparator of a switch has read above VTH for `ns` ns, 0 where it reads below: a switch that is on trips when 20 ns have
passed after blanking (R304, R307). No other command tells of the comparator (log entry 195). -/
def execDesatTrip (h : Fin 6) (hi : Bool) (ns : Nat) (s : State) : Host.Outcome State Fault Refusal :=
  event (fun s => s.awake) (fun s => s.desatTrip h hi ns) s

/-- The gate has stayed on the plateau longer than T_GCM after the on-command (R305, R307). -/
def execGcmTrip (h : Fin 6) (hi : Bool) (s : State) : Host.Outcome State Fault Refusal :=
  event (fun s => s.awake && s.gcmTrips h hi)
    (fun s => s.gdrTrip h hi (if hi then 2 else 3)) s

/-- The gate has been more than 2.0 V above VON for 20 ns (R305, R307). -/
def execGovTrip (h : Fin 6) (hi : Bool) (s : State) : Host.Outcome State Fault Refusal :=
  event (fun s => s.awake && s.govTrips h hi)
    (fun s => s.gdrTrip h hi (if hi then 4 else 5)) s

/-- The turn-on rail has been low for 1 µs (R297). -/
def execUvloTrip (h : Fin 6) (hi : Bool) (s : State) : Host.Outcome State Fault Refusal :=
  event (fun s => s.awake) (fun s => s.uvlo h hi) s

/-- The turn-on rail is back within limits (R297, R310). -/
def execGateRailReturn (h : Fin 6) (hi : Bool) (s : State) : Host.Outcome State Fault Refusal :=
  event (fun s => s.live && !s.flag (Reg.GDR_HB_STAT h) (if hi then 6 else 7)) (fun s => s.railBack h hi) s

/-- No valid symbol for 100 ns (R308). -/
def execSegLinkLoss (h : Fin 6) (s : State) : Host.Outcome State Fault Refusal :=
  event (fun s => s.awake && s.segUp h) (fun s => s.segLost h) s

/-- Valid symbols again (R308, R310). -/
def execSegLinkReturn (h : Fin 6) (s : State) : Host.Outcome State Fault Refusal :=
  event (fun s => s.live && !s.segUp h) (fun s => s.segBack h) s

/-- A 1 ms window of gate power ends, with the power of each half-bridge in mW (R298). -/
def execGatePowerLimit (pw : List Nat) (s : State) : Host.Outcome State Fault Refusal :=
  event (fun s => s.awake) (fun s => s.gatePower pw) s

/-- A soft turn-off ends, not before the time STOFF.T that it started with; a reset of the module does not stop it (R303). -/
def execSoftTurnOffEnd (h : Fin 6) (hi above : Bool) (s : State) : Host.Outcome State Fault Refusal :=
  event (fun s => (s.sw h hi).soft && s.passedNs (s.sw h hi).offAt (s.sw h hi).softFor) (fun s => s.softEnd h hi above) s

/-- A write of GDR_HBh_DIRSW (R293, R294). -/
def execGdrDirsw (src : Src) (h : Fin 6) (v : Word) (s : State) : Host.Outcome State Fault Refusal :=
  event (fun s => s.live) (fun s => s.write src (Reg.GDR_HB_DIRSW h) 4 v) s

/-- A committed GDR_CLR with its key, for the half-bridges in the mask (R310). STANDBY admits no such commit (R67). -/
def execGdrClr (mask : Nat) (s : State) : Host.Outcome State Fault Refusal :=
  event (fun s => s.awake && mask % 64 != 0) (fun s => s.gdrClear (mask % 64)) s

/-- CLR of GDR_CNT_CLR (R311). -/
def execGdrCntClr (src : Src) (s : State) : Host.Outcome State Fault Refusal :=
  event (fun s => s.live) (fun s => s.write src Reg.GDR_CNT_CLR 4 1) s

/-- SNAP of GDR_SNAP (R311). -/
def execGdrSnap (src : Src) (s : State) : Host.Outcome State Fault Refusal :=
  event (fun s => s.live) (fun s => s.write src Reg.GDR_SNAP 4 1) s

end Sys2Proof.Machine
end

