-- ==== Sys2Proof/Machine/CmdFault.lean ====
section
/-!
DEFINITION. Meanings of the commands of chapters 12 and 13: the fault manager, the safety island, and errors of the memories.
-/
namespace Sys2Proof.Machine

/-! ## Fault manager -/

/-- POP of FLT_Q_POP (R350). -/
def execFltQPop (src : Src) (s : State) : Host.Outcome State Fault Refusal :=
  event (fun s => s.live) (fun s => s.write src Reg.FLT_Q_POP 4 1) s

/-- A committed FLT_CLR whose value R354 admits. STANDBY admits no such commit (R67). -/
def execFltClr (v : Nat) (s : State) : Host.Outcome State Fault Refusal :=
  event (fun s => s.awake && !s.fltClrBad v) (fun s => s.fltClr v) s

/-- A write of FLT_SW (R361). -/
def execFltSw (src : Src) (v : Word) (s : State) : Host.Outcome State Fault Refusal :=
  event (fun s => s.live) (fun s => s.write src Reg.FLT_SW 4 v) s

/-- A write of FLT_SRC_SEL (R360). -/
def execFltSrcSel (src : Src) (code : Word) (s : State) : Host.Outcome State Fault Refusal :=
  event (fun s => s.live) (fun s => s.write src Reg.FLT_SRC_SEL 4 code) s

/-- CLR of FLT_CNT_CLR (R360). -/
def execFltCntClr (src : Src) (s : State) : Host.Outcome State Fault Refusal :=
  event (fun s => s.live) (fun s => s.write src Reg.FLT_CNT_CLR 4 1) s

namespace State

/-! ## Memory errors (R36, R205) -/

/-- A double-bit error lies in the 64-bit word at the model address a. A TCM, the recorder buffer and MRAM raise their source, shared core
RAM and the link buffers MEM_ECC_SRAM; the link buffers have no place in the address map, so an address outside the other memories names them
(log entry 24). A coefficient word raises KNE_ECC when a micro-operation reads it (R205). -/
def eccDouble (s : State) (a : Nat) : State :=
  let s := { s with eccBad := if s.eccBad.contains (a / 8 * 8) then s.eccBad else a / 8 * 8 :: s.eccBad }
  if 0x00100000 ≤ a ∧ a < 0x00500000 then s
  else if 0x10000000 ≤ a ∧ a < 0x10000000 + 4 * 0x40000 then s.pulse 0x88
  else if 0x00500000 ≤ a ∧ a < 0x00B00000 then s.pulse 0x89
  else if 0x01000000 ≤ a ∧ a < 0x01800000 then s.pulse 0x8A
  else s.pulse 0x87

/-- A single-bit error is corrected: MEM_ECC_COR, and KNE_ECC_CNT for a coefficient word (R36, R205). -/
def eccSingle (s : State) (a : Nat) : State :=
  let s := if 0x00100000 ≤ a ∧ a < 0x00500000 then s.inc Reg.KNE_ECC_CNT else s
  s.pulse 0x8B

/-- The model address of a read by a core, whose TCM lies at 0x8000_0000, or by another reader. -/
def eccAddr (a : Nat) (core : Option Nat) : Nat := match core with
  | some n => if 0x80000000 ≤ a ∧ a < 0x80040000 then tcmBase n + (a - 0x80000000) else a
  | none => a

/-- An action of the island; outside a running module it reaches nothing else. -/
def islandAct (s : State) (f : Island → Island) : State := if s.live then s.islAct f else s.isl f

/-- An action of channel P outside its cycle, which may leave a demand (R386). -/
def islandNoted (s : State) (f : Island → Island) : State := s.islandAct fun i => i.noted f

/-- Ports with SD_EN = 0 (R458). In reset the setting stands, and the safe data that fails to come tells (R382). -/
def sdOff (s : State) : Nat := if s.live then maskOf 2 fun p => !s.flag (Reg.ETH_CFG p) 4 else s.island.sdOff

/-- The status SPDU that a P cycle has formed leaves on both ports (R377, R458). -/
def spduLeave (old s : State) : State := if s.live && old.island.seqOut != s.island.seqOut then s.sendSpdu s.island.status else s

end State

/-- A read finds an error in the word at addr (R36). core is the reading core; none for the other readers. -/
def execEccReadError (addr : Nat) (double : Bool) (core : Option Nat) (s : State) : Host.Outcome State Fault Refusal :=
  event (fun s => s.live)
    (fun s => if double then (s.eccDouble (State.eccAddr addr core)).readFail core addr else s.eccSingle (State.eccAddr addr core)) s

/-! ## Safety island -/

/-- An SI terminal has been low for 0.5 µs: bit k of terms is the level of terminal k (R364). -/
def execSiDemand (terms : Nat) (s : State) : Host.Outcome State Fault Refusal :=
  event (fun s => s.island.up && terms % 256 != 255) (fun s => s.islandAct fun i => { i with peelTerms := terms % 256 }.peelDemand true) s

/-- The 1 ms cycle of channel P with what it reads (R365-R373), and the status SPDU it leaves (R377). -/
def execPCycle (terms lows vhsA vlsA vhsB vlsB iload vsup : Nat) (genRb : Bool) (diag : Nat) (s : State) : Host.Outcome State Fault Refusal :=
  event (fun s => s.island.up)
    (fun s => State.spduLeave s (s.islandAct fun i =>
      i.pCycle { terms, lows, vhsA, vlsA, vhsB, vlsB, iload, vsup, genRb, diag, noTrip := s.noTrip, sdOff := s.sdOff })) s

/-- The heartbeat has not toggled for 2 ms (R364). -/
def execHeartbeatLoss (s : State) : Host.Outcome State Fault Refusal :=
  event (fun s => s.island.up && s.islNow.heartbeatLost) (fun s => s.islandAct fun i => i.beatStop.peelDemand false) s

/-- TEST_REQ has been held for more than 600 µs (R364). -/
def execTestReqTimeout (s : State) : Host.Outcome State Fault Refusal :=
  event (fun s => s.island.up && s.islNow.testReqLong) (fun s => s.islandAct fun i => i.peelDemand false) s

/-- The terminals of input n have differed longer than DISC_T (R367). -/
def execDiscLatch (n : Nat) (s : State) : Host.Outcome State Fault Refusal :=
  event (fun s => s.island.up && decide (n < 4) && s.island.discDue n)
    (fun s => s.islandNoted fun i => i.failLatch (4 + n)) s

/-- No new valid SEQ for 20 ms (R376). -/
def execSafeDataTimeout (s : State) : Host.Outcome State Fault Refusal :=
  event (fun s => s.island.up && decide (20 ≤ s.island.fld Reg.SAF_SD_STAT 15 8)) (fun s => s.islandNoted fun i => i.sdFail) s

/-- The second copy of an accepted SEQ has not come within 20 ms (R376). -/
def execSecondCopyTimeout (s : State) : Host.Outcome State Fault Refusal :=
  event (fun s => s.island.up && match s.island.second.getLast? with | some x => decide (20 ≤ s.island.since x.2.2.2.2) | none => false) (fun s => s.islandNoted fun i => i.secondTimeout) s

/-- A pending set is adopted once A, B and G are OFF (R379). -/
def execSpsAdopt (s : State) : Host.Outcome State Fault Refusal :=
  event (fun s => s.island.up && s.island.wait.isSome && s.island.allOff)
    (fun s => s.islandAct fun i => match i.wait with | some b => i.adopt b | none => i) s

/-- A step of the pre-energise check of output x ends, with the readback judged (R370). -/
def execPreEnergiseStep (x vhs vls : Nat) (genRb : Bool) (s : State) : Host.Outcome State Fault Refusal :=
  event (fun s => s.island.up && s.islNow.stepOver x) (fun s => s.islandNoted fun i => i.checkStep x vhs vls genRb) s

/-- TEST_PER has elapsed while A or B is ON (R372). -/
def execDarkTestInstant (s : State) : Host.Outcome State Fault Refusal :=
  event (fun s => s.island.up && (s.island.state 0 == 2 || s.island.state 1 == 2) && !s.island.instant && s.island.fld Reg.SAF_TEST 15 0 == 0)
    (fun s => s.islandAct fun i => i.testInstant) s

/-- The running dark pulse is judged and ends (R372). -/
def execDarkPulse (vhs vls : Nat) (s : State) : Host.Outcome State Fault Refusal :=
  event (fun s => s.island.up && s.islNow.pulseOver) (fun s => s.islandNoted fun i => i.pulseEnd vhs vls) s

/-- SAFE_24V has risen and the self-test has passed (R381). -/
def execIslandStartup (s : State) : Host.Outcome State Fault Refusal :=
  event (fun s => !s.island.up) (fun s => s.islandAct fun i => i.startup) s

/-- SAFE_24V falls below its limit (R368, R383). -/
def execSafe24Loss (s : State) : Host.Outcome State Fault Refusal :=
  event (fun s => s.island.up) (fun s => if s.live then s.safe24Loss else s.isl fun i => { lines := i.lines }) s

/-- The main domain samples the summary lines (R383). -/
def execIslandSummaryLine (s : State) : Host.Outcome State Fault Refusal := event (fun s => s.live) (fun s => s.sampleLines) s

/-- A mirror frame (R383). -/
def execMirrorFrame (s : State) : Host.Outcome State Fault Refusal :=
  event (fun s => s.sys.phase != .inReset && s.island.up) (fun s => s.mirrorFrame) s

/-- No mirror frame for 5 ms (R383). -/
def execMirrorTimeout (s : State) : Host.Outcome State Fault Refusal :=
  event (fun s => s.live && decide (s.sys.mirrorTick + 625000 ≤ s.tickNo)) (fun s => s.mirrorLost) s

end Sys2Proof.Machine
end

