-- ==== Sys2Proof/Machine/CmdLink.lean ====
section
/-!
DEFINITION. Meanings of the commands of chapters 4 and 5: lane states, PRBS and counter commands, beacons and telemetry records. In STANDBY
the lanes and their registers have no clock (R66).
-/
namespace Sys2Proof.Machine

/-- The CDR has been locked for 1 µs: ACQUIRE, which has lasted that long, to ALIGN (R117). -/
def execLaneCdrLocked (n : Nat) (s : State) : Host.Outcome State Fault Refusal :=
  event (fun s => s.awake && s.laneState n == 3 && decide (max (s.lane n).since (s.lane n).signalAt + 125 ≤ s.tickNo))
    (fun s => (s.setSignal n 3).setLaneState n 4) s

/-- Bits that a lane in ALIGN receives: the first K28.5 fixes the boundary, and four consecutive valid idle pairs on it take the lane to UP, where
what waits for a chain lane starts and the rest is heard (R117, R118, R147). Before it is UP a lane counts none of these code-groups: the model's
choice (log entry 214). -/
def State.alignBits (s : State) (n : Nat) (bits : List Bool) : State :=
  let all := (s.lane n).rest ++ bits.map fun b => b != s.rxInv n
  match if s.flag (Reg.LNK_STAT n) 6 then some all else fromK285 all.length all with
  | none => s.setLane n fun l => { l with rest := all.drop (all.length - 9) }
  | some l =>
    let gs := bitsGroups l.length l
    let (p, left) := idlePairs ((s.lane n).pairs, (s.lane n).opened) gs
    let heard := gs.take (gs.length - left.length)
    let rest := l.drop (l.length / 10 * 10)
    let s := (s.setFlag (Reg.LNK_STAT n) 6 true).setLane n fun x => { x with pairs := p.1, opened := p.2, rxRd := heard.foldl heardRd x.rxRd, rest }
    if p.1 < 4 then s
    else
      let s := ((s.setLaneState n 5).chainStart n).chainDefer n 0
      ((s.setLane n fun x => { x with rest, win := heard.foldl (fun w g => (groupCommas w g).1) 1 }).hearTurned n left).1

/-- A lane in ALIGN receives bits (R117, R118). -/
def execLaneAligned (n : Nat) (bits : List Bool) (s : State) : Host.Outcome State Fault Refusal :=
  event (fun s => s.awake && s.laneState n == 4) (fun s => s.alignBits n bits) s

/-- Received bits on the boundary of a lane that is UP: what is invalid and commas off the boundary add to the score; at 4 sync is lost
(R118). In the tick of a loss of signal both bits are set and the lane stays in ACQUIRE (R120). -/
def execLossOfSync (n : Nat) (bits : List Bool) (s : State) : Host.Outcome State Fault Refusal :=
  let both := s.laneState n == 3 && (s.lane n).leftUp == some s.tickNo
  event (fun s => s.awake && (s.laneState n == 5 || both)) (fun s =>
    if both then (s.lnkEvt n 0).incFld (Reg.LNK_LOS_CNT n) 15 0
    else s.hearBits n bits) s

/-- Signal detect and CDR lock as they have been for 64 ns: bit 0 and bit 1. What is lost sets LOSIG, and takes a lane in UP back to ACQUIRE (R118,
R120). The table of R117 gives that exit to UP alone; that ALIGN has it too, and that TEST stays, is the model's choice (log entry 213). -/
def execLossOfSignal (n sig : Nat) (s : State) : Host.Outcome State Fault Refusal :=
  event (fun s => s.awake && decide (3 ≤ s.laneState n) && decide (sig < 4) && s.fld (Reg.LNK_STAT n) 5 4 != sig) (fun s =>
    let old := s.fld (Reg.LNK_STAT n) 5 4
    let s := s.setSignal n sig
    if !((bitAt old 0 && !bitAt sig 0) || (bitAt old 1 && !bitAt sig 1)) then s
    else if s.laneState n == 4 || s.laneState n == 5 then (s.lnkEvt n 1).setLaneState n 3
    else s.lnkEvt n 1) s

/-- The two clocks have slipped against each other (R121). -/
def execElasticBufferOverflow (n : Nat) (inFrame : Bool) (slip : Int) (s : State) : Host.Outcome State Fault Refusal :=
  event (fun s => s.awake && s.laneUp n) (fun s => s.bufferSlip n inFrame slip) s

/-- Bits from the line reach a checker without lock; after 64 error-free ones it declares lock (R124). -/
def execPrbsLock (n : Nat) (bits : List Bool) (s : State) : Host.Outcome State Fault Refusal :=
  event (fun s => s.lineChecks n && !s.prbsLocked n) (fun s => s.prbsBits n bits) s

/-- Bits from the line reach a locked checker: errors count, and with more than 16 among the last 64 bits lock drops (R124). -/
def execPrbsLockLoss (n : Nat) (bits : List Bool) (s : State) : Host.Outcome State Fault Refusal :=
  event (fun s => s.lineChecks n && s.prbsLocked n) (fun s => s.prbsBits n bits) s

/-- SNAP of LNK_CNT_CTRL (R125). -/
def execLnkSnap (n : Nat) (s : State) : Host.Outcome State Fault Refusal :=
  event (fun s => s.awake && !s.laneAbsent n) (fun s => s.lnkSnap n) s

/-- CLR_PRBS (R125): errors of the tick of the clear count after it. -/
def execLnkClrPrbs (n : Nat) (s : State) : Host.Outcome State Fault Refusal :=
  event (fun s => s.awake && !s.laneAbsent n) (fun s => s.lnkClrPrbs n) s

/-- CLR_CODE (R131). -/
def execLnkClrCode (n : Nat) (s : State) : Host.Outcome State Fault Refusal :=
  event (fun s => s.awake && !s.laneAbsent n) (fun s => s.lnkClrCode n) s

/-- SNAP on all sixteen lanes in one tick (R125). -/
def execLnkSnapAll (s : State) : Host.Outcome State Fault Refusal :=
  event (fun s => s.awake) (fun s => (List.range 16).foldl State.lnkSnap s) s

/-- A new auxiliary source takes effect at the next idle pair of the old stream (R112). -/
def execAuxSourceChange (k : Nat) (s : State) : Host.Outcome State Fault Refusal :=
  event (fun s => s.awake && decide (k < 2)) (fun s => s.auxFollows k) s

/-- The receiver of lane n takes code-groups from the line: ALIGN, UP, and TEST but for the near-end loops and the checker (R117, R123, R127). -/
def State.codesHeard (s : State) (n : Nat) : Bool :=
  s.awake && (s.laneState n == 4 || s.laneState n == 5 || s.laneState n == 6 && !s.checkerOn n && (s.loopOf n == 0 || s.loopOf n == 3))

/-- A code-group is received and classified (R115); while the lane is UP it counts for the score (R118). One that a lane in ALIGN receives so is
counted: the model's choice (log entry 214). -/
def execLaneCodeError (n group : Nat) (s : State) : Host.Outcome State Fault Refusal :=
  event (fun s => s.codesHeard n) (fun s => (s.hearGroups n [group]).1) s

/-- CLR of LNK_MBY_CLR (R168). -/
def execLnkMbyClr (n : Nat) (s : State) : Host.Outcome State Fault Refusal :=
  event (fun s => s.awake && decide (n < s.numChains)) (fun s => s.mbyClr n) s

/-- LNK_TLM_SNAP: the latest record of the position (R168). -/
def execLnkTlmSnap (n pos : Nat) (s : State) : Host.Outcome State Fault Refusal :=
  event (fun s => s.awake && decide (n < s.numChains)) (fun s => s.tlmSnap n pos) s

/-- INJ of LNK_INJ (R126). -/
def execLnkInj (src : Src) (n : Nat) (s : State) : Host.Outcome State Fault Refusal :=
  event (fun s => s.live && decide (n < 16)) (fun s => s.write src (Reg.LNK_INJ n) 4 1) s

/-- A beacon's code-groups arrive on a chain, the K28.1 stamp units of 250 ps after the module's own boundary (R148, R166, R434). -/
def execPeerBeaconReceive (n : Nat) (groups : List Nat) (stamp : Nat) (s : State) : Host.Outcome State Fault Refusal :=
  event (fun s => s.chainHears n groups.length) (fun s => s.chainFrame n kBeacon groups fun s f e => s.peerBeacon n f e stamp) s

/-- A telemetry frame's code-groups arrive on a chain; its K29.7 reaches the line input ns after the boundary (R149, R150, R249). -/
def execTelemetryRecordReceive (n : Nat) (groups : List Nat) (ns : Nat) (s : State) : Host.Outcome State Fault Refusal :=
  event (fun s => s.chainHears n groups.length) (fun s => s.chainFrame n kStart groups fun s f e => s.recordReceive n f e ns) s

end Sys2Proof.Machine
end

