-- ==== Sys2Proof/Machine/CmdMeasure.lean ====
section
/-!
DEFINITION. Meanings of the commands of chapter 11: the precision channels, which STANDBY stops (R66), and the housekeeping converter, which
goes on.
-/
namespace Sys2Proof.Machine

/-- An output of channel c completes off nanoseconds into the tick, at an instant of its modulator's grid; odd says that in an INTERLEAVED pair it
comes from the second modulator (R316-R328). -/
def execAdcOutput (c : Fin 16) (odd : Bool) (code : Int) (overload : Bool) (off : Nat) (s : State) : Host.Outcome State Fault Refusal :=
  let m := if odd then c.val + 1 else c.val
  event (fun s => s.awake && decide (off < 8) && !s.pairedOdd c && (!odd || (s.pairMode c == 1 && c.val % 2 == 0))
      && s.outputDue m (8 * s.tickNo + off))
    (fun s => s.adcBoundary c m code overload off) s

/-- A write of ADC_RESYNC (R317). -/
def execAdcResync (src : Src) (mask : Word) (s : State) : Host.Outcome State Fault Refusal :=
  event (fun s => s.live) (fun s => s.write src Reg.ADC_RESYNC 4 mask) s

/-- The segment of a channel is lost (R328). -/
def execAdcSegmentLoss (c : Fin 16) (s : State) : Host.Outcome State Fault Refusal :=
  event (fun s => s.awake && s.flag Reg.ADC_STAT (16 + c)) (fun s => s.segLoss c) s

/-- The segment returns (R317, R328). -/
def execAdcSegmentReturn (c : Fin 16) (s : State) : Host.Outcome State Fault Refusal :=
  event (fun s => s.awake && !s.flag Reg.ADC_STAT (16 + c)) (fun s => s.segReturn c) s

/-- SNAP of one channel (R338). -/
def execAdcChSnap (src : Src) (c : Fin 16) (s : State) : Host.Outcome State Fault Refusal :=
  event (fun s => s.live) (fun s => s.write src (Reg.ADC_CH_SNAP c) 4 1) s

/-- SNAP of every channel (R337). -/
def execAdcSnapAll (src : Src) (s : State) : Host.Outcome State Fault Refusal :=
  event (fun s => s.live) (fun s => s.write src Reg.ADC_SNAP_ALL 4 1) s

/-- CLR of ADC_CNT_CLR (R337). -/
def execAdcCntClr (src : Src) (s : State) : Host.Outcome State Fault Refusal :=
  event (fun s => s.live) (fun s => s.write src Reg.ADC_CNT_CLR 4 1) s

/-- SNAP of ADC_MTR_CTRL (R335). -/
def execMeterSnap (src : Src) (s : State) : Host.Outcome State Fault Refusal :=
  event (fun s => s.live) (fun s => s.write src Reg.ADC_MTR_CTRL 4 1) s

/-- CLR of ADC_MTR_CTRL (R335). -/
def execMeterClear (src : Src) (s : State) : Host.Outcome State Fault Refusal :=
  event (fun s => s.live) (fun s => s.write src Reg.ADC_MTR_CTRL 4 2) s

/-- The running housekeeping entry ends 64 µs after its start with its five outputs: xs are the readings, ys the differences of a diode's forward
voltages (R329-R331). -/
def execHkEntryDone (xs ys : List Nat) (s : State) : Host.Outcome State Fault Refusal :=
  event (fun s => s.live && s.hk.running && !s.urgRun && s.hkElapsed) (fun s => s.hkEntryDone xs ys) s

/-- A write of HKP_URG (R332, R333). -/
def execHkpUrg (src : Src) (kind index : Nat) (s : State) : Host.Outcome State Fault Refusal :=
  event (fun s => s.live) (fun s => s.write src Reg.HKP_URG 4 (BitVec.ofNat 32 (kind % 16 * 16 + index % 16))) s

/-- The urgent entry ends 64 µs after its start with its five outputs (R332). -/
def execHkUrgentDone (xs ys : List Nat) (s : State) : Host.Outcome State Fault Refusal :=
  event (fun s => s.live && s.urgRun && s.hkElapsed) (fun s => s.hkUrgentDone xs ys) s

end Sys2Proof.Machine
end

