-- ==== Sys2Proof/Machine/CmdTrust.lean ====
section
/-!
DEFINITION. Meanings of the commands of chapters 1 to 3: register writes, submission, the signed commands, sessions, debug access,
attestation, the MRAM window and its die.
-/
namespace Sys2Proof.Machine

/-- A direct write of the HPI or a core (R7, R11, R38, R39, R92, R93, R536). -/
def execRegisterWrite (src : Src) (addr width : Nat) (v : Word) (s : State) : Host.Outcome State Fault Refusal :=
  event (fun s => s.live) (fun s => s.write src addr width v) s

/-- GO of stage source k (R81, R97); in LOAD after a failed boot only the HPI runs (R64). -/
def execTruCmtGo (k : Nat) (s : State) : Host.Outcome State Fault Refusal :=
  event (fun s => s.live && decide (k < 5) && (s.sys.recipeOk || k == 0)) (fun s => s.go k) s

/-- CLR of a stage (R97). -/
def execTruStgClr (k : Nat) (s : State) : Host.Outcome State Fault Refusal :=
  event (fun s => s.live && decide (k < 5)) (fun s => s.stageClear k) s

/-- A reassembly is dropped 100 ms after its first segment (R456). -/
def execUzopexReassemblyTimeout (k : Nat) (s : State) : Host.Outcome State Fault Refusal :=
  event (fun s => s.live && (match s.uz[k]? with | some r => s.elapsed r.tick 100000000 | none => false))
    (fun s => match s.uz[k]? with | some r => s.uzTimeout k r | none => s) s

namespace State

/-- The command whose verification ends next, if its opcode passes the test. -/
def headWith (s : State) (op : Nat → Bool) : Option Cmd := match s.headReady with
  | some c => if op c.opcode then some c else none
  | none => none

/-- The effect f of that command, in an event that it allows. -/
def headRun (s : State) (op : Nat → Bool) (f : State → Cmd → State) : State := match s.headWith op with
  | some c => f s c
  | none => s

end State

/-- Verification of the command in front ends, where the module runs and the opcode is the row's (R89, R90). -/
def signedEvent (op : Nat → Bool) (f : State → Cmd → State) (s : State) : Host.Outcome State Fault Refusal :=
  event (fun s => s.live && (s.headWith op).isSome) (fun s => s.headRun op f) s

/-- COMMIT (R94-R96). A head whose opcode names no command is refused here too (R85, R90). -/
def execCommit (s : State) : Host.Outcome State Fault Refusal :=
  signedEvent (fun op => op == 1 || !opcodeKnown op) State.commitRun s

/-- VERIFY_PENDING (R79). -/
def execVerifyPending (s : State) : Host.Outcome State Fault Refusal := signedEvent (fun op => op == 2) State.verifyRun s

/-- PROMOTE (R80). -/
def execPromote (s : State) : Host.Outcome State Fault Refusal := signedEvent (fun op => op == 3) State.promoteRun s

/-- One 64 KiB step of the promotion completes; one that has not begun waits while the MRAM window is closed (R80, R507). -/
def execPromoteCopyStep (s : State) : Host.Outcome State Fault Refusal :=
  event (fun s => s.live && s.tru.promote.isSome && s.tru.copying)
    (fun s => match s.tru.promote with | some k => s.promoteStep k | none => s) s

/-- CLEAR_PENDING (R78). -/
def execClearPending (s : State) : Host.Outcome State Fault Refusal := signedEvent (fun op => op == 4) State.clearRun s

/-- BANK_COMMIT (R98, R99). -/
def execBankCommit (s : State) : Host.Outcome State Fault Refusal := signedEvent (fun op => op == 5) State.bankRun s

/-- The bank digest and the bank check end (R99, R204). -/
def execBankDigestDone (s : State) : Host.Outcome State Fault Refusal :=
  let ready := fun (s : State) => match s.tru.bank, s.tru.queue.head? with
    | some x, some c => if x.accepted then none else some (x, c)
    | _, _ => none
  event (fun s => s.live && (ready s).isSome)
    (fun s => match ready s with | some (x, c) => s.bankDone c x | none => s) s

/-- GRANT (R86). -/
def execGrant (s : State) : Host.Outcome State Fault Refusal := signedEvent (fun op => op == 6) State.grantRun s

/-- REVOKE (R87). -/
def execRevoke (s : State) : Host.Outcome State Fault Refusal := signedEvent (fun op => op == 7) State.revokeRun s

/-- The lifetime of the session in a slot has run out (R87). -/
def execSessionExpiry (slot : Nat) (s : State) : Host.Outcome State Fault Refusal :=
  event (fun s => s.live && (match (s.tru.sessions.getD slot {}).held with | some h => h.left == 0 | none => false))
    (fun s => s.sessExpire slot) s

/-- DEBUG_UNLOCK (R100). -/
def execDebugUnlock (s : State) : Host.Outcome State Fault Refusal := signedEvent (fun op => op == 8) State.debugRun s

/-- DURATION has elapsed: debug access closes (R100). -/
def execDebugExpiry (s : State) : Host.Outcome State Fault Refusal :=
  event (fun s => s.live && s.flag Reg.TRU_STAT 30 && s.fld Reg.TRU_DBG_STAT 31 16 == 0) (fun s => s.closeDebug) s

/-- LOCK of TRU_DBG_LOCK (R100). -/
def execTruDbgLock (s : State) : Host.Outcome State Fault Refusal := event (fun s => s.live) (fun s => s.closeDebug) s

/-- PROVISION (R72). -/
def execProvision (s : State) : Host.Outcome State Fault Refusal := signedEvent (fun op => op == 9) State.provisionRun s

/-- GO of LOG_ATT_GO (R108). -/
def execLogAttGo (s : State) : Host.Outcome State Fault Refusal := event (fun s => s.live) (fun s => s.attGo) s

/-- The attestation signature is ready (R108). -/
def execAttestationDone (s : State) : Host.Outcome State Fault Refusal :=
  event (fun s => s.live && s.tru.att.isSome) (fun s => match s.tru.att with | some a => s.attDone a | none => s) s

/-- The checks of PENDING end (R79). -/
def execVerifyPendingDone (s : State) : Host.Outcome State Fault Refusal :=
  event (fun s => s.live && s.tru.verifying) (fun s => s.verifyDone) s

/-- 10 ms without a result of the MRAM die: the window closes, in boot too (R507). -/
def execMramNoResult (s : State) : Host.Outcome State Fault Refusal :=
  event (fun s => s.sys.phase != .inReset && s.elapsed s.hk.mramTick 10000000) (fun s => s.mramSilent) s

/-- CLR of SYS_MRAM_CLR (R521). -/
def execSysMramClr (src : Src) (s : State) : Host.Outcome State Fault Refusal :=
  event (fun s => s.live) (fun s => s.write src Reg.SYS_MRAM_CLR 4 1) s

/-- CLR of SYS_TEXT_CLR (R521). -/
def execSysTextClr (src : Src) (s : State) : Host.Outcome State Fault Refusal :=
  event (fun s => s.live) (fun s => s.write src Reg.SYS_TEXT_CLR 4 1) s

end Sys2Proof.Machine
end

