-- ==== Sys2Proof/Machine/CmdModes.lean ====
section
/-!
DEFINITION. Meanings of the commands of chapter 2 and of the thermal events of chapter 19: mode requests and limits, reset sources, the
watchdogs, boot, STANDBY and wake.
-/
namespace Sys2Proof.Machine

/-- A committed SYS_MODE_REQ that passes the mode rules (R44-R51, R65, R90). -/
def execModeRequest (target : Nat) (s : State) : Host.Outcome State Fault Refusal :=
  event (fun s => s.live && decide (target < 8) && s.requestCheck target == 0) (fun s => s.modeRequest target 0 0) s

/-- A committed SYS_RESET_REQ with the key of R69; STANDBY admits no such commit (R67). -/
def execResetRequest (key : Nat) (s : State) : Host.Outcome State Fault Refusal :=
  event (fun s => s.awake && key == 0x5E7B) (fun s => s.resetModule 9) s

/-- The ride-through time limit is exceeded (R46, R50). -/
def execRideThroughLimit (s : State) : Host.Outcome State Fault Refusal :=
  event (fun s => s.live && s.mode == State.RIDETHROUGH && s.elapsed s.sys.rtEntry (s.getN (Reg.FLT_THR 10) * 1000000))
    (fun s => s.enterSafe 7 0 0) s

/-- The build-up time limit is exceeded while ENERGIZED is 0 (R46, R50). -/
def execBuildUpLimit (s : State) : Host.Outcome State Fault Refusal :=
  event (fun s => s.live && s.mode == State.ENERGIZE && !s.flag Reg.SYS_MODE 12
      && s.elapsed s.sys.energizeEntry (s.getN (Reg.FLT_THR 11) * 1000000))
    (fun s => s.enterSafe 8 0 0) s

/-- v has stayed inside the band for GF_HOLD (R358). -/
def execGridRecovered (s : State) : Host.Outcome State Fault Refusal :=
  event (fun s => s.awake && s.sys.protInForce && s.gridRecovered) (fun s => s.gridRecover) s

/-- Power-on (R53, R54). -/
def execPowerOnReset (s : State) : Host.Outcome State Fault Refusal := event (fun _ => true) (fun s => s.resetModule 0) s

/-- A monitored rail leaves its band (R58). -/
def execSupplyMonitorReset (rail : Nat) (s : State) : Host.Outcome State Fault Refusal :=
  event (fun _ => decide (rail < 7)) (fun s => s.supplyReset rail) s

/-- Every rail has been back for 2 ms (R58). -/
def execRailReturn (s : State) : Host.Outcome State Fault Refusal := event (fun s => s.sys.supplyBad && s.elapsed s.sys.supplyTick 2000000) (fun s => s.railReturn) s

/-- A low on nRESET is sampled (R56). -/
def execNresetLow (s : State) : Host.Outcome State Fault Refusal :=
  event (fun s => !s.sys.nresetLow) (fun s => { s with sys := { s.sys with nresetLow := true, nresetFell := s.tickNo } }) s

/-- nRESET has been low for 10 µs (R53, R56). -/
def execNresetDebounced (s : State) : Host.Outcome State Fault Refusal :=
  event (fun s => s.sys.nresetLow && !s.sys.nresetHeld && s.elapsed s.sys.nresetFell 10000)
    (fun s =>
      let t := s.resetModule 2
      { t with sys := { t.sys with nresetHeld := true } }) s

/-- nRESET returns high before 10 µs (R56). -/
def execNresetGlitch (s : State) : Host.Outcome State Fault Refusal :=
  event (fun s => s.sys.nresetLow && !s.sys.nresetHeld && !s.elapsed s.sys.nresetFell 10000)
    (fun s => ({ s with sys := { s.sys with nresetLow := false } } : State).incFld Reg.SYS_RESET_CAUSE 23 20) s

/-- nRESET has been high for 10 µs again (R56). -/
def execNresetRelease (s : State) : Host.Outcome State Fault Refusal := event (fun s => s.sys.nresetHeld && s.elapsed s.sys.nresetFell 20000)
  (fun s => s.nresetRelease) s

/-- A write of SYS_WDT_KICKn (R59). -/
def execWatchdogKick (n key : Nat) (s : State) : Host.Outcome State Fault Refusal :=
  event (fun s => s.live && decide (n < 4)) (fun s => s.wdtWrite n key) s

/-- A running watchdog's TIMEOUT has passed without a kick (R53, R59, R480). -/
def execWatchdogTimeout (n : Nat) (s : State) : Host.Outcome State Fault Refusal :=
  event (fun s => s.live && decide (n < 4) && s.wdtOn n && (s.sys.wdtPaused.getD n none).isNone
      && s.elapsed (s.sys.wdtKick.getD n 0) (s.fld (Reg.SYS_WDT_CFG n) 15 0 * 100000))
    (fun s => s.resetModule (4 + n)) s

/-- Reset is released and the Starter runs (R62). That it waits for REFCLK is the sender's order of events. -/
def execBootStart (headB : Bool) (mramT : Int) (s : State) : Host.Outcome State Fault Refusal :=
  event (fun s => s.sys.phase == .inReset && !s.sys.supplyBad && !s.sys.nresetHeld) (fun s => s.bootStart headB mramT) s

/-- A boot that an open journal holds goes on once the MRAM die is inside the window (R508). -/
def execBootMramWindowEntry (mramT : Int) (s : State) : Host.Outcome State Fault Refusal :=
  event (fun s => s.sys.phase == .boot && s.sys.bootHeld) (fun s => s.bootResume mramT) s

/-- Boot ends, with the verdict of the checks of R77 on the ACTIVE slot (R46, R62, R64). Without REFCLK it waits (R406). -/
def execBootEnd (s : State) : Host.Outcome State Fault Refusal :=
  event (fun s => s.sys.phase == .boot && !s.sys.bootHeld && !s.clk.refGone) (fun s => s.bootEnd (s.imageCheck activeSlot)) s

/-- The retention save completes (R65, R489). -/
def execRetentionSaveDone (s : State) : Host.Outcome State Fault Refusal :=
  event (fun s => s.live && s.sys.saving) (fun s => s.standbyEnter) s

/-- A wake source asserts in STANDBY or during an entry (R67, R68). -/
def execWakeEvent (source : Nat) (s : State) : Host.Outcome State Fault Refusal :=
  event (fun s => s.live && (s.entryOpen || s.mode == State.STANDBY) && s.wakeAsserts source) (fun s => s.wake source) s

/-- The wake is complete (R67). -/
def execWakeComplete (s : State) : Host.Outcome State Fault Refusal :=
  event (fun s => s.live && s.sys.waking.isSome) (fun s => match s.sys.waking with | some src => s.wakeDone src | none => s) s

/-- The die comparator trips, in boot too (R506, R509, R538). -/
def execDieShutdown (s : State) : Host.Outcome State Fault Refusal :=
  event (fun s => s.sys.phase != .inReset) (fun s => s.dieTrip) s

end Sys2Proof.Machine
end

