-- ==== Sys2Proof/Machine/CmdNet.lean ====
section
/-!
DEFINITION. Meanings of the commands of chapter 17: the Ethernet ports and their rings, and the CAN controllers.
-/
namespace Sys2Proof.Machine

/-! ## Ethernet -/

/-- A frame, from its destination MAC to the byte before its FCS; bad is the number of invalid code-groups met, and its timestamp point
lies pos units of 250 ps before the tick (R440, R449, R451). -/
def execEthFrameReceive (p : Fin 2) (frame : List Byte) (fcsOk : Bool) (bad : Nat) (pos : Nat) (s : State) : Host.Outcome State Fault Refusal :=
  event (fun s => s.ethOn p.val && s.linkUp p.val) (fun s => s.ethReceive p.val frame fcsOk bad pos) s

/-- The frame on the line has left; its timestamp point lies pos units of 250 ps before the tick (R441, R454). -/
def execEthFrameSent (p : Fin 2) (pos : Nat) (s : State) : Host.Outcome State Fault Refusal :=
  event (fun s => s.ethOn p.val && s.ethLeft p.val)
    (fun s => match (s.ethSt p.val).cur with | some f => s.ethSent p.val f pos | none => s) s

/-- The PCS synchronises (lp none), or auto-negotiation completes with the partner's base page lp; the link comes up with the first where
AN_EN is 0, with the second where it is 1 (R449, R472; log entry 230). -/
def execEthLinkUp (p : Fin 2) (lp : Option Nat) (s : State) : Host.Outcome State Fault Refusal :=
  event (fun s => s.ethOn p.val && !s.linkUp p.val) (fun s => s.ethLinkUp p.val lp) s

/-- The link goes down (R449), or a port whose link is not up loses synchronisation (R472). -/
def execEthLinkDown (p : Fin 2) (s : State) : Host.Outcome State Fault Refusal :=
  event (fun s => s.live && (s.linkUp p.val || s.flag (Reg.ETH_STAT p.val) 1))
    (fun s => if s.linkUp p.val then s.ethLinkDown p.val else s.ethSyncLost p.val) s

/-- TX_START of ETHp_RING_CTRL (R454). -/
def execTxStart (src : Src) (p : Fin 2) (s : State) : Host.Outcome State Fault Refusal :=
  event (fun s => s.live) (fun s => s.write src (Reg.ETH_RING_CTRL p.val) 4 1) s

/-- TX_STOP (R454). -/
def execTxStop (src : Src) (p : Fin 2) (s : State) : Host.Outcome State Fault Refusal :=
  event (fun s => s.live) (fun s => s.write src (Reg.ETH_RING_CTRL p.val) 4 2) s

/-- RX_START (R454). -/
def execRxStart (src : Src) (p : Fin 2) (s : State) : Host.Outcome State Fault Refusal :=
  event (fun s => s.live) (fun s => s.write src (Reg.ETH_RING_CTRL p.val) 4 4) s

/-- RX_STOP (R454). -/
def execRxStop (src : Src) (p : Fin 2) (s : State) : Host.Outcome State Fault Refusal :=
  event (fun s => s.live) (fun s => s.write src (Reg.ETH_RING_CTRL p.val) 4 8) s

/-- CLR of ETHp_CNT_CLR (R471). -/
def execEthCntClr (src : Src) (p : Fin 2) (s : State) : Host.Outcome State Fault Refusal :=
  event (fun s => s.live) (fun s => s.write src (Reg.ETH_CNT_CLR p.val) 4 1) s

/-! ## CAN -/

namespace State

/-- The controller takes part in the bus: it runs, and it is not bus-off (R469, R470). -/
def canOnBus (s : State) (c : Nat) : Bool := s.live && !s.canStopped c && !s.busOff c

/-- A controller that receives a frame with SOF `ago` units before the tick: it has joined the bus by then and sends no frame of its own, internal
loopback does not listen to the bus, and an FD frame needs FD_EN (R462, R467, R470; log entry 202). -/
def canHears (s : State) (c : Nat) (fdf : Bool) (ago : Nat) : Bool :=
  s.canOnBus c && (s.canSt c).onBus.isNone && s.canMode c != 3 && (!fdf || s.flag (Reg.CAN_CFG c) 4) && s.canJoined c (32 * s.tickNo - ago)

/-- A frame that the wake filter of the controller admits (R470). -/
def canWakes (s : State) (c : Nat) (f : CanFrame) : Bool := idMatch f.ide f.id (s.getN (Reg.CAN_WAKE_ID c)) (s.getN (Reg.CAN_WAKE_MASK c))

/-- A valid frame: stored or lost, and in STANDBY or an entry into it a wake event where the wake filter admits it (R67, R68, R463, R470). -/
def canReceive (s : State) (c : Nat) (f : CanFrame) (ago : Nat) : State :=
  let at1 := 32 * s.tickNo - ago
  let t := (s.canStore c f (s.stampAgo ago) at1).setCan c fun x => { x with olds := x.olds.filter fun o => decide (at1 < 32 * o.2.1) }
  if s.canWakes c f then t.wakeBy 2 else t

end State

/-- A valid frame, whose SOF lies sof units of 250 ps before the tick (R463, R470). -/
def execCanFrameReceived (c : Fin 2) (ide : Bool) (id : Nat) (fdf : Bool) (brs : Bool) (esi : Bool) (rtr : Bool) (dlc : Nat) (data : List Byte)
    (sof : Nat) (s : State) : Host.Outcome State Fault Refusal :=
  event (fun s => s.canHears c.val fdf sof) (fun s => s.canReceive c.val { ide, id, fdf, brs, esi, rtr, dlc, data } sof) s

/-- The frame on the bus has been sent (R465). -/
def execCanFrameSent (c : Fin 2) (s : State) : Host.Outcome State Fault Refusal :=
  event (fun s => s.canOnBus c.val && s.frameRan c.val) (fun s => s.canSent c.val) s

/-- A bus error of kind 1-6, or lost arbitration (0); dt and dr are what TEC and REC gain by it under ISO 11898-1 (R465, R469). -/
def execCanError (c : Fin 2) (kind : Nat) (data : Bool) (dt dr : Nat) (s : State) : Host.Outcome State Fault Refusal :=
  event (fun s => s.canOnBus c.val && s.canJoined c.val (32 * (s.tickNo + 1)) && decide (kind ≤ 6) && s.isoSteps c.val kind dt dr)
    (fun s => s.canError c.val kind data dt dr) s

/-- RECOVER of CANc_CTRL (R469). -/
def execCanRecover (src : Src) (c : Fin 2) (s : State) : Host.Outcome State Fault Refusal :=
  event (fun s => s.live) (fun s => s.write src (Reg.CAN_CTRL c.val) 4 4) s

/-- The recovery count is complete (R469). -/
def execCanRecoveryDone (c : Fin 2) (s : State) : Host.Outcome State Fault Refusal :=
  event (fun s => s.live && s.recoverDue c.val) (fun s => s.canRecovered c.val) s

/-- START of CANc_CTRL (R470). -/
def execCanStart (src : Src) (c : Fin 2) (s : State) : Host.Outcome State Fault Refusal :=
  event (fun s => s.live) (fun s => s.write src (Reg.CAN_CTRL c.val) 4 1) s

/-- STOP of CANc_CTRL (R469, R470). -/
def execCanStop (src : Src) (c : Fin 2) (s : State) : Host.Outcome State Fault Refusal :=
  event (fun s => s.live) (fun s => s.write src (Reg.CAN_CTRL c.val) 4 2) s

/-- A write of CANc_TXREQk (R465). -/
def execCanTxreq (src : Src) (c : Fin 2) (k : Fin 2) (mask : Word) (s : State) : Host.Outcome State Fault Refusal :=
  event (fun s => s.live) (fun s => s.write src (Reg.CAN_TXREQ c.val k.val) 4 mask) s

/-- A write of CANc_TXCANk (R468). -/
def execCanTxcan (src : Src) (c : Fin 2) (k : Fin 2) (mask : Word) (s : State) : Host.Outcome State Fault Refusal :=
  event (fun s => s.live) (fun s => s.write src (Reg.CAN_TXCAN c.val k.val) 4 mask) s

/-- The first read of a FULL buffer (R464). -/
def execCanBufferLock (c : Fin 2) (b : Nat) (s : State) : Host.Outcome State Fault Refusal :=
  event (fun s => s.live && decide (b < 64)) (fun s => s.bufLock c.val b) s

/-- A read of word LASTW (R464). -/
def execCanBufferRelease (c : Fin 2) (b : Nat) (s : State) : Host.Outcome State Fault Refusal :=
  event (fun s => s.live && decide (b < 64)) (fun s => s.bufRelease c.val b) s

/-- A matrix column starts (R466). -/
def execTtColumnStart (c : Fin 2) (s : State) : Host.Outcome State Fault Refusal :=
  event (fun s => s.live && s.columnDue c.val) (fun s => s.columnStart c.val) s

/-- CLR of CANc_CNT_CLR (R473). -/
def execCanCntClr (src : Src) (c : Fin 2) (s : State) : Host.Outcome State Fault Refusal :=
  event (fun s => s.live) (fun s => s.write src (Reg.CAN_CNT_CLR c.val) 4 1) s

/-- The pending buffer that contends first goes on the bus, the sample point of its SOF pos units of 250 ps into the tick (R462, R465). -/
def execCanTxStart (c : Fin 2) (pos : Nat) (s : State) : Host.Outcome State Fault Refusal :=
  event (fun s => s.live && s.canMaySend c.val && decide (pos < 32)) (fun s => s.canTxStart c.val pos) s

end Sys2Proof.Machine
end

