-- ==== Sys2Proof/Machine/PartnerRx.lean ====
section
/-!
DEFINITION. What a module does with each kind of frame of its partner (R243, R246-R258, R264, R265).
-/
namespace Sys2Proof.Machine
namespace State

/-- A valid partner-lane frame of the type whose CHAIN and LENGTH fit (R140, R243). -/
def fromPartner? (s : State) (lane type : Nat) (f : List Byte) (errored : Bool) (fits : Nat → Nat → Bool) : Option (FrameHead × List Byte) :=
  match s.partnerBody? lane type f errored with
  | some (h, b) => if fits h.chain b.length then some (h, b) else none
  | none => none

/-- This module receives a frame of k code-groups on partner lane 0 or 1. -/
def partnerHears (s : State) (lane k : Nat) : Bool := s.paired && s.awake && decide (lane < 2) && s.lineHears (12 + lane) k

/-- The effect g of a frame whose code-groups come in on a partner lane, if it is valid, after what every valid frame does (R140, R243). The line
time of a frame that is no STATE segment moves the end of the copy's window (R246). -/
def withPartner (s : State) (lane type : Nat) (gs : List Nat) (fits : Nat → Nat → Bool) (g : State → FrameHead → List Byte → State) : State :=
  match s.lineFrame (12 + lane) gs with
  | (t, none) => t
  | (t, some (x, f, e)) =>
    let t := if type = 0x10 then t else t.setPtn fun p => { p with others := modNth (fun n => n + 2 * gs.length) lane p.others }
    match if x = kStart then s.fromPartner? lane type f e fits else none with
    | some (h, b) => g (t.heard h) h b
    | none => t

/-! ## STATUS (R247, R252-R254, R257, R259, R264, R265) -/

/-- Words of PTN_PNEEDk from the 18 bytes of NEED. -/
def pneedShow (s : State) (b : List Byte) : State :=
  (List.range 5).foldl (fun s k => s.putN (Reg.PTN_PNEED k) (leAt (b ++ [0, 0]) (4 * k) 4)) s

/-- STOP of the partner: SAFE with its REASON, and a LEAD becomes FOLLOW (R254). -/
def stopHeard (s : State) (reason : Nat) : State :=
  let s := if s.mode = SAFE then s else (s.enterSafe reason 0 0).ptnEvt 11
  if s.isLead then s.stepDown else s

/-- YIELD of the LEAD: this FOLLOW promotes (R259), unless it has withdrawn or is detached (R263). A module that has yielded on command is
done yielding when it hears the new LEAD. -/
def yieldHeard (s : State) (flags role : Nat) : State :=
  let s := if s.isFollow ∧ role = 1 ∧ !s.withdrawn then s.setPtn fun p => { p with yielded := false } else s
  if bitAt flags 0 && s.isFollow && !s.withdrawn && !s.detached && !s.ptn.yielded then s.promote else s

/-- The partner's verdict (R257, R258). A GV_DONE that its last STATUS already showed belongs to an earlier check. -/
def verdictHeard (s : State) (flags old : Nat) : State :=
  let s := s.setFlag Reg.PTN_STAT 14 (bitAt flags 4)
  if bitAt flags 3 && !bitAt old 3 then (s.setPtn fun p => { p with gvPartner := some (!bitAt flags 4) }).gvJudge else s

/-- RESET_REQ: a FOLLOW resets, another module records the refusal once (R53, R57, R265). -/
def resetHeard (s : State) (flags old : Nat) : State :=
  if !bitAt flags 6 then s
  else if s.isFollow then s.resetModule 8
  else if bitAt old 6 then s
  else s.logRecord { type := 0x000B, result := 1, reason := 0x12, detail := s.getBytes Reg.PTN_PUID_LO 2 }

/-- The running cycle takes the length that the period of its mode gives from its boundary on (R253, R431). -/
def cycleRetime (s : State) : State :=
  let p := s.periodOfMode s.mode
  if p = s.tim.period then s
  else
    let b := (s.tim.boundSec * 1000000000 + s.tim.boundNs) % 2 ^ 64
    let next := gridFrom p (b + 8 * p)
    let len := ((diff64 next b).toNat + 7) / 8
    (s.setTim fun t => { t with next := next, period := p, cycleLen := len }).setFld Reg.TIM_PERIOD 16 0 len

/-- A transition of the LEAD that a FOLLOW learns of in the cycle that it starts, before the deadline, is made at the boundary of that cycle: what
the boundary gives a mode (length, hardware words, a start of the engine and of its profiles) follows (R199, R253, R419, R431). -/
def followLate (s : State) (tmode tcycle : Nat) : State :=
  if s.followMay && engineMode tmode && decide (tmode ≤ RIDETHROUGH) && tcycle == s.cycle && !s.mby.frozen && tmode != s.mode then
    let old := s.mode
    let s := s.followTake tmode true
    let s := if engineMode old && s.kneRunning then (s.latencyChange (latencyOf old) (latencyOf s.mode)).kneChange false else s
    let s := s.cycleRetime
    let s := if s.kne.startDue then s.kneStart.riseAuto 0 else s
    (if s.kneRunning then s.kneBoundaryWords s.tim.cycleLen else s).setDeadline
  else s

/-- A LEAD that hears another LEAD with a higher term, or an equal one as head B, becomes FOLLOW (R264). -/
def rankHeard (s : State) (h : FrameHead) : State :=
  if s.isLead ∧ h.role = 1 ∧ (termAhead h.term s.ownTerm ∨ (h.term = s.ownTerm ∧ s.headNo = 1)) then s.depose else s

/-- A STATUS. -/
def statusTake (s : State) (h : FrameHead) (b : List Byte) : State :=
  let old := match s.ptn.status with | some p => p.flags | none => 0
  let p : PtnStatus := { mode := leAt b 0 1, flags := leAt b 1 1, tmode := leAt b 2 1, reason := leAt b 3 1, tcycle := leAt b 4 4,
                         role := h.role, term := h.term }
  let s := s.setPtn fun q => { q with status := some p, lead := some (p.mode, p.tmode, p.tcycle) }
  let s := (s.pneedShow (slice b 8 18)).setFlag Reg.PTN_STAT 23 (bitAt p.flags 1)
  let s := ((s.putN Reg.PTN_PBDIG (leAt b 26 4)).judgeSplit).rankHeard h
  let s := if bitAt p.flags 5 then s.stopHeard (p.reason % 16) else s
  let s := s.yieldHeard p.flags h.role
  let s := if bitAt p.flags 2 && !bitAt old 2 then s.gvRequest else s
  let s := (s.verdictHeard p.flags old).followLate p.tmode p.tcycle
  s.resetHeard p.flags old

/-! ## STATE segments (R246) -/

/-- A segment belongs to the copy that this FOLLOW waits for, or to the next one, whose correction here is still to end. -/
def segmentFits (s : State) (cyc : Nat) : Bool :=
  if cyc = s.ptn.imageCycle ∧ !s.ptn.image.isEmpty then !s.ptn.copyDone
  else (cyc == s.cycle || (cyc + 1) % 2 ^ 32 == s.cycle) && (s.ptn.image.isEmpty || cycleFrom s.ptn.imageCycle cyc)

/-- A segment: the first valid one counts. Segment 0 tells of the LEAD's mode, its accepted transition and its bank (R51, R251, R253). -/
def segmentTake (s : State) (h : FrameHead) (b : List Byte) : State :=
  if !s.isFollow || !s.segmentFits h.cycle || s.ptn.segs.any (fun x => x.1 == h.cycle && x.2.1 == h.chain) then s
  else
    let kept := fun (x : Nat × Nat × List Byte) => x.1 == h.cycle || x.1 == s.ptn.imageCycle
    let s := s.setPtn fun p => { p with segs := (h.cycle, h.chain, b) :: p.segs.filter kept }
    let s := if h.chain = 0 then
        (s.setPtn fun p => { p with lead := some (leAt b 0 1, leAt b 1 1, leAt b 4 4) }).followLate (leAt b 1 1) (leAt b 4 4)
      else s
    if h.cycle = s.ptn.imageCycle ∧ !s.ptn.image.isEmpty then s.copyTake else s

/-! ## Samples (R251) -/

/-- The deadline of the next cycle, in ns after its boundary. -/
def nextDeadlineNs (s : State) : Nat := 2 * s.deadlineOf (s.modeAt s.tim.cycleNext)

/-- The instant of the samples has come, 1,600 ns before a deadline: of the running cycle, or, after its deadline, of the next one, whose DL may
lie below 1,600 ns (R137). -/
def samplesDue (s : State) : Bool :=
  if s.mby.frozen then decide (s.nextDeadlineNs < 1600) && s.reached (8 * s.tim.cycleLen + s.nextDeadlineNs - 1600)
  else s.reached (s.deadlineNs - 1600)

/-- A SAMPLE frame of cycle cyc holds the samples of the deadline that comes next. -/
def sampleFits (s : State) (cyc : Nat) : Bool :=
  if s.mby.frozen then cyc == s.cycle && decide (s.nextDeadlineNs < 1600)
  else cyc == s.cycle || ((cyc + 1) % 2 ^ 32 == s.cycle && decide (s.deadlineNs < 1600))

/-! ## The other frames -/

/-- A relayed record (R250). -/
def relayTake (s : State) (h : FrameHead) (b : List Byte) (ns : Nat) : State :=
  if !s.recordFits h.chain h b || s.recordHeld (leAt b 0 1) then s.inc (Reg.LNK_CNT_DISC h.chain)
  else
    let r : TlmRec := { cell := leAt b 0 1, cycle := s.cycle, late := s.mby.frozen || decide (s.deadlineNs < ns), ns := ns, relayed := true,
                        bytes := b }
    let s := s.acceptRec r
    if r.late then s else (s.incFld Reg.PTN_CNT_RELAY 31 16).evt 0x04D

/-- The LEAD sends data of its active bank (KIND 1) or of its slow-state image (KIND 2) to a joiner (R243, R265). -/
def bulkSend (s : State) (lane kind off len : Nat) : State :=
  let data := if kind = 1 then s.bytesAt (bankBase s.activeBank + off) len else slice s.slowImage off len
  s.sendPartner lane (s.partnerFrame 0x15 0xFF s.cycle (leBytes 1 kind ++ [0, 0, 0] ++ leBytes 4 off ++ data))

end State
end Sys2Proof.Machine
end

