-- ==== Sys2Proof/Machine/CmdPartner.lean ====
section
/-!
DEFINITION. Meanings of the commands of chapter 8: frames of the partner, copies, samples, bulk transfers, the golden-vector check and the
pair's controls.
-/
namespace Sys2Proof.Machine

/-- A STATE segment (R246, R255, R256, R260). -/
def execStateSegmentReceive (lane : Nat) (groups : List Nat) (s : State) : Host.Outcome State Fault Refusal :=
  let fits := fun (c n : Nat) => decide (c < 4) && decide (n ≤ 512)
  event (fun s => s.partnerHears lane groups.length) (fun s => s.withPartner lane 0x10 groups fits State.segmentTake) s

/-- The copy's window ends without a complete copy (R246, R262). -/
def execCopyMissed (s : State) : Host.Outcome State Fault Refusal :=
  event (fun s => s.awake && s.isFollow && !s.ptn.copyDone && !s.ptn.image.isEmpty && s.copyOver) (fun s => s.copyMissed) s

/-- A STATUS (R247, R252-R254, R257, R259, R264, R265). -/
def execStatusReceive (lane : Nat) (groups : List Nat) (s : State) : Host.Outcome State Fault Refusal :=
  let fits := fun (c n : Nat) => c == 0xFF && n == 32
  event (fun s => s.partnerHears lane groups.length) (fun s => s.withPartner lane 0x11 groups fits State.statusTake) s

/-- A RELAY, whose K29.7 reaches the line input ns after the boundary (R250). -/
def execRelayReceive (lane : Nat) (groups : List Nat) (ns : Nat) (s : State) : Host.Outcome State Fault Refusal :=
  let fits := fun (c n : Nat) => decide (c < 12) && n == 48
  event (fun s => s.partnerHears lane groups.length) (fun s => s.withPartner lane 0x12 groups fits (fun s h b => s.relayTake h b ns)) s

/-- 1,600 ns before the deadline the owner sends its samples (R251). -/
def execSampleSend (s : State) : Host.Outcome State Fault Refusal :=
  event (fun s => s.paired && s.awake && s.samplesDue) (fun s => s.sampleSend) s

/-- A SAMPLE frame, before the deadline that its samples are for (R251). -/
def execSampleReceive (lane : Nat) (groups : List Nat) (s : State) : Host.Outcome State Fault Refusal :=
  let fits := fun (c n : Nat) => c == 0xFF && n == 128
  event (fun s => s.partnerHears lane groups.length) (fun s => s.withPartner lane 0x13 groups fits (fun s h b => if s.sampleFits h.cycle then s.sampleTake b else s)) s

/-- A HELLO (R241, R262, R264, R265). -/
def execHelloReceive (lane : Nat) (groups : List Nat) (s : State) : Host.Outcome State Fault Refusal :=
  let fits := fun (c n : Nat) => c == 0xFF && n == 32
  event (fun s => s.partnerHears lane groups.length) (fun s => s.withPartner lane 0x14 groups fits State.hello) s

/-- The LEAD sends a BULK frame in free lane time (R244, R265). -/
def execBulkSend (lane kind off len : Nat) (s : State) : Host.Outcome State Fault Refusal :=
  event (fun s => s.awake && s.paired && s.isLead && decide (lane < 2) && decide (0 < len) && decide (len ≤ 1024)
      && ((kind == 1 && decide (off + len ≤ 0x200000)) || (kind == 2 && decide (off + len ≤ 1744))))
    (fun s => s.bulkSend lane kind off len) s

/-- A BULK frame (R265). -/
def execBulkReceive (lane : Nat) (groups : List Nat) (s : State) : Host.Outcome State Fault Refusal :=
  let fits := fun (c n : Nat) => c == 0xFF && decide (8 ≤ n) && decide (n ≤ 1032)
  event (fun s => s.partnerHears lane groups.length) (fun s => s.withPartner lane 0x15 groups fits (fun s _ b => s.bulk b)) s

/-- This module's golden-vector check ends: its Kneader part takes 300 ns from the correction's end, its modulator part 300 ns from the end of
the regular run (R257, R258). -/
def execGvCheckDone (pass : Bool) (s : State) : Host.Outcome State Fault Refusal :=
  event (fun s => s.awake && s.paired && s.gvRuns && s.mod.run.isNone && s.elapsed s.ptn.gvTick 300 && s.elapsed s.mod.endTick 300)
    (fun s => s.gvDone pass) s

/-- 1.5 µs after the correction's end the frames held are released without both verdicts (R257). -/
def execGvReleaseTimeout (s : State) : Host.Outcome State Fault Refusal :=
  event (fun s => s.awake && s.paired && s.ptn.gvHeld && s.elapsed s.ptn.gvTick 1500) (fun s => s.gvRelease.gvOver) s

/-- A committed YIELD (R259, R266). -/
def execPtnCtrlYield (s : State) : Host.Outcome State Fault Refusal :=
  event (fun s => s.awake && s.isLead && s.partnerInStep) (fun s => s.yieldNow true) s

/-- A committed PRESET (R265, R266). -/
def execPtnCtrlPreset (s : State) : Host.Outcome State Fault Refusal :=
  event (fun s => s.awake && s.isLead) (fun s => s.partnerReset) s

/-- CLR of PTN_CNT_CLR (R266). -/
def execPtnCntClr (src : Src) (s : State) : Host.Outcome State Fault Refusal :=
  event (fun s => s.live) (fun s => s.write src Reg.PTN_CNT_CLR 4 1) s

end Sys2Proof.Machine
end

