-- ==== Sys2Proof/Machine/CmdRecorder.lean ====
section
/-!
DEFINITION. Meanings of the commands of chapter 14: arming, triggers, segments and counters of the disturbance recorder. In STANDBY the
recorder and its registers have no clock (R66). pos is a place in the tick in units of 250 ps.
-/
namespace Sys2Proof.Machine

/-- ARM of REC_CTRL (R392). -/
def execRecArm (src : Src) (s : State) : Host.Outcome State Fault Refusal :=
  event (fun s => s.live) (fun s => s.write src Reg.REC_CTRL 4 1) s

/-- STOP of REC_CTRL (R392, R397). -/
def execRecStop (src : Src) (s : State) : Host.Outcome State Fault Refusal :=
  event (fun s => s.live) (fun s => s.write src Reg.REC_CTRL 4 2) s

/-- TRIG of REC_CTRL (R394). -/
def execRecTrig (src : Src) (s : State) : Host.Outcome State Fault Refusal :=
  event (fun s => s.live) (fun s => s.write src Reg.REC_CTRL 4 4) s

/-- An edge on TRIG_IN (R394). -/
def execTrigInEdge (rising : Bool) (pos : Nat) (s : State) : Host.Outcome State Fault Refusal :=
  event (fun _ => decide (pos < 32)) (fun s => s.trigInEdge rising pos) s

/-- Another driver of XTRIG pulls it low or lets it go (R394, R396). -/
def execXtrigEdge (fall : Bool) (pos : Nat) (s : State) : Host.Outcome State Fault Refusal :=
  event (fun _ => decide (pos < 32)) (fun s => s.xtrigEdge fall pos) s

/-- XT_W µs after it drove XTRIG low the module releases it (R396). -/
def execXtrigRelease (s : State) : Host.Outcome State Fault Refusal := event (fun s => s.awake && s.xtDue) (fun s => s.xtRelease) s

/-- A write of REC_SEG_REL (R392, R397). -/
def execRecSegRel (src : Src) (mask : Word) (s : State) : Host.Outcome State Fault Refusal :=
  event (fun s => s.live) (fun s => s.write src Reg.REC_SEG_REL 4 mask) s

/-- CLR of REC_CNT_CLR (R402). -/
def execRecCntClr (src : Src) (s : State) : Host.Outcome State Fault Refusal :=
  event (fun s => s.live) (fun s => s.write src Reg.REC_CNT_CLR 4 1) s

end Sys2Proof.Machine
end

