-- ==== Sys2Proof/Machine/CmdTime.lean ====
section
/-!
DEFINITION. Meanings of the commands of chapter 16: the time base, its servo, transmit stamps and the comparators.
-/
namespace Sys2Proof.Machine

/-- SET of TIM_CTRL (R429). -/
def execTimSet (src : Src) (s : State) : Host.Outcome State Fault Refusal :=
  event (fun s => s.live) (fun s => s.write src Reg.TIM_CTRL 4 1) s

/-- STEP of TIM_CTRL (R429). -/
def execTimStep (src : Src) (s : State) : Host.Outcome State Fault Refusal :=
  event (fun s => s.live) (fun s => s.write src Reg.TIM_CTRL 4 2) s

/-- A reader (0 the HPI, 1-4 C0-C3) reads TIM_NOW_NS (R428). -/
def execTimeRead (reader : Fin 5) (s : State) : Host.Outcome State Fault Refusal :=
  event (fun s => s.live) (fun s => s.timeRead reader.val) s

/-- A write of TIM_SRV_OFFSET (R436). -/
def execPtpSample (src : Src) (v : Word) (s : State) : Host.Outcome State Fault Refusal :=
  event (fun s => s.live) (fun s => s.write src Reg.TIM_SRV_OFFSET 4 v) s

/-- No sample has been used for HOLD ms (R438). -/
def execServoHoldover (s : State) : Host.Outcome State Fault Refusal := event (fun s => s.live && s.servoDue) (fun s => s.servoHoldover) s

/-- Comparator k matches and drives its consumers, the wake among them (R442, R67). -/
def execTimeComparatorMatch (k : Fin 8) (s : State) : Host.Outcome State Fault Refusal :=
  event (fun s => s.live && s.cmpDue k.val) (fun s => (s.cmpMatch k.val).wakeBy 3) s

/-- ARM of TIM_CMPk_CTRL (R443). -/
def execTimCmpArm (src : Src) (k : Fin 8) (s : State) : Host.Outcome State Fault Refusal :=
  event (fun s => s.live) (fun s => s.write src (Reg.TIM_CMP_CTRL k.val) 4 1) s

/-- DISARM of TIM_CMPk_CTRL (R443). -/
def execTimCmpDisarm (src : Src) (k : Fin 8) (s : State) : Host.Outcome State Fault Refusal :=
  event (fun s => s.live) (fun s => s.write src (Reg.TIM_CMP_CTRL k.val) 4 2) s

/-- POP of TIM_TXQp_POP (R441). -/
def execTimTxqPop (src : Src) (p : Fin 2) (s : State) : Host.Outcome State Fault Refusal :=
  event (fun s => s.live) (fun s => s.write src (Reg.TIM_TXQ_POP p.val) 4 1) s

/-- CLR of TIM_CNT_CLR (R445). -/
def execTimCntClr (src : Src) (s : State) : Host.Outcome State Fault Refusal :=
  event (fun s => s.live) (fun s => s.write src Reg.TIM_CNT_CLR 4 1) s

end Sys2Proof.Machine
end

