-- ==== Sys2Proof/Machine/Dispatch.lean ====
section
/-! DEFINITION. The dispatch: one arm per command. -/
namespace Sys2Proof.Machine

/-- The effect of a command on everything but the queue. -/
def exec (i : Instr) (s : State) : Host.Outcome State Fault Refusal :=
  match i with
  | .registerWrite src addr width v => Sys2Proof.Machine.execRegisterWrite src addr width v s
  | .truCmtGo k => Sys2Proof.Machine.execTruCmtGo k s
  | .truStgClr k => Sys2Proof.Machine.execTruStgClr k s
  | .uzopexReassemblyTimeout k => Sys2Proof.Machine.execUzopexReassemblyTimeout k s
  | .commit => Sys2Proof.Machine.execCommit s
  | .verifyPending => Sys2Proof.Machine.execVerifyPending s
  | .promote => Sys2Proof.Machine.execPromote s
  | .promoteCopyStep => Sys2Proof.Machine.execPromoteCopyStep s
  | .clearPending => Sys2Proof.Machine.execClearPending s
  | .bankCommit => Sys2Proof.Machine.execBankCommit s
  | .bankDigestDone => Sys2Proof.Machine.execBankDigestDone s
  | .grant => Sys2Proof.Machine.execGrant s
  | .revoke => Sys2Proof.Machine.execRevoke s
  | .sessionExpiry slot => Sys2Proof.Machine.execSessionExpiry slot s
  | .debugUnlock => Sys2Proof.Machine.execDebugUnlock s
  | .debugExpiry => Sys2Proof.Machine.execDebugExpiry s
  | .truDbgLock => Sys2Proof.Machine.execTruDbgLock s
  | .provision => Sys2Proof.Machine.execProvision s
  | .logAttGo => Sys2Proof.Machine.execLogAttGo s
  | .attestationDone => Sys2Proof.Machine.execAttestationDone s
  | .mramNoResult => Sys2Proof.Machine.execMramNoResult s
  | .modeRequest target => Sys2Proof.Machine.execModeRequest target s
  | .resetRequest key => Sys2Proof.Machine.execResetRequest key s
  | .rideThroughLimit => Sys2Proof.Machine.execRideThroughLimit s
  | .buildUpLimit => Sys2Proof.Machine.execBuildUpLimit s
  | .gridRecovered => Sys2Proof.Machine.execGridRecovered s
  | .powerOnReset => Sys2Proof.Machine.execPowerOnReset s
  | .supplyMonitorReset rail => Sys2Proof.Machine.execSupplyMonitorReset rail s
  | .railReturn => Sys2Proof.Machine.execRailReturn s
  | .nresetLow => Sys2Proof.Machine.execNresetLow s
  | .nresetDebounced => Sys2Proof.Machine.execNresetDebounced s
  | .nresetGlitch => Sys2Proof.Machine.execNresetGlitch s
  | .nresetRelease => Sys2Proof.Machine.execNresetRelease s
  | .watchdogKick n key => Sys2Proof.Machine.execWatchdogKick n key s
  | .watchdogTimeout n => Sys2Proof.Machine.execWatchdogTimeout n s
  | .bootStart headB mramT => Sys2Proof.Machine.execBootStart headB mramT s
  | .bootEnd => Sys2Proof.Machine.execBootEnd s
  | .retentionSaveDone => Sys2Proof.Machine.execRetentionSaveDone s
  | .wakeEvent source => Sys2Proof.Machine.execWakeEvent source s
  | .wakeComplete => Sys2Proof.Machine.execWakeComplete s
  | .cycleBoundary => Sys2Proof.Machine.execCycleBoundary s
  | .telemetryDeadline => Sys2Proof.Machine.execTelemetryDeadline s
  | .laneCdrLocked n => Sys2Proof.Machine.execLaneCdrLocked n s
  | .laneAligned n bits => Sys2Proof.Machine.execLaneAligned n bits s
  | .lossOfSync n bits => Sys2Proof.Machine.execLossOfSync n bits s
  | .lossOfSignal n sig => Sys2Proof.Machine.execLossOfSignal n sig s
  | .elasticBufferOverflow n inFrame slip => Sys2Proof.Machine.execElasticBufferOverflow n inFrame slip s
  | .prbsLock n bits => Sys2Proof.Machine.execPrbsLock n bits s
  | .prbsLockLoss n bits => Sys2Proof.Machine.execPrbsLockLoss n bits s
  | .lnkSnap n => Sys2Proof.Machine.execLnkSnap n s
  | .lnkClrPrbs n => Sys2Proof.Machine.execLnkClrPrbs n s
  | .lnkClrCode n => Sys2Proof.Machine.execLnkClrCode n s
  | .lnkSnapAll => Sys2Proof.Machine.execLnkSnapAll s
  | .lnkInj src n => Sys2Proof.Machine.execLnkInj src n s
  | .auxSourceChange k => Sys2Proof.Machine.execAuxSourceChange k s
  | .peerBeaconReceive n groups stamp => Sys2Proof.Machine.execPeerBeaconReceive n groups stamp s
  | .telemetryRecordReceive n groups ns => Sys2Proof.Machine.execTelemetryRecordReceive n groups ns s
  | .lnkMbyClr n => Sys2Proof.Machine.execLnkMbyClr n s
  | .lnkTlmSnap n pos => Sys2Proof.Machine.execLnkTlmSnap n pos s
  | .correctionEnd => Sys2Proof.Machine.execCorrectionEnd s
  | .predictionEnd => Sys2Proof.Machine.execPredictionEnd s
  | .modulatorDone => Sys2Proof.Machine.execModulatorDone s
  | .modCntClr => Sys2Proof.Machine.execModCntClr s
  | .stateSegmentReceive lane groups => Sys2Proof.Machine.execStateSegmentReceive lane groups s
  | .copyMissed => Sys2Proof.Machine.execCopyMissed s
  | .statusReceive lane groups => Sys2Proof.Machine.execStatusReceive lane groups s
  | .relayReceive lane groups ns => Sys2Proof.Machine.execRelayReceive lane groups ns s
  | .sampleSend => Sys2Proof.Machine.execSampleSend s
  | .sampleReceive lane groups => Sys2Proof.Machine.execSampleReceive lane groups s
  | .helloReceive lane groups => Sys2Proof.Machine.execHelloReceive lane groups s
  | .bulkSend lane kind off len => Sys2Proof.Machine.execBulkSend lane kind off len s
  | .bulkReceive lane groups => Sys2Proof.Machine.execBulkReceive lane groups s
  | .gvCheckDone pass => Sys2Proof.Machine.execGvCheckDone pass s
  | .ptnCtrlYield => Sys2Proof.Machine.execPtnCtrlYield s
  | .ptnCtrlPreset => Sys2Proof.Machine.execPtnCtrlPreset s
  | .ptnCntClr src => Sys2Proof.Machine.execPtnCntClr src s
  | .pwmPeriodBoundary g => Sys2Proof.Machine.execPwmPeriodBoundary g s
  | .pwmStart src g => Sys2Proof.Machine.execPwmStart src g s
  | .pwmStop src g => Sys2Proof.Machine.execPwmStop src g s
  | .pwmArm src g => Sys2Proof.Machine.execPwmArm src g s
  | .synEdge n pos => Sys2Proof.Machine.execSynEdge n pos s
  | .synLost => Sys2Proof.Machine.execSynLost s
  | .maskSwEvent src g => Sys2Proof.Machine.execMaskSwEvent src g s
  | .commInEdge rising => Sys2Proof.Machine.execCommInEdge rising s
  | .pwmClockStop => Sys2Proof.Machine.execPwmClockStop s
  | .pwmCntClr src => Sys2Proof.Machine.execPwmCntClr src s
  | .deadTimeElapsed h hi => Sys2Proof.Machine.execDeadTimeElapsed h hi s
  | .gateEdgeMeasured h hi on t => Sys2Proof.Machine.execGateEdgeMeasured h hi on t s
  | .desatTrip h hi ns => Sys2Proof.Machine.execDesatTrip h hi ns s
  | .gcmTrip h hi => Sys2Proof.Machine.execGcmTrip h hi s
  | .govTrip h hi => Sys2Proof.Machine.execGovTrip h hi s
  | .uvloTrip h hi => Sys2Proof.Machine.execUvloTrip h hi s
  | .segLinkLoss h => Sys2Proof.Machine.execSegLinkLoss h s
  | .gatePowerLimit pw => Sys2Proof.Machine.execGatePowerLimit pw s
  | .softTurnOffEnd h hi above => Sys2Proof.Machine.execSoftTurnOffEnd h hi above s
  | .gdrDirsw src h v => Sys2Proof.Machine.execGdrDirsw src h v s
  | .gdrClr mask => Sys2Proof.Machine.execGdrClr mask s
  | .gdrCntClr src => Sys2Proof.Machine.execGdrCntClr src s
  | .gdrSnap src => Sys2Proof.Machine.execGdrSnap src s
  | .adcOutput c odd code overload off => Sys2Proof.Machine.execAdcOutput c odd code overload off s
  | .adcResync src mask => Sys2Proof.Machine.execAdcResync src mask s
  | .adcSegmentLoss c => Sys2Proof.Machine.execAdcSegmentLoss c s
  | .adcSegmentReturn c => Sys2Proof.Machine.execAdcSegmentReturn c s
  | .adcChSnap src c => Sys2Proof.Machine.execAdcChSnap src c s
  | .adcSnapAll src => Sys2Proof.Machine.execAdcSnapAll src s
  | .adcCntClr src => Sys2Proof.Machine.execAdcCntClr src s
  | .meterSnap src => Sys2Proof.Machine.execMeterSnap src s
  | .meterClear src => Sys2Proof.Machine.execMeterClear src s
  | .hkEntryDone xs ys => Sys2Proof.Machine.execHkEntryDone xs ys s
  | .hkpUrg src kind index => Sys2Proof.Machine.execHkpUrg src kind index s
  | .hkUrgentDone xs ys => Sys2Proof.Machine.execHkUrgentDone xs ys s
  | .fltQPop src => Sys2Proof.Machine.execFltQPop src s
  | .fltClr v => Sys2Proof.Machine.execFltClr v s
  | .fltSw src v => Sys2Proof.Machine.execFltSw src v s
  | .fltSrcSel src code => Sys2Proof.Machine.execFltSrcSel src code s
  | .fltCntClr src => Sys2Proof.Machine.execFltCntClr src s
  | .dieShutdown => Sys2Proof.Machine.execDieShutdown s
  | .siDemand terms => Sys2Proof.Machine.execSiDemand terms s
  | .pCycle terms lows vhsA vlsA vhsB vlsB iload vsup genRb diag => Sys2Proof.Machine.execPCycle terms lows vhsA vlsA vhsB vlsB iload vsup genRb diag s
  | .heartbeatLoss => Sys2Proof.Machine.execHeartbeatLoss s
  | .testReqTimeout => Sys2Proof.Machine.execTestReqTimeout s
  | .discLatch n => Sys2Proof.Machine.execDiscLatch n s
  | .safeDataTimeout => Sys2Proof.Machine.execSafeDataTimeout s
  | .secondCopyTimeout => Sys2Proof.Machine.execSecondCopyTimeout s
  | .spsAdopt => Sys2Proof.Machine.execSpsAdopt s
  | .preEnergiseStep x vhs vls genRb => Sys2Proof.Machine.execPreEnergiseStep x vhs vls genRb s
  | .darkTestInstant => Sys2Proof.Machine.execDarkTestInstant s
  | .darkPulse vhs vls => Sys2Proof.Machine.execDarkPulse vhs vls s
  | .islandStartup => Sys2Proof.Machine.execIslandStartup s
  | .safe24Loss => Sys2Proof.Machine.execSafe24Loss s
  | .islandSummaryLine => Sys2Proof.Machine.execIslandSummaryLine s
  | .mirrorFrame => Sys2Proof.Machine.execMirrorFrame s
  | .mirrorTimeout => Sys2Proof.Machine.execMirrorTimeout s
  | .recArm src => Sys2Proof.Machine.execRecArm src s
  | .recStop src => Sys2Proof.Machine.execRecStop src s
  | .recTrig src => Sys2Proof.Machine.execRecTrig src s
  | .trigInEdge rising pos => Sys2Proof.Machine.execTrigInEdge rising pos s
  | .xtrigEdge fall pos => Sys2Proof.Machine.execXtrigEdge fall pos s
  | .xtrigRelease => Sys2Proof.Machine.execXtrigRelease s
  | .recSegRel src mask => Sys2Proof.Machine.execRecSegRel src mask s
  | .recCntClr src => Sys2Proof.Machine.execRecCntClr src s
  | .refclkLoss => Sys2Proof.Machine.execRefclkLoss s
  | .refclkGood => Sys2Proof.Machine.execRefclkGood s
  | .sysPllRelock ok => Sys2Proof.Machine.execSysPllRelock ok s
  | .sysPllUnlock derived => Sys2Proof.Machine.execSysPllUnlock derived s
  | .synLockLoss => Sys2Proof.Machine.execSynLockLoss s
  | .synReacquire => Sys2Proof.Machine.execSynReacquire s
  | .syncPinEdge rising pos => Sys2Proof.Machine.execSyncPinEdge rising pos s
  | .clkSyncSw src => Sys2Proof.Machine.execClkSyncSw src s
  | .clkSyncArm src => Sys2Proof.Machine.execClkSyncArm src s
  | .clkOutEn src v => Sys2Proof.Machine.execClkOutEn src v s
  | .riseStart src p => Sys2Proof.Machine.execRiseStart src p s
  | .riseStop src p => Sys2Proof.Machine.execRiseStop src p s
  | .riseSegmentEnd p => Sys2Proof.Machine.execRiseSegmentEnd p s
  | .clkCntClr src => Sys2Proof.Machine.execClkCntClr src s
  | .timSet src => Sys2Proof.Machine.execTimSet src s
  | .timStep src => Sys2Proof.Machine.execTimStep src s
  | .timeRead reader => Sys2Proof.Machine.execTimeRead reader s
  | .ptpSample src v => Sys2Proof.Machine.execPtpSample src v s
  | .servoHoldover => Sys2Proof.Machine.execServoHoldover s
  | .timeComparatorMatch k => Sys2Proof.Machine.execTimeComparatorMatch k s
  | .timCmpArm src k => Sys2Proof.Machine.execTimCmpArm src k s
  | .timCmpDisarm src k => Sys2Proof.Machine.execTimCmpDisarm src k s
  | .timTxqPop src p => Sys2Proof.Machine.execTimTxqPop src p s
  | .timCntClr src => Sys2Proof.Machine.execTimCntClr src s
  | .ethFrameReceive p frame fcsOk bad pos => Sys2Proof.Machine.execEthFrameReceive p frame fcsOk bad pos s
  | .ethFrameSent p pos => Sys2Proof.Machine.execEthFrameSent p pos s
  | .ethLinkUp p lp => Sys2Proof.Machine.execEthLinkUp p lp s
  | .ethLinkDown p => Sys2Proof.Machine.execEthLinkDown p s
  | .txStart src p => Sys2Proof.Machine.execTxStart src p s
  | .txStop src p => Sys2Proof.Machine.execTxStop src p s
  | .rxStart src p => Sys2Proof.Machine.execRxStart src p s
  | .rxStop src p => Sys2Proof.Machine.execRxStop src p s
  | .ethCntClr src p => Sys2Proof.Machine.execEthCntClr src p s
  | .canFrameReceived c ide id fdf brs esi rtr dlc data sof => Sys2Proof.Machine.execCanFrameReceived c ide id fdf brs esi rtr dlc data sof s
  | .canFrameSent c => Sys2Proof.Machine.execCanFrameSent c s
  | .canError c kind data dt dr => Sys2Proof.Machine.execCanError c kind data dt dr s
  | .canRecover src c => Sys2Proof.Machine.execCanRecover src c s
  | .canRecoveryDone c => Sys2Proof.Machine.execCanRecoveryDone c s
  | .canStart src c => Sys2Proof.Machine.execCanStart src c s
  | .canStop src c => Sys2Proof.Machine.execCanStop src c s
  | .canTxreq src c k mask => Sys2Proof.Machine.execCanTxreq src c k mask s
  | .canTxcan src c k mask => Sys2Proof.Machine.execCanTxcan src c k mask s
  | .canBufferLock c b => Sys2Proof.Machine.execCanBufferLock c b s
  | .canBufferRelease c b => Sys2Proof.Machine.execCanBufferRelease c b s
  | .ttColumnStart c => Sys2Proof.Machine.execTtColumnStart c s
  | .canCntClr src c => Sys2Proof.Machine.execCanCntClr src c s
  | .icuEntry n pc mstatus mtvec priv => Sys2Proof.Machine.execIcuEntry n pc mstatus mtvec priv s
  | .icuReturn n => Sys2Proof.Machine.execIcuReturn n s
  | .icuSwi src mask => Sys2Proof.Machine.execIcuSwi src mask s
  | .icuClr src => Sys2Proof.Machine.execIcuClr src s
  | .coreWfi n deep pc mstatus => Sys2Proof.Machine.execCoreWfi n deep pc mstatus s
  | .coreWake n => Sys2Proof.Machine.execCoreWake n s
  | .lockstepMismatch n => Sys2Proof.Machine.execLockstepMismatch n s
  | .debugHalt n cause pc => Sys2Proof.Machine.execDebugHalt n cause pc s
  | .debugResume n => Sys2Proof.Machine.execDebugResume n s
  | .evcSnap src mask => Sys2Proof.Machine.execEvcSnap src mask s
  | .evcClr src mask => Sys2Proof.Machine.execEvcClr src mask s
  | .sysMramClr src => Sys2Proof.Machine.execSysMramClr src s
  | .sysTextClr src => Sys2Proof.Machine.execSysTextClr src s
  | .laneCodeError n group => Sys2Proof.Machine.execLaneCodeError n group s
  | .verifyPendingDone => Sys2Proof.Machine.execVerifyPendingDone s
  | .bootMramWindowEntry mramT => Sys2Proof.Machine.execBootMramWindowEntry mramT s
  | .gvReleaseTimeout => Sys2Proof.Machine.execGvReleaseTimeout s
  | .pwmCompareEdge h u => Sys2Proof.Machine.execPwmCompareEdge h u s
  | .j3InputChange h pulse en => Sys2Proof.Machine.execJ3InputChange h pulse en s
  | .interlockRelease h hi => Sys2Proof.Machine.execInterlockRelease h hi s
  | .segLinkReturn h => Sys2Proof.Machine.execSegLinkReturn h s
  | .gateRailReturn h hi => Sys2Proof.Machine.execGateRailReturn h hi s
  | .pwmClockReturn => Sys2Proof.Machine.execPwmClockReturn s
  | .eccReadError addr double core => Sys2Proof.Machine.execEccReadError addr double core s
  | .canTxStart c pos => Sys2Proof.Machine.execCanTxStart c pos s
  | .dmiAccess scan addr v => Sys2Proof.Machine.execDmiAccess scan addr v s

end Sys2Proof.Machine
end

