-- ==== Sys2Proof/Machine/Tick.lean ====
section
/-!
DEFINITION. One event tick of 8 ns (R29): what happens at its end whatever is commanded, and the start of the next one. The step does this
on an empty queue (log entry 1).
-/
namespace Sys2Proof.Machine
namespace State

/-- FLT_GF_STAT shows the milliseconds spent in RIDE-THROUGH, 0 in every other mode (R358). -/
def gridTime (s : State) : State :=
  let n := if s.mode = RIDETHROUGH then min ((s.tickNo - s.sys.rtEntry) / 125000) 65535 else 0
  if s.fld Reg.FLT_GF_STAT 31 16 = n then s else s.setFld Reg.FLT_GF_STAT 31 16 n

/-- One second off every session and off the debug access (R87, R100). -/
def secondOff (s : State) : State :=
  let f := fun (x : SessSlot) => { x with held := x.held.map fun h => { h with left := h.left - 1 } }
  let s := ({ s with tru := { s.tru with sessions := s.tru.sessions.map f } } : State).sessShow
  if s.flag Reg.TRU_STAT 30 then s.setFld Reg.TRU_DBG_STAT 31 16 (s.fld Reg.TRU_DBG_STAT 31 16 - 1) else s

/-- The free-running seconds counter (R87). -/
def secondTick (s : State) : State :=
  let n := s.tru.secTicks + 1
  if n = 125000000 then ({ s with tru := { s.tru with secTicks := 0 } } : State).secondOff
  else { s with tru := { s.tru with secTicks := n } }

/-- What the blocks do at the end of a tick: the next frame of each port, bits checked, edges and refresh pulses, the servo's samples, the
mode's times. -/
def endTick (s : State) : State :=
  let s := if s.awake then s.lanesTick.pwmTick.gdrTick.kneTick else s
  let s := if s.live then (s.gridTime.hkTick).servoTick.txDrop.sourceShow else s
  let s := if s.live then [0, 1].foldl canIdle s else s
  [0, 1].foldl (fun s p => if s.ethOn p then s.ethPick p else s) s

/-- The counters of the tick: event counters, interrupt entries and exits, clocks, the time base, the seconds (R87, R425, R484, R493). -/
def countTick (s : State) : State :=
  let s := if s.awake then [0, 1, 2, 3].foldl icuTick s.evcTick else s
  let s := if s.live then s.clkTick.secondTick else s
  if s.sys.phase = .inReset then s else s.timTick

/-- The next tick begins: what R12, R13, R32, R34, R350 and R493 take from its start. -/
def openTick (s : State) : State :=
  let s := s.unmark
  { s with
    tickNo := s.tickNo + 1
    sys := { s.sys with tickIdx := 0, setNow := [], wrote := [], tickMode := s.mode, tickRegs := s.regs, tickBank := s.tru.bank.isSome,
                        tickRun := s.pwm.groups.map fun g => g.run, tickSec := s.tim.sec, tickNs := s.tim.ns }
    cores := { s.cores with evts := [], fired := [], evcWas := [], held := s.cores.held.filter fun h => decide (s.tickNo + 1 < h.2) }
    flt := { s.flt with headAtTick := s.flt.queue.head?.map fun r => leAt r.bytes 0 4 } }

/-- The recorder closes the tick: every fault of the tick has made its record, and with it its trigger (R394). -/
def closeTick (s : State) : State :=
  let t := finish s s.endTick
  if t.awake then t.recTick else t

/-- One tick passes. -/
def tick (s : State) : State := (s.closeTick.countTick.openTick).closeEvent

end State
end Sys2Proof.Machine
end

