-- ==== Sys2Proof/WellFormed.lean ====
section
/-!
DEFINITION. Well-formed commands: the operands lie in the ranges that the rows' rules give them (lane 0-15, partner lane 0 or 1, chain
0-11, port, rail, slot, buffer, field widths, a place of 250 ps in the tick). A meaning takes any operand; one out of range names nothing.
-/
namespace Sys2Proof

/-- Code-groups have ten bits. -/
def groupsOk (l : List Nat) : Bool := l.all fun g => decide (g < 1024)

/-- A housekeeping entry has five outputs (R329). -/
def outputsOk (l : List Nat) : Bool := l.length == 5 && l.all fun n => decide (n < 2 ^ 32)

/-- The operands of a command are in range. -/
def Instr.wf : Instr → Bool
  | .registerWrite _ addr width _ => decide (addr < 2 ^ 32) && (width == 1 || width == 2 || width == 4)
  | .truCmtGo k => decide (k < 5)
  | .truStgClr k => decide (k < 5)
  | .uzopexReassemblyTimeout k => decide (k < 4)
  | .commit => true
  | .verifyPending => true
  | .promote => true
  | .promoteCopyStep => true
  | .clearPending => true
  | .bankCommit => true
  | .bankDigestDone => true
  | .grant => true
  | .revoke => true
  | .sessionExpiry slot => decide (slot < 4)
  | .debugUnlock => true
  | .debugExpiry => true
  | .truDbgLock => true
  | .provision => true
  | .logAttGo => true
  | .attestationDone => true
  | .mramNoResult => true
  | .modeRequest target => decide (target < 8)
  | .resetRequest key => decide (key < 65536)
  | .rideThroughLimit => true
  | .buildUpLimit => true
  | .gridRecovered => true
  | .powerOnReset => true
  | .supplyMonitorReset rail => decide (rail < 7)
  | .railReturn => true
  | .nresetLow => true
  | .nresetDebounced => true
  | .nresetGlitch => true
  | .nresetRelease => true
  | .watchdogKick n key => decide (n < 4) && decide (key < 2 ^ 32)
  | .watchdogTimeout n => decide (n < 4)
  | .bootStart _ _ => true
  | .bootEnd => true
  | .retentionSaveDone => true
  | .wakeEvent source => decide (2 ≤ source) && decide (source ≤ 5)
  | .wakeComplete => true
  | .cycleBoundary => true
  | .telemetryDeadline => true
  | .laneCdrLocked n => decide (n < 16)
  | .laneAligned n _ => decide (n < 16)
  | .lossOfSync n _ => decide (n < 16)
  | .lossOfSignal n sig => decide (n < 16) && decide (sig < 4)
  | .elasticBufferOverflow n _ _ => decide (n < 16)
  | .prbsLock n _ => decide (n < 16)
  | .prbsLockLoss n _ => decide (n < 16)
  | .lnkSnap n => decide (n < 16)
  | .lnkClrPrbs n => decide (n < 16)
  | .lnkClrCode n => decide (n < 16)
  | .lnkSnapAll => true
  | .lnkInj _ n => decide (n < 16)
  | .auxSourceChange k => decide (k < 2)
  | .peerBeaconReceive n groups stamp => decide (n < 12) && groupsOk groups && decide (stamp < 2 ^ 16)
  | .telemetryRecordReceive n groups _ => decide (n < 12) && groupsOk groups
  | .lnkMbyClr n => decide (n < 12)
  | .lnkTlmSnap n pos => decide (n < 12) && decide (pos < 16)
  | .correctionEnd => true
  | .predictionEnd => true
  | .modulatorDone => true
  | .modCntClr => true
  | .stateSegmentReceive lane groups => decide (lane < 2) && groupsOk groups
  | .copyMissed => true
  | .statusReceive lane groups => decide (lane < 2) && groupsOk groups
  | .relayReceive lane groups _ => decide (lane < 2) && groupsOk groups
  | .sampleSend => true
  | .sampleReceive lane groups => decide (lane < 2) && groupsOk groups
  | .helloReceive lane groups => decide (lane < 2) && groupsOk groups
  | .bulkSend lane kind _ _ => decide (lane < 2) && (kind == 1 || kind == 2)
  | .bulkReceive lane groups => decide (lane < 2) && groupsOk groups
  | .gvCheckDone _ => true
  | .ptnCtrlYield => true
  | .ptnCtrlPreset => true
  | .ptnCntClr _ => true
  | .pwmPeriodBoundary g => decide (g < 2)
  | .pwmStart _ _ => true
  | .pwmStop _ _ => true
  | .pwmArm _ _ => true
  | .synEdge n pos => decide (n < 8) && decide (pos < 32)
  | .synLost => true
  | .maskSwEvent _ _ => true
  | .commInEdge _ => true
  | .pwmClockStop => true
  | .pwmCntClr _ => true
  | .deadTimeElapsed _ _ => true
  | .gateEdgeMeasured _ _ _ _ => true
  | .desatTrip _ _ _ => true
  | .gcmTrip _ _ => true
  | .govTrip _ _ => true
  | .uvloTrip _ _ => true
  | .segLinkLoss _ => true
  | .gatePowerLimit pw => pw.length == 6
  | .softTurnOffEnd _ _ _ => true
  | .gdrDirsw _ _ _ => true
  | .gdrClr mask => decide (mask < 2 ^ 32)
  | .gdrCntClr _ => true
  | .gdrSnap _ => true
  | .adcOutput _ _ _ _ off => decide (off < 8)
  | .adcResync _ _ => true
  | .adcSegmentLoss _ => true
  | .adcSegmentReturn _ => true
  | .adcChSnap _ _ => true
  | .adcSnapAll _ => true
  | .adcCntClr _ => true
  | .meterSnap _ => true
  | .meterClear _ => true
  | .hkEntryDone xs ys => outputsOk xs && outputsOk ys
  | .hkpUrg _ kind index => decide (kind < 16) && decide (index < 16)
  | .hkUrgentDone xs ys => outputsOk xs && outputsOk ys
  | .fltQPop _ => true
  | .fltClr v => decide (v < 2 ^ 32)
  | .fltSw _ _ => true
  | .fltSrcSel _ _ => true
  | .fltCntClr _ => true
  | .dieShutdown => true
  | .siDemand terms => decide (terms < 256)
  | .pCycle terms _ _ _ _ _ _ _ _ _ => decide (terms < 256)
  | .heartbeatLoss => true
  | .testReqTimeout => true
  | .discLatch n => decide (n < 4)
  | .safeDataTimeout => true
  | .secondCopyTimeout => true
  | .spsAdopt => true
  | .preEnergiseStep x _ _ _ => decide (x < 3)
  | .darkTestInstant => true
  | .darkPulse _ _ => true
  | .islandStartup => true
  | .safe24Loss => true
  | .islandSummaryLine => true
  | .mirrorFrame => true
  | .mirrorTimeout => true
  | .recArm _ => true
  | .recStop _ => true
  | .recTrig _ => true
  | .trigInEdge _ pos => decide (pos < 32)
  | .xtrigEdge _ pos => decide (pos < 32)
  | .xtrigRelease => true
  | .recSegRel _ _ => true
  | .recCntClr _ => true
  | .refclkLoss => true
  | .refclkGood => true
  | .sysPllRelock _ => true
  | .sysPllUnlock _ => true
  | .synLockLoss => true
  | .synReacquire => true
  | .syncPinEdge _ pos => decide (pos < 32)
  | .clkSyncSw _ => true
  | .clkSyncArm _ => true
  | .clkOutEn _ _ => true
  | .riseStart _ _ => true
  | .riseStop _ _ => true
  | .riseSegmentEnd _ => true
  | .clkCntClr _ => true
  | .timSet _ => true
  | .timStep _ => true
  | .timeRead _ => true
  | .ptpSample _ _ => true
  | .servoHoldover => true
  | .timeComparatorMatch _ => true
  | .timCmpArm _ _ => true
  | .timCmpDisarm _ _ => true
  | .timTxqPop _ _ => true
  | .timCntClr _ => true
  | .ethFrameReceive _ _ _ _ _ => true
  | .ethFrameSent _ _ => true
  | .ethLinkUp _ lp => lp.all fun x => decide (x < 65536)
  | .ethLinkDown _ => true
  | .txStart _ _ => true
  | .txStop _ _ => true
  | .rxStart _ _ => true
  | .rxStop _ _ => true
  | .ethCntClr _ _ => true
  | .canFrameReceived _ _ id _ _ _ _ dlc _ _ => decide (id < 2 ^ 29) && decide (dlc < 16)
  | .canFrameSent _ => true
  | .canError _ kind _ _ _ => decide (kind ≤ 6)
  | .canRecover _ _ => true
  | .canRecoveryDone _ => true
  | .canStart _ _ => true
  | .canStop _ _ => true
  | .canTxreq _ _ _ _ => true
  | .canTxcan _ _ _ _ => true
  | .canBufferLock _ b => decide (b < 64)
  | .canBufferRelease _ b => decide (b < 64)
  | .ttColumnStart _ => true
  | .canCntClr _ _ => true
  | .icuEntry _ _ _ _ priv => priv == 0 || priv == 3
  | .icuReturn _ => true
  | .icuSwi _ _ => true
  | .icuClr _ => true
  | .coreWfi _ _ _ _ => true
  | .coreWake _ => true
  | .lockstepMismatch _ => true
  | .debugHalt _ cause _ => decide (1 ≤ cause) && decide (cause ≤ 4)
  | .debugResume _ => true
  | .evcSnap _ _ => true
  | .evcClr _ _ => true
  | .sysMramClr _ => true
  | .sysTextClr _ => true
  | .laneCodeError n group => decide (n < 16) && decide (group < 1024)
  | .verifyPendingDone => true
  | .bootMramWindowEntry _ => true
  | .gvReleaseTimeout => true
  | .pwmCompareEdge _ u => decide (u < 2 ^ 32)
  | .j3InputChange _ _ _ => true
  | .interlockRelease _ _ => true
  | .segLinkReturn _ => true
  | .gateRailReturn _ _ => true
  | .pwmClockReturn => true
  | .eccReadError addr _ _ => decide (addr < 2 ^ 32)
  | .canTxStart _ pos => decide (pos < 32)
  | .dmiAccess _ addr _ => decide (addr < 128)

end Sys2Proof
end

