-- ==== Sys2Proof/Safety.lean ====
section
/-!
DEFINITION. What statements about the module are said in: its invariant, when it runs, what a completed command leaves, and what a
command may change.
-/
namespace Sys2Proof.Machine

/-- Word k of the record at the head of the fault queue, 0 where the queue is empty (R350). -/
def State.headWord (s : State) (k : Nat) : Nat := match s.flt.queue with
  | [] => 0
  | r :: _ => leAt r.bytes (4 * k) 4

/-- No raise outlives its event (R344), the fault queue holds at most 32 records, and its registers show it (R350). -/
def State.FltOk (s : State) : Prop :=
  s.flt.todo = [] ∧ s.flt.queue.length ≤ 32 ∧ s.getN Reg.FLT_Q_STAT = s.flt.queue.length
    ∧ ∀ k < 8, s.getN (Reg.FLT_Q_HEAD k) = s.headWord k

/-- Every command that waits is well-formed. -/
def State.QueueOk (s : State) : Prop := ∀ c ∈ s.pending, c.wf = true

/-- What holds of the module between two events. -/
def State.Inv (s : State) : Prop := s.FltOk ∧ s.QueueOk

/-- The module runs, between two events. -/
def State.Runs (s : State) : Prop := s.live = true ∧ s.FltOk

/-- The module runs and no block's clock is gated: it is not in STANDBY. -/
def State.Awake (s : State) : Prop := s.awake = true ∧ s.FltOk

/-- The sender of a write can write: a core that runs, or in the state of R64 C0; the HPI always (R64, R477, R480, R487, R492). -/
abbrev State.Sends (s : State) (src : Src) : Prop := (match src with | .core n => s.coreWrites n | .hpi => true) = true

/-- The addresses of the registers that show the fault queue. -/
def State.queueReg (a : Nat) : Prop := a = Reg.FLT_Q_STAT ∨ (Reg.FLT_Q_HEAD 0 ≤ a ∧ a < Reg.FLT_Q_HEAD 8)

/-- The registers that an interrupt source which fires may change (R481, R496): ICU_PEND, ICU_LOST, ICU_STAT. -/
def icuRegs : List Nat := Reg.ICU_LOST :: Reg.ICU_STAT :: (List.range 10).map Reg.ICU_PEND

/-- The registers that forming a record of the Crust log changes (R102-R107). -/
def logRegs : List Nat := [Reg.LOG_SEQ, Reg.LOG_OLDEST, Reg.LOG_STAT, Reg.LOG_GAPS] ++ (List.range 8).map Reg.LOG_HEAD

/-- Every register but those listed is in t as it was in s. -/
def State.KeepsRegs (s t : State) (as : List Nat) : Prop := ∀ a, a ∉ as → t.get a = s.get a

/-- Every register but those listed, every active value and every byte of memory is in t as it was in s. -/
def State.Keeps (s t : State) (as : List Nat) : Prop :=
  s.KeepsRegs t as ∧ (∀ a, t.act a = s.act a) ∧ ∀ a, t.byteAt a = s.byteAt a

/-- The same, but for the n bytes of memory from p on. -/
def State.KeepsBut (s t : State) (as : List Nat) (p n : Nat) : Prop :=
  s.KeepsRegs t as ∧ (∀ a, t.act a = s.act a) ∧ ∀ a, a < p ∨ p + n ≤ a → t.byteAt a = s.byteAt a

/-- One record has been formed and stands in its slot of MRAM, with its SEQ, TYPE, CODE, RESULT and REASON (R102, R105). -/
def State.Logged (s t : State) (type code result reason : Nat) : Prop :=
  let seq := s.getN Reg.LOG_SEQ
  let slot := 0x01600000 + seq % 16384 * 64
  t.getN Reg.LOG_SEQ = (seq + 1) % 2 ^ 32 ∧ t.memN slot 4 = seq ∧ t.memN (slot + 4) 2 = type ∧ t.memN (slot + 32) 2 = code
    ∧ t.memN (slot + 34) 1 = result ∧ t.memN (slot + 35) 1 = reason

/-- The command completes: exec answers a next state, and P holds of it. -/
def Completes (c : Instr) (s : State) (P : State → Prop) : Prop := ∃ t, exec c s = .next t ∧ P t

/-- The command acts: exec answers the state that the end of an event makes of u, and P holds of u, the state after the command's own
effect, before the fault manager takes the actions of what the effect raised. -/
def Acts (c : Instr) (s : State) (P : State → Prop) : Prop := ∃ u, exec c s = .next (s.ended u) ∧ P u

/-- SYS_WERR counts one more refused write and shows this one: its source, KIND and address (R69). Nothing else has changed. -/
def State.Refused (s t : State) (src kind addr : Nat) : Prop :=
  t.flag Reg.SYS_WERR 31 = true ∧ t.fld Reg.SYS_WERR 30 28 = src ∧ t.fld Reg.SYS_WERR 27 24 = kind
    ∧ t.fld Reg.SYS_WERR 15 0 = min (s.fld Reg.SYS_WERR 15 0 + 1) 0xFFFF ∧ t.getN Reg.SYS_WERR_ADDR = addr
    ∧ s.Keeps t [Reg.SYS_WERR, Reg.SYS_WERR_ADDR]

/-- Command c has been accepted (R88, R91, R97): it has left the queue, its COUNTER is the module's, and its sender's TRU_CMT_STAT shows DONE
without a reason. -/
def State.Accepted (s t : State) (c : Cmd) : Prop :=
  t.tru.queue = s.tru.queue.drop 1 ∧ t.tru.ctr = c.counter ∧ t.getN Reg.TRU_CTR_LO = c.counter % 2 ^ 32
    ∧ t.getN Reg.TRU_CTR_HI = c.counter / 2 ^ 32
    ∧ (c.src < 5 → t.fld (Reg.TRU_CMT_STAT c.src) 15 8 = 0 ∧ t.fld (Reg.TRU_CMT_STAT c.src) 2 0 = 3 ∧ t.flag (Reg.TRU_CMT_STAT c.src) 16 = true)

/-- The command in front is c, with this opcode; steps 1 to 7 of R90 pass; the modes that ok admits are those of the tick's start and of now
(R32, R90). -/
def State.Ready (s : State) (c : Cmd) (op : Nat) (ok : Nat → Bool) : Prop :=
  s.live = true ∧ s.FltOk ∧ s.headReady = some c ∧ c.opcode = op ∧ s.headReason c = 0 ∧ ok s.sys.tickMode = true ∧ ok s.mode = true

/-- The module is in mode m, which it entered from its mode in s for the reason given, with nothing pending (R52, R69). -/
def State.Entered (s u : State) (m reason : Nat) : Prop :=
  u.mode = m ∧ u.fld Reg.SYS_MODE 6 4 = s.mode ∧ u.fld Reg.SYS_MODE 11 8 = reason

/-- A reset source with this bit of SYS_RESET_CAUSE has put the module in reset (R53-R55): MRAM, the fuses, the stored term and what SYS_RESET_CAUSE
counts are kept, SRAM is lost (its bytes read 0 until they are written: log entry 17), the mode is SAFE, and the commands and sessions are gone. The
log's slots keep their bytes where no record is on its way and no open debug access leaves one (R100, R107). -/
def State.IsReset (s t : State) (bit : Nat) : Prop :=
  t.sys.phase = .inReset ∧ t.getN Reg.SYS_MODE = 1 ∧ t.fuses = s.fuses ∧ t.ptn.storedTerm = s.ptn.termMram ∧ t.ptn.termMram = s.ptn.termMram ∧ t.tru.queue = []
    ∧ (∀ x ∈ t.tru.sessions, x.held = none) ∧ t.flag Reg.SYS_RESET_CAUSE bit = true
    ∧ (∀ a, 0x01000000 ≤ a → a < 0x01800000 → (0x01600000 ≤ a → a < 0x01700000 → s.flag Reg.TRU_STAT 30 = false ∧ ∀ x ∈ s.log.writing, x.done ≤ s.tickNo) →
        t.byteAt a = s.byteAt a) ∧ (∀ a, a < 0x01000000 ∨ 0x01800000 ≤ a → t.byteAt a = 0)
    ∧ (bit = 0 → t.getN Reg.SYS_RESET_CAUSE = 1)
    ∧ (bit ≠ 0 → s.sys.phase ≠ .inReset → t.fld Reg.SYS_RESET_CAUSE 31 24 = min (s.fld Reg.SYS_RESET_CAUSE 31 24 + 1) 0xFF)

/-- The outcome is a next state. -/
def Goes (o : Host.Outcome State Fault Refusal) : Prop := ∃ t, o = .next t

end Sys2Proof.Machine
end

