-- ==== Sys2Proof/Certificates/Slice0/Obligations.lean ====
section
/-!
DEFINITION. The statements for the provers. The name of each says what it states; OBLIGATIONS.json gives its rules.
-/
open Sys2Proof Sys2Proof.Machine

/-! ## The queue of commands, the tick, the invariant -/

/-- A step with command c in front is exec of c with the queue's rest (the block's queue: log entry 26). -/
def Obligations.StepRunsCommand : Prop :=
  ∀ (c : Instr) (s : State), step { s with pending := c :: s.pending } = exec c s

/-- On an empty queue the step is one tick (the model's choice, log entry 1). The
same-tick index starts again at 0 (R34), what the tick before set or wrote is forgotten (R12, R13), and the fault queue's head is noted
(R350). -/
def Obligations.IdleStepTicks : Prop :=
  ∀ s : State, s.pending = [] → ∃ t, step s = .next t ∧ t.pending = [] ∧ t.sys.tickIdx = 0 ∧ t.sys.setNow = [] ∧ t.sys.wrote = []
    ∧ t.cores.evts = [] ∧ t.cores.fired = [] ∧ t.flt.todo = []
    ∧ t.flt.headAtTick = t.flt.queue.head?.map fun r => leAt r.bytes 0 4

/-- How a command ends. No command changes the queue of commands, and a step with a command in front takes that command off it. Where the effect u of a
command on s raised no fault and left the fault queue alone, the end of the command changes no register, no active value and no byte of memory that u had. -/
def Obligations.CommandsEnd : Prop :=
  (∀ (c : Instr) (s t : State), exec c s = .next t → t.pending = s.pending)
    ∧ (∀ (c : Instr) (s t : State), step { s with pending := c :: s.pending } = .next t → t.pending = s.pending)
    ∧ ∀ s u : State, s.FltOk → u.flt = s.flt → (∀ a, State.queueReg a → u.get a = s.get a) →
        u.Keeps (s.ended u) [] ∧ (s.ended u).flt = s.flt ∧ (s.ended u).mode = u.mode

/-- Where each command completes: under conditions on the state and its operands alone, exec answers the state that the end of an event makes of the
command's own effect, the queue of commands is as it was, and the event has taken a same-tick index, which a command turned away does not (R34, log entry 182).
What the effects are is what the other statements say. -/
def Obligations.EveryCommandCompletes : Prop :=
  ∀ s : State,
    let takes := fun (c : Instr) (u : State) =>
      exec c s = .next (s.ended u) ∧ (s.ended u).pending = s.pending ∧ (s.ended u).sys.tickIdx ≠ s.sys.tickIdx
    (∀ src : Src, s.live = true → (∀ (addr width : Nat) (v : Word), takes (.registerWrite src addr width v) (s.write src addr width v))
        ∧ takes (.ptnCntClr src) (s.write src Reg.PTN_CNT_CLR 4 1) ∧ takes (.pwmCntClr src) (s.write src Reg.PWM_CNT_CLR 4 1)
        ∧ takes (.gdrCntClr src) (s.write src Reg.GDR_CNT_CLR 4 1) ∧ takes (.gdrSnap src) (s.write src Reg.GDR_SNAP 4 1)
        ∧ takes (.adcSnapAll src) (s.write src Reg.ADC_SNAP_ALL 4 1) ∧ takes (.adcCntClr src) (s.write src Reg.ADC_CNT_CLR 4 1)
        ∧ takes (.meterSnap src) (s.write src Reg.ADC_MTR_CTRL 4 1) ∧ takes (.meterClear src) (s.write src Reg.ADC_MTR_CTRL 4 2)
        ∧ takes (.fltQPop src) (s.write src Reg.FLT_Q_POP 4 1) ∧ takes (.fltCntClr src) (s.write src Reg.FLT_CNT_CLR 4 1)
        ∧ takes (.recArm src) (s.write src Reg.REC_CTRL 4 1) ∧ takes (.recStop src) (s.write src Reg.REC_CTRL 4 2)
        ∧ takes (.recTrig src) (s.write src Reg.REC_CTRL 4 4) ∧ takes (.recCntClr src) (s.write src Reg.REC_CNT_CLR 4 1)
        ∧ takes (.clkSyncSw src) (s.write src Reg.CLK_SYNC_SW 4 1) ∧ takes (.clkSyncArm src) (s.write src Reg.CLK_SYNC_SW 4 2)
        ∧ takes (.clkCntClr src) (s.write src Reg.CLK_CNT_CLR 4 1) ∧ takes (.timSet src) (s.write src Reg.TIM_CTRL 4 1)
        ∧ takes (.timStep src) (s.write src Reg.TIM_CTRL 4 2) ∧ takes (.timCntClr src) (s.write src Reg.TIM_CNT_CLR 4 1)
        ∧ takes (.icuClr src) (s.write src Reg.ICU_CTRL 4 1) ∧ takes (.sysMramClr src) (s.write src Reg.SYS_MRAM_CLR 4 1)
        ∧ takes (.sysTextClr src) (s.write src Reg.SYS_TEXT_CLR 4 1)
        ∧ (∀ (g : Fin 2), takes (.pwmStart src g) (s.write src (Reg.PWM_G_CTRL g) 4 1) ∧
          takes (.pwmStop src g) (s.write src (Reg.PWM_G_CTRL g) 4 2) ∧ takes (.pwmArm src g) (s.write src (Reg.PWM_G_CTRL g) 4 4) ∧
          takes (.maskSwEvent src g) (s.write src (Reg.PWM_G_MSK_SW g) 4 1))
        ∧ (∀ (h : Fin 6) (v : Word), takes (.gdrDirsw src h v) (s.write src (Reg.GDR_HB_DIRSW h) 4 v))
        ∧ (∀ (mask : Word), takes (.adcResync src mask) (s.write src Reg.ADC_RESYNC 4 mask) ∧
          takes (.recSegRel src mask) (s.write src Reg.REC_SEG_REL 4 mask) ∧
          takes (.icuSwi src mask) (s.write src Reg.ICU_CTRL 4 (BitVec.ofNat 32 (mask.toNat % 256 * 256))) ∧
          takes (.evcSnap src mask) (s.write src Reg.EVC_SNAP 4 mask) ∧ takes (.evcClr src mask) (s.write src Reg.EVC_CLR 4 mask))
        ∧ (∀ (c : Fin 16), takes (.adcChSnap src c) (s.write src (Reg.ADC_CH_SNAP c) 4 1))
        ∧ (∀ (kind index : Nat), takes (.hkpUrg src kind index) (s.write src Reg.HKP_URG 4 (BitVec.ofNat 32 (kind % 16 * 16 + index % 16))))
        ∧ (∀ (v : Word), takes (.fltSw src v) (s.write src Reg.FLT_SW 4 v) ∧ takes (.clkOutEn src v) (s.write src Reg.CLK_OUT_EN 4 v) ∧
          takes (.ptpSample src v) (s.write src Reg.TIM_SRV_OFFSET 4 v))
        ∧ (∀ (code : Word), takes (.fltSrcSel src code) (s.write src Reg.FLT_SRC_SEL 4 code))
        ∧ (∀ (p : Fin 4), takes (.riseStart src p) (s.write src Reg.CLK_RISE_CTRL 4 (BitVec.ofNat 32 (2 ^ p.val))) ∧
          takes (.riseStop src p) (s.write src Reg.CLK_RISE_CTRL 4 (BitVec.ofNat 32 (2 ^ (4 + p.val)))))
        ∧ (∀ (k : Fin 8), takes (.timCmpArm src k) (s.write src (Reg.TIM_CMP_CTRL k) 4 1) ∧
          takes (.timCmpDisarm src k) (s.write src (Reg.TIM_CMP_CTRL k) 4 2))
        ∧ (∀ (p : Fin 2), takes (.timTxqPop src p) (s.write src (Reg.TIM_TXQ_POP p) 4 1) ∧
          takes (.txStart src p) (s.write src (Reg.ETH_RING_CTRL p) 4 1) ∧ takes (.txStop src p) (s.write src (Reg.ETH_RING_CTRL p) 4 2) ∧
          takes (.rxStart src p) (s.write src (Reg.ETH_RING_CTRL p) 4 4) ∧ takes (.rxStop src p) (s.write src (Reg.ETH_RING_CTRL p) 4 8) ∧
          takes (.ethCntClr src p) (s.write src (Reg.ETH_CNT_CLR p) 4 1))
        ∧ (∀ (c : Fin 2), takes (.canRecover src c) (s.write src (Reg.CAN_CTRL c) 4 4) ∧
          takes (.canStart src c) (s.write src (Reg.CAN_CTRL c) 4 1) ∧ takes (.canStop src c) (s.write src (Reg.CAN_CTRL c) 4 2) ∧
          takes (.canCntClr src c) (s.write src (Reg.CAN_CNT_CLR c) 4 1))
        ∧ (∀ (c : Fin 2) (k : Fin 2) (mask : Word), takes (.canTxreq src c k mask) (s.write src (Reg.CAN_TXREQ c k) 4 mask) ∧
          takes (.canTxcan src c k mask) (s.write src (Reg.CAN_TXCAN c k) 4 mask)))
      ∧ (s.live = true → takes .truDbgLock s.closeDebug ∧ takes .logAttGo s.attGo ∧ takes .islandSummaryLine s.sampleLines
        ∧ takes .synLockLoss s.synHoldEnter
        ∧ (∀ (rising : Bool), takes (.commInEdge rising) (if s.awake then s.commEdge rising else { s with cores := { s.cores with comm := rising } }))
        ∧ (∀ (reader : Fin 5), takes (.timeRead reader) (s.timeRead reader))
        ∧ (∀ (addr : Nat) (double : Bool) (core : Option Nat),
          takes (.eccReadError addr double core) (if double then (s.eccDouble (State.eccAddr addr core)).readFail core addr else s.eccSingle (State.eccAddr addr core))))
      ∧ (s.awake = true → takes .lnkSnapAll ((List.range 16).foldl State.lnkSnap s) ∧ takes .modCntClr s.modCntClr
        ∧ (∀ (h : Fin 6) (hi : Bool) (ns : Nat), takes (.desatTrip h hi ns) (s.desatTrip h hi ns))
        ∧ (∀ (h : Fin 6) (hi : Bool), takes (.uvloTrip h hi) (s.uvlo h hi)) ∧ (∀ (pw : List Nat), takes (.gatePowerLimit pw) (s.gatePower pw))
        ∧ (∀ (h : Fin 6) (pulse en : Bool), takes (.j3InputChange h pulse en) (s.j3Input h pulse en)))
      ∧ (s.island.up = true → (∀ (terms lows vhsA vlsA vhsB vlsB iload vsup : Nat) (genRb : Bool) (diag : Nat),
          takes (.pCycle terms lows vhsA vlsA vhsB vlsB iload vsup genRb diag)
            (State.spduLeave s (s.islandAct fun i =>
              i.pCycle { terms, lows, vhsA, vlsA, vhsB, vlsB, iload, vsup, genRb, diag, noTrip := s.noTrip, sdOff := s.sdOff })))
        ∧ takes .safe24Loss (if s.live then s.safe24Loss else s.isl fun i => { lines := i.lines }))
      ∧ (let signed := fun (c : Instr) (op : Nat → Bool) (f : State → Cmd → State) =>
          s.live = true → (s.headWith op).isSome = true → takes c (s.headRun op f)
        signed .commit (fun op => op == 1 || !opcodeKnown op) State.commitRun ∧ signed .verifyPending (fun op => op == 2) State.verifyRun
        ∧ signed .promote (fun op => op == 3) State.promoteRun ∧ signed .clearPending (fun op => op == 4) State.clearRun
        ∧ signed .bankCommit (fun op => op == 5) State.bankRun ∧ signed .grant (fun op => op == 6) State.grantRun
        ∧ signed .revoke (fun op => op == 7) State.revokeRun ∧ signed .debugUnlock (fun op => op == 8) State.debugRun
        ∧ signed .provision (fun op => op == 9) State.provisionRun)
      ∧ (∀ (k : Nat), s.live = true → k < 5 → (s.sys.recipeOk || k == 0) = true → takes (.truCmtGo k) (s.go k))
      ∧ (∀ (k : Nat), s.live = true → k < 5 → takes (.truStgClr k) (s.stageClear k))
      ∧ (∀ k r, s.live = true → s.uz[k]? = some r → s.elapsed r.tick 100000000 = true → takes (.uzopexReassemblyTimeout k) (s.uzTimeout k r))
      ∧ (∀ k, s.live = true → s.tru.promote = some k → s.tru.copying = true → takes .promoteCopyStep (s.promoteStep k))
      ∧ (∀ x c, s.live = true → s.tru.bank = some x → s.tru.queue.head? = some c → x.accepted = false → takes .bankDigestDone (s.bankDone c x))
      ∧ (∀ k h, s.live = true → (s.tru.sessions.getD k {}).held = some h → h.left = 0 → takes (.sessionExpiry k) (s.sessExpire k))
      ∧ (s.live = true → s.flag Reg.TRU_STAT 30 = true → s.fld Reg.TRU_DBG_STAT 31 16 = 0 → takes .debugExpiry s.closeDebug)
      ∧ (∀ a, s.live = true → s.tru.att = some a → takes .attestationDone (s.attDone a))
      ∧ (s.sys.phase ≠ .inReset → s.elapsed s.hk.mramTick 10000000 = true → takes .mramNoResult s.mramSilent)
      ∧ (∀ (target : Nat), s.live = true → target < 8 → s.requestCheck target = 0 → takes (.modeRequest target) (s.modeRequest target 0 0))
      ∧ (∀ (key : Nat), s.awake = true → key = 0x5E7B → takes (.resetRequest key) (s.resetModule 9))
      ∧ (s.live = true → s.mode = State.RIDETHROUGH → s.elapsed s.sys.rtEntry (s.getN (Reg.FLT_THR 10) * 1000000) = true →
          takes .rideThroughLimit (s.enterSafe 7 0 0))
      ∧ (s.live = true → s.mode = State.ENERGIZE → s.flag Reg.SYS_MODE 12 = false →
          s.elapsed s.sys.energizeEntry (s.getN (Reg.FLT_THR 11) * 1000000) = true → takes .buildUpLimit (s.enterSafe 8 0 0))
      ∧ (s.awake = true → s.sys.protInForce = true → s.gridRecovered = true → takes .gridRecovered s.gridRecover)
      ∧ takes .powerOnReset (s.resetModule 0)
      ∧ (∀ (rail : Nat), rail < 7 → takes (.supplyMonitorReset rail) (s.supplyReset rail))
      ∧ (s.sys.supplyBad = true → s.elapsed s.sys.supplyTick 2000000 = true → takes .railReturn s.railReturn)
      ∧ (s.sys.nresetLow = false → takes .nresetLow ({ s with sys := { s.sys with nresetLow := true, nresetFell := s.tickNo } }))
      ∧ (s.sys.nresetLow = true → s.sys.nresetHeld = false → s.elapsed s.sys.nresetFell 10000 = true →
          takes .nresetDebounced { s.resetModule 2 with sys := { (s.resetModule 2).sys with nresetHeld := true } })
      ∧ (s.sys.nresetLow = true → s.sys.nresetHeld = false → s.elapsed s.sys.nresetFell 10000 = false →
          takes .nresetGlitch (({ s with sys := { s.sys with nresetLow := false } } : State).incFld Reg.SYS_RESET_CAUSE 23 20))
      ∧ (s.sys.nresetHeld = true → s.elapsed s.sys.nresetFell 20000 = true → takes .nresetRelease s.nresetRelease)
      ∧ (∀ (n key : Nat), s.live = true → n < 4 → takes (.watchdogKick n key) (s.wdtWrite n key))
      ∧ (∀ (n : Nat), s.live = true → n < 4 → s.wdtOn n = true → (s.sys.wdtPaused.getD n none).isNone = true →
          s.elapsed (s.sys.wdtKick.getD n 0) (s.fld (Reg.SYS_WDT_CFG n) 15 0 * 100000) = true → takes (.watchdogTimeout n) (s.resetModule (4 + n)))
      ∧ (∀ (headB : Bool) (mramT : Int), s.sys.phase = .inReset → s.sys.supplyBad = false → s.sys.nresetHeld = false →
          takes (.bootStart headB mramT) (s.bootStart headB mramT))
      ∧ (s.sys.phase = .boot → s.sys.bootHeld = false → s.clk.refGone = false → takes .bootEnd (s.bootEnd (s.imageCheck activeSlot)))
      ∧ (s.live = true → s.sys.saving = true → takes .retentionSaveDone s.standbyEnter)
      ∧ (∀ (source : Nat), s.live = true → (s.entryOpen || s.mode == State.STANDBY) = true → s.wakeAsserts source = true →
          takes (.wakeEvent source) (s.wake source))
      ∧ (∀ k, s.live = true → s.sys.waking = some k → takes .wakeComplete (s.wakeDone k))
      ∧ (s.sys.phase ≠ .inReset → s.boundaryDue = true → takes .cycleBoundary s.cycleBoundary)
      ∧ (s.awake = true → s.mby.frozen = false → s.reached s.deadlineNs = true → takes .telemetryDeadline s.telemetryDeadline)
      ∧ (∀ (n : Nat), s.awake = true → s.laneState n = 3 → max (s.lane n).since (s.lane n).signalAt + 125 ≤ s.tickNo →
          takes (.laneCdrLocked n) ((s.setSignal n 3).setLaneState n 4))
      ∧ (∀ (n : Nat) (bits : List Bool), s.awake = true → s.laneState n = 4 → takes (.laneAligned n bits) (s.alignBits n bits))
      ∧ (∀ n bits, s.awake = true → s.laneState n = 5 →
          takes (.lossOfSync n bits) (s.hearBits n bits))
      ∧ (∀ n bits, s.awake = true → s.laneState n = 3 → (s.lane n).leftUp = some s.tickNo →
          takes (.lossOfSync n bits) ((s.lnkEvt n 0).incFld (Reg.LNK_LOS_CNT n) 15 0))
      ∧ (∀ (n sig : Nat), s.awake = true → 3 ≤ s.laneState n → sig < 4 → s.fld (Reg.LNK_STAT n) 5 4 ≠ sig →
          let old := s.fld (Reg.LNK_STAT n) 5 4
          let t := s.setSignal n sig
          takes (.lossOfSignal n sig) (if !((bitAt old 0 && !bitAt sig 0) || (bitAt old 1 && !bitAt sig 1)) then t
            else if t.laneState n == 4 || t.laneState n == 5 then (t.lnkEvt n 1).setLaneState n 3 else t.lnkEvt n 1))
      ∧ (∀ (n : Nat) (inFrame : Bool) (slip : Int), s.awake = true → s.laneUp n = true →
          takes (.elasticBufferOverflow n inFrame slip) (s.bufferSlip n inFrame slip))
      ∧ (∀ (n : Nat) (bits : List Bool), s.lineChecks n = true → s.prbsLocked n = false → takes (.prbsLock n bits) (s.prbsBits n bits))
      ∧ (∀ (n : Nat) (bits : List Bool), s.lineChecks n = true → s.prbsLocked n = true → takes (.prbsLockLoss n bits) (s.prbsBits n bits))
      ∧ (∀ (n : Nat), s.awake = true → s.laneAbsent n = false → takes (.lnkSnap n) (s.lnkSnap n))
      ∧ (∀ (n : Nat), s.awake = true → s.laneAbsent n = false → takes (.lnkClrPrbs n) (s.lnkClrPrbs n))
      ∧ (∀ (n : Nat), s.awake = true → s.laneAbsent n = false → takes (.lnkClrCode n) (s.lnkClrCode n))
      ∧ (∀ (src : Src) (n : Nat), s.live = true → n < 16 → takes (.lnkInj src n) (s.write src (Reg.LNK_INJ n) 4 1))
      ∧ (∀ (k : Nat), s.awake = true → k < 2 → takes (.auxSourceChange k) (s.auxFollows k))
      ∧ (∀ (n : Nat) (groups : List Nat) (stamp : Nat), s.chainHears n groups.length = true →
          takes (.peerBeaconReceive n groups stamp) (s.chainFrame n kBeacon groups fun s f e => s.peerBeacon n f e stamp))
      ∧ (∀ (n : Nat) (groups : List Nat) (ns : Nat), s.chainHears n groups.length = true →
          takes (.telemetryRecordReceive n groups ns) (s.chainFrame n kStart groups fun s f e => s.recordReceive n f e ns))
      ∧ (∀ (n : Nat), s.awake = true → n < s.numChains → takes (.lnkMbyClr n) (s.mbyClr n))
      ∧ (∀ (n pos : Nat), s.awake = true → n < s.numChains → takes (.lnkTlmSnap n pos) (s.tlmSnap n pos))
      ∧ (s.awake = true → s.kneRunning = true → (s.knePhase == 1 || s.knePhase == 2) = true → s.listOver = true → takes .correctionEnd s.correctionEnd)
      ∧ (s.awake = true → s.kneRunning = true → s.knePhase = 3 → s.listOver = true → takes .predictionEnd s.predictionEnd)
      ∧ (s.awake = true → s.mod.run.isSome = true → takes .modulatorDone s.modDone)
      ∧ (∀ (lane : Nat) (groups : List Nat), let fits := fun (c n : Nat) => decide (c < 4) && decide (n ≤ 512)
        s.partnerHears lane groups.length = true → takes (.stateSegmentReceive lane groups) (s.withPartner lane 0x10 groups fits State.segmentTake))
      ∧ (s.awake = true → s.isFollow = true → s.ptn.copyDone = false → s.ptn.image.isEmpty = false → s.copyOver = true → takes .copyMissed s.copyMissed)
      ∧ (∀ (lane : Nat) (groups : List Nat), let fits := fun (c n : Nat) => c == 0xFF && n == 32
        s.partnerHears lane groups.length = true → takes (.statusReceive lane groups) (s.withPartner lane 0x11 groups fits State.statusTake))
      ∧ (∀ (lane : Nat) (groups : List Nat) (ns : Nat), let fits := fun (c n : Nat) => decide (c < 12) && n == 48
        s.partnerHears lane groups.length = true →
          takes (.relayReceive lane groups ns) (s.withPartner lane 0x12 groups fits (fun s h b => s.relayTake h b ns)))
      ∧ (s.paired = true → s.awake = true → s.samplesDue = true → takes .sampleSend s.sampleSend)
      ∧ (∀ (lane : Nat) (groups : List Nat), let fits := fun (c n : Nat) => c == 0xFF && n == 128
        s.partnerHears lane groups.length = true →
          takes (.sampleReceive lane groups) (s.withPartner lane 0x13 groups fits (fun s h b => if s.sampleFits h.cycle then s.sampleTake b else s)))
      ∧ (∀ (lane : Nat) (groups : List Nat), let fits := fun (c n : Nat) => c == 0xFF && n == 32
        s.partnerHears lane groups.length = true → takes (.helloReceive lane groups) (s.withPartner lane 0x14 groups fits State.hello))
      ∧ (∀ (lane kind off len : Nat), s.awake = true → s.paired = true → s.isLead = true → lane < 2 → 0 < len → len ≤ 1024 →
          ((kind == 1 && decide (off + len ≤ 0x200000)) || (kind == 2 && decide (off + len ≤ 1744))) = true →
          takes (.bulkSend lane kind off len) (s.bulkSend lane kind off len))
      ∧ (∀ (lane : Nat) (groups : List Nat), let fits := fun (c n : Nat) => c == 0xFF && decide (8 ≤ n) && decide (n ≤ 1032)
        s.partnerHears lane groups.length = true → takes (.bulkReceive lane groups) (s.withPartner lane 0x15 groups fits (fun s _ b => s.bulk b)))
      ∧ (∀ (pass : Bool), s.awake = true → s.paired = true → s.gvRuns = true → s.mod.run.isNone = true → s.elapsed s.ptn.gvTick 300 = true →
          s.elapsed s.mod.endTick 300 = true → takes (.gvCheckDone pass) (s.gvDone pass))
      ∧ (s.awake = true → s.isLead = true → s.partnerInStep = true → takes .ptnCtrlYield (s.yieldNow true))
      ∧ (s.awake = true → s.isLead = true → takes .ptnCtrlPreset s.partnerReset)
      ∧ (∀ (g : Nat), s.awake = true → g < 2 → s.periodEnds g = true → takes (.pwmPeriodBoundary g) (s.pwmBoundary g (s.periodDue g)))
      ∧ (∀ (n pos : Nat), s.awake = true → s.tsrc 1 = 2 → s.fld (Reg.PWM_G_CFG 1) 19 16 = n → pos < 32 → s.outEdge n (32 * s.tickNo + pos) = true →
          takes (.synEdge n pos) (s.synEdge (32 * s.tickNo + pos)))
      ∧ (∀ y, s.awake = true → s.tsrc 1 = 2 → (s.grp 1).run = true → (s.grp 1).synEdge = some y → s.fld (Reg.PWM_G_SYNPER 1) 23 0 ≠ 0 →
          y + 2 * s.fld (Reg.PWM_G_SYNPER 1) 23 0 ≤ 32 * s.tickNo →
          takes .synLost s.synLost)
      ∧ (s.awake = true → s.flag Reg.PWM_STAT 5 = false → takes .pwmClockStop s.pwmClockStop)
      ∧ (∀ (h : Fin 6) (hi : Bool), s.awake = true → s.deadTimeOver h hi = true → takes (.deadTimeElapsed h hi) (s.deadTimeEnd h hi))
      ∧ (∀ (h : Fin 6) (hi on : Bool) (t : Option Nat), s.awake = true → s.edgeOpen h hi on = true → takes (.gateEdgeMeasured h hi on t) (s.gateEdge h hi on t))
      ∧ (∀ (h : Fin 6) (hi : Bool), s.awake = true → s.gcmTrips h hi = true →
          takes (.gcmTrip h hi) (s.gdrTrip h hi (if hi then 2 else 3)))
      ∧ (∀ (h : Fin 6) (hi : Bool), s.awake = true → s.govTrips h hi = true →
          takes (.govTrip h hi) (s.gdrTrip h hi (if hi then 4 else 5)))
      ∧ (∀ (h : Fin 6), s.awake = true → s.segUp h = true → takes (.segLinkLoss h) (s.segLost h))
      ∧ (∀ (h : Fin 6) (hi above : Bool), (s.sw h hi).soft = true → s.passedNs (s.sw h hi).offAt (s.sw h hi).softFor = true →
          takes (.softTurnOffEnd h hi above) (s.softEnd h hi above))
      ∧ (∀ (mask : Nat), s.awake = true → mask % 64 ≠ 0 → takes (.gdrClr mask) (s.gdrClear (mask % 64)))
      ∧ (∀ (c : Fin 16) (odd : Bool) (code : Int) (overload : Bool) (off : Nat), let m := if odd then c.val + 1 else c.val
        s.awake = true → off < 8 → s.pairedOdd c = false → (!odd || (s.pairMode c == 1 && c % 2 == 0)) = true →
          s.outputDue m (8 * s.tickNo + off) = true → takes (.adcOutput c odd code overload off) (s.adcBoundary c m code overload off))
      ∧ (∀ (c : Fin 16), s.awake = true → s.flag Reg.ADC_STAT (16 + c) = true → takes (.adcSegmentLoss c) (s.segLoss c))
      ∧ (∀ (c : Fin 16), s.awake = true → s.flag Reg.ADC_STAT (16 + c) = false → takes (.adcSegmentReturn c) (s.segReturn c))
      ∧ (∀ (xs ys : List Nat), s.live = true → s.hk.running = true → s.urgRun = false → s.hkElapsed = true → takes (.hkEntryDone xs ys) (s.hkEntryDone xs ys))
      ∧ (∀ (xs ys : List Nat), s.live = true → s.urgRun = true → s.hkElapsed = true → takes (.hkUrgentDone xs ys) (s.hkUrgentDone xs ys))
      ∧ (∀ (v : Nat), s.awake = true → s.fltClrBad v = false → takes (.fltClr v) (s.fltClr v))
      ∧ (∀ (terms : Nat), s.island.up = true → terms % 256 ≠ 255 →
          takes (.siDemand terms) (s.islandAct fun i => { i with peelTerms := terms % 256 }.peelDemand true))
      ∧ (s.island.up = true → s.islNow.heartbeatLost = true → takes .heartbeatLoss (s.islandAct fun i => i.beatStop.peelDemand false))
      ∧ (s.island.up = true → s.islNow.testReqLong = true → takes .testReqTimeout (s.islandAct fun i => i.peelDemand false))
      ∧ (∀ (n : Nat), s.island.up = true → n < 4 → s.island.discDue n = true → takes (.discLatch n) (s.islandNoted fun i => i.failLatch (4 + n)))
      ∧ (s.island.up = true → 20 ≤ s.island.fld Reg.SAF_SD_STAT 15 8 → takes .safeDataTimeout (s.islandNoted fun i => i.sdFail))
      ∧ (∀ x, s.island.up = true → s.island.second.getLast? = some x → 20 ≤ s.island.since x.2.2.2.2 →
          takes .secondCopyTimeout (s.islandNoted fun i => i.secondTimeout))
      ∧ (∀ b, s.island.up = true → s.island.wait = some b → s.island.allOff = true →
          takes .spsAdopt (s.islandAct fun i => match i.wait with | some b => i.adopt b | none => i))
      ∧ (∀ (x vhs vls : Nat) (genRb : Bool), s.island.up = true → s.islNow.stepOver x = true →
          takes (.preEnergiseStep x vhs vls genRb) (s.islandNoted fun i => i.checkStep x vhs vls genRb))
      ∧ (s.island.up = true → (s.island.state 0 == 2 || s.island.state 1 == 2) = true → s.island.instant = false → s.island.fld Reg.SAF_TEST 15 0 = 0 →
          takes .darkTestInstant (s.islandAct fun i => i.testInstant))
      ∧ (∀ (vhs vls : Nat), s.island.up = true → s.islNow.pulseOver = true → takes (.darkPulse vhs vls) (s.islandNoted fun i => i.pulseEnd vhs vls))
      ∧ (s.island.up = false → takes .islandStartup (s.islandAct fun i => i.startup))
      ∧ (s.sys.phase ≠ .inReset → s.island.up = true → takes .mirrorFrame s.mirrorFrame)
      ∧ (s.live = true → s.sys.mirrorTick + 625000 ≤ s.tickNo → takes .mirrorTimeout s.mirrorLost)
      ∧ (∀ (rising : Bool) (pos : Nat), pos < 32 → takes (.trigInEdge rising pos) (s.trigInEdge rising pos))
      ∧ (∀ (fall : Bool) (pos : Nat), pos < 32 → takes (.xtrigEdge fall pos) (s.xtrigEdge fall pos))
      ∧ (s.awake = true → s.xtDue = true → takes .xtrigRelease s.xtRelease)
      ∧ (s.live = true → s.flag Reg.CLK_STAT 0 = true → s.elapsed s.clk.lossTick (s.fld Reg.CLK_MON_CFG 7 0 * 1000000) = true → takes .refclkGood s.refGood)
      ∧ (∀ (ok : Bool), s.live = true → s.pllSettles ok = true →
          takes (.sysPllRelock ok) (if ok then s.sysRelock else s.sysUnlock))
      ∧ (∀ (derived : Bool), s.live = true → (!s.clk.sysHold || (derived && !s.clk.relocking)) = true → takes (.sysPllUnlock derived) s.sysUnlock)
      ∧ (s.live = true → s.synHold = true → s.clk.reacq = false → s.flag Reg.CLK_STAT 0 = false → s.clk.sysHold = false → takes .synReacquire s.synReacquire)
      ∧ (∀ (rising : Bool) (pos : Nat), s.live = true → pos < 32 → takes (.syncPinEdge rising pos) (s.syncPin rising pos))
      ∧ (∀ (p : Fin 4), s.live = true → s.riseDue p = true → takes (.riseSegmentEnd p) (s.riseSegEnd p))
      ∧ (s.live = true → s.servoDue = true → takes .servoHoldover s.servoHoldover)
      ∧ (∀ (k : Fin 8), s.live = true → s.cmpDue k = true → takes (.timeComparatorMatch k) ((s.cmpMatch k).wakeBy 3))
      ∧ (∀ (p : Fin 2) (frame : List Byte) (fcsOk : Bool) (bad : Nat) (pos : Nat), s.ethOn p = true → s.linkUp p = true →
          takes (.ethFrameReceive p frame fcsOk bad pos) (s.ethReceive p frame fcsOk bad pos))
      ∧ (∀ (p : Fin 2) pos f, s.ethOn p = true → s.ethLeft p = true → (s.ethSt p).cur = some f → takes (.ethFrameSent p pos) (s.ethSent p f pos))
      ∧ (∀ (p : Fin 2) (lp : Option Nat), s.ethOn p = true → s.linkUp p = false → takes (.ethLinkUp p lp) (s.ethLinkUp p lp))
      ∧ (∀ (p : Fin 2), s.live = true → s.linkUp p = true → takes (.ethLinkDown p) (s.ethLinkDown p))
      ∧ (∀ (c : Fin 2) (ide : Bool) (id : Nat) (fdf : Bool) (brs : Bool) (esi : Bool) (rtr : Bool) (dlc : Nat) (data : List Byte) (sof : Nat), s.canHears c fdf sof = true → takes (.canFrameReceived c ide id fdf brs esi rtr dlc data sof) (s.canReceive c { ide, id, fdf, brs, esi, rtr, dlc, data } sof))
      ∧ (∀ (c : Fin 2), s.canOnBus c = true → s.frameRan c = true → takes (.canFrameSent c) (s.canSent c))
      ∧ (∀ (c : Fin 2) (kind : Nat) (data : Bool) (dt dr : Nat), s.canOnBus c = true → s.canJoined c (32 * (s.tickNo + 1)) = true → kind ≤ 6 → s.isoSteps c kind dt dr = true →
          takes (.canError c kind data dt dr) (s.canError c kind data dt dr))
      ∧ (∀ (c : Fin 2), s.live = true → s.recoverDue c = true → takes (.canRecoveryDone c) (s.canRecovered c))
      ∧ (∀ (c : Fin 2) (b : Nat), s.live = true → b < 64 → takes (.canBufferLock c b) (s.bufLock c b))
      ∧ (∀ (c : Fin 2) (b : Nat), s.live = true → b < 64 → takes (.canBufferRelease c b) (s.bufRelease c b))
      ∧ (∀ (c : Fin 2), s.live = true → s.columnDue c = true → takes (.ttColumnStart c) (s.columnStart c))
      ∧ (∀ (n : Fin 4) pc ms mtvec priv i p, let at0 := s.entryCtx n pc ms priv
        s.awake = true → s.coreFree n = true → priv = 0 ∨ priv = 3 → s.icuDeliver n (bitAt at0.2.1.toNat 3) = some (i, p) →
          takes (.icuEntry n pc ms mtvec priv) (s.icuEnter n i p at0.1 at0.2.1 mtvec at0.2.2))
      ∧ (∀ (n : Fin 4), s.awake = true → s.coreRuns n = true → s.coreFree n = true → takes (.icuReturn n) (s.icuReturn n))
      ∧ (∀ (n : Fin 4) (deep : Bool) (pc mstatus : Word), s.awake = true → s.coreRuns n = true → s.coreFree n = true →
          takes (.coreWfi n deep pc mstatus) (s.coreWfi n deep pc mstatus))
      ∧ (∀ (n : Fin 4), s.awake = true → s.wakeWaits n = true → takes (.coreWake n) (s.coreWake n))
      ∧ (∀ (n : Fin 4), s.awake = true → (s.coreSt n).released = true → (s.coreSt n).stopped = false → takes (.lockstepMismatch n) (s.lockstep n))
      ∧ (∀ (n : Fin 4) (cause : Nat) (pc : Word), s.awake = true → 1 ≤ cause → cause ≤ 4 → s.haltOk n cause = true →
          takes (.debugHalt n cause pc) ((s.setDm fun d => { d with req := putField d.req n n 0 }).debugHalt n cause pc))
      ∧ (∀ (n : Fin 4), s.live = true → (s.coreSt n).halted = true → takes (.debugResume n) (s.debugResume n))
      ∧ (∀ (n group : Nat), s.codesHeard n = true → takes (.laneCodeError n group) ((s.hearGroups n [group]).1))
      ∧ (s.live = true → s.tru.verifying = true → takes .verifyPendingDone s.verifyDone)
      ∧ (∀ (mramT : Int), s.sys.phase = .boot → s.sys.bootHeld = true → takes (.bootMramWindowEntry mramT) (s.bootResume mramT))
      ∧ (s.awake = true → s.paired = true → s.ptn.gvHeld = true → s.elapsed s.ptn.gvTick 1500 = true → takes .gvReleaseTimeout s.gvRelease.gvOver)
      ∧ (∀ (h : Fin 6) (u : Nat), s.awake = true → (s.grp (hbGroup h)).run = true → (s.grp (hbGroup h)).waiting = false → s.hbSrc h = false →
          s.direct h = false → u < s.periodOf (hbGroup h) → (s.grp (hbGroup h)).start + u < 32 * (s.tickNo + 1) →
          takes (.pwmCompareEdge h u) (s.compareEdge h u))
      ∧ (∀ (h : Fin 6) (hi : Bool), s.awake = true → (s.sw h hi).on = false → (s.sw h hi).low = false → s.passedNs (s.sw h hi).offAt 20 = true →
          takes (.interlockRelease h hi) (s.gateLow h hi))
      ∧ (∀ (h : Fin 6), s.live = true → s.segUp h = false → takes (.segLinkReturn h) (s.segBack h))
      ∧ (∀ (h : Fin 6) (hi : Bool), s.live = true → s.flag (Reg.GDR_HB_STAT h) (if hi then 6 else 7) = false → takes (.gateRailReturn h hi) (s.railBack h hi))
      ∧ (s.live = true → s.flag Reg.PWM_STAT 5 = true → takes .pwmClockReturn s.pwmClockBack)
      ∧ (∀ (c : Fin 2) (pos : Nat), s.live = true → s.canMaySend c = true → pos < 32 → takes (.canTxStart c pos) (s.canTxStart c pos))
      ∧ takes .refclkLoss s.refLoss ∧ (s.sys.phase ≠ .inReset → takes .dieShutdown s.dieTrip)
      ∧ (∀ (scan : JtagScan) (addr : Nat) (v : Word), takes (.dmiAccess scan addr v) (s.jtagScan scan addr v))
      ∧ (s.live = false → s.clk.refGone = true → takes .refclkGood s.refGood)
      ∧ (∀ (p : Fin 2), s.live = true → s.linkUp p = false → s.flag (Reg.ETH_STAT p) 1 = true → takes (.ethLinkDown p) (s.ethSyncLost p))

/-- The invariant holds at reset. -/
def Obligations.ResetMeetsInvariant : Prop := State.reset.Inv

/-- Every step keeps the invariant: no raise outlives its event, the fault queue holds at most 32 records and its registers show it,
and the commands that wait are well-formed. -/
def Obligations.StepKeepsInvariant : Prop := ∀ s t : State, s.Inv → step s = .next t → t.Inv

/-! ## Register and memory writes -/

/-- A write that names no register that can be written, or a window that cannot be written, changes nothing and is counted in SYS_WERR:
an address of a block with no register (the absent instances among them) KIND 2, an RO register or the header of an absent lane KIND 7, the
safety island's mirror KIND 5, the active or the locked coefficient bank KIND 3, the recorder window KIND 4, and an HPI write outside the map
KIND 6. A core's access outside the map is stored nowhere: it ends in the core's trap with cause 7 (its values: log entry 167). -/
def Obligations.RefusedWrites : Prop :=
  ∀ (src : Src) (a : Nat) (v : Word) (s : State), s.Runs → s.Sends src → a % 4 = 0 → a < 2 ^ 32 →
    let refused := fun kind => Completes (.registerWrite src a 4 v) s fun t => s.Refused t (srcCode src) kind a
    let reg := a < 0xD8000 ∧ ¬ (0x90000 ≤ a ∧ a < 0x98000) ∧ State.canRamAt a = none
    let absentHead := 0x30000 ≤ a ∧ a < 0x38000 ∧ a % 0x800 = 0 ∧ s.laneAbsent ((a - 0x30000) / 0x800) = true
    (reg → s.regAt a = none → ¬ absentHead → refused 2)
      ∧ (reg → absentHead → refused 7)
      ∧ (∀ d, reg → s.regAt a = some d → d.acc = .ro → refused 7)
      ∧ (0x90000 ≤ a → a < 0x98000 → refused 5)
      ∧ (∀ b < 2, State.bankBase b ≤ a → a < State.bankBase b + 0x200000 → s.activeBank = b ∨ (∃ x, s.tru.bank = some x ∧ x.bank = b) → refused 3)
      ∧ (0x00500000 ≤ a → a < 0x00B00000 → refused 4)
      ∧ (src = .hpi → (0xD8000 ≤ a ∧ a < 0x00100000) ∨ (0x00B00000 ≤ a ∧ a < 0x01000000) ∨ (0x01800000 ≤ a ∧ a < 0x02000000) ∨ 0x02400000 ≤ a
          → refused 6)
      ∧ ∀ n, src = .core n → (0xD8000 ≤ a ∧ a < 0x00100000) ∨ (0x00B00000 ≤ a ∧ a < 0x01000000) ∨ (0x01800000 ≤ a ∧ a < 0x02000000)
          ∨ (0x02400000 ≤ a ∧ a < 0x80000000) ∨ 0x80040000 ≤ a →
        Completes (.registerWrite src a 4 v) s fun t => s.Keeps t [Reg.ICU_TGT_STAT]
          ∧ (s.coreRuns n = true → (t.coreSt n).csr.lookup 0x342 = some 7 ∧ (t.coreSt n).priv = 3)

/-- A write lands in the stage of its source and takes no effect: from the HPI for every writable register that is not free, from a core for
an RWS register. The entry joins the stage's entries, reserved bits cut off; a full stage, of 1,024 entries, sets OVF and keeps its entries. Of ICU_CTRL, whose
CLR is free, an HPI write stages the other bits (the model's choice, log entry 231). -/
def Obligations.StagedWrites : Prop :=
  (∀ (src : Src) (a : Nat) (v : Word) (s : State) (d : RegDesc) (g : Stage), s.Runs → s.Sends src → a % 4 = 0 → a < 0xD8000 → ¬ (0x90000 ≤ a ∧ a < 0x98000) →
    State.canRamAt a = none → s.regAt a = some d → d.acc ≠ .ro → (src = .hpi → a ≠ Reg.ICU_CTRL) →
    (src = .hpi ∧ State.freeWrite d a v.toNat = false) ∨ (src ≠ .hpi ∧ d.acc = .rws) → s.tru.stages[srcCode src]? = some g →
    Completes (.registerWrite src a 4 v) s fun t =>
      s.Keeps t [Reg.TRU_STG_STAT (srcCode src)]
        ∧ (g.entries.length < 1024 →
            t.tru.stages[srcCode src]? = some { g with entries := g.entries ++ [(a, BitVec.ofNat 32 (maskAnd v.toNat d.mask))] }
              ∧ t.fld (Reg.TRU_STG_STAT (srcCode src)) 10 0 = g.entries.length + 1)
        ∧ (1024 ≤ g.entries.length → t.tru.stages[srcCode src]? = some { g with ovf := true } ∧ t.flag (Reg.TRU_STG_STAT (srcCode src)) 16 = true))
    ∧ ∀ (v : Word) (s : State) (g : Stage), s.Runs → v.getLsbD 0 = false → v ≠ 0 → s.tru.stages[0]? = some g → g.entries.length < 1024 →
      Completes (.registerWrite .hpi Reg.ICU_CTRL 4 v) s fun t => s.Keeps t [Reg.TRU_STG_STAT 0]
        ∧ t.tru.stages[0]? = some { g with entries := g.entries ++ [(Reg.ICU_CTRL, BitVec.ofNat 32 (v.toNat / 256 % 256 * 256))] }

/-- The MRAM window takes a write into the stage of its source, as a run of bytes: MRAM itself keeps its bytes. A word that is not the run's
last and does not follow it sets ORDER. -/
def Obligations.StagedMramWrites : Prop :=
  ∀ (src : Src) (a : Nat) (v : Word) (s : State) (g : Stage), s.Runs → s.Sends src → a % 4 = 0 → 0x01000000 ≤ a → a < 0x01800000 →
    s.tru.stages[srcCode src]? = some g →
    Completes (.registerWrite src a 4 v) s fun t =>
      s.Keeps t [Reg.TRU_STG_STAT (srcCode src), Reg.TRU_STG_MLEN (srcCode src)]
        ∧ (g.run = [] → t.tru.stages[srcCode src]? = some { g with runAddr := a, run := leBytes 4 v.toNat })
        ∧ (g.run ≠ [] → a = g.runAddr + g.run.length → g.run.length + 4 ≤ 65536 →
            t.tru.stages[srcCode src]? = some { g with run := g.run ++ leBytes 4 v.toNat })
        ∧ (g.run ≠ [] → a ≠ g.runAddr + g.run.length → a + 4 ≠ g.runAddr + g.run.length →
            t.tru.stages[srcCode src]? = some { g with order := true })

/-- A core's write to a register that holds its value and does nothing beside being stored leaves the written value there with the reserved bits
unchanged, and every other register as it was. Said of the command pointers, the Kneader's read pointer, the clock monitor's times, the
recorder's trigger configuration and the time to be set. A write to an RWB register lands in its shadow, and the active value stays: said of the
comparator of a half-bridge that the Kneader does not own. A core that does not run writes nothing. -/
def Obligations.DirectWrites : Prop :=
  (∀ (n : Fin 4) (a : Nat) (v : Word) (s : State) (d : RegDesc), s.Awake → s.coreWrites n = true →
    a ∈ [Reg.TRU_CMT_PTR 0, Reg.TRU_CMT_PTR 4, Reg.KNE_VRD_ADDR, Reg.CLK_MON_CFG, Reg.REC_TRIGCFG, Reg.TIM_SET_NS] → regDesc? a = some d →
    (d.acc = .rwl → s.locked a (maskAnd v.toNat d.mask) = false) →
    s.writeOk (s.after [(a, maskAnd v.toNat d.mask)]) a (maskAnd v.toNat d.mask) = true →
    Completes (.registerWrite (.core n) a 4 v) s fun t =>
      s.Keeps t [a] ∧ ∀ i < 32, t.flag a i = if bitAt d.mask i then v.getLsbD i else s.flag a i)
    ∧ (∀ (n : Fin 4) (h : Fin 6) (v : Word) (s : State), s.Awake → s.coreWrites n = true → s.kneOwned h = false →
      Completes (.registerWrite (.core n) (Reg.PWM_HB_CMPA h) 4 v) s fun t =>
        s.Keeps t [Reg.PWM_HB_CMPA h] ∧ t.getN (Reg.PWM_HB_CMPA h) % 2 ^ 24 = v.toNat % 2 ^ 24)
    ∧ ∀ (n : Fin 4) (a width : Nat) (v : Word) (s : State), s.Runs → s.coreWrites n = false →
      Completes (.registerWrite (.core n) a width v) s fun t => s.Keeps t [] ∧ t.tru.stages = s.tru.stages

/-- A core's write to an RWL register whose block runs, and one whose value the field table of the register refuses, changes the register
not at all: SYS_WERR shows KIND 1 or 8, and a REFUSED_WRITE record with REASON LOCKED or VALUE is formed. -/
def Obligations.LockedAndBadValues : Prop :=
  ∀ (n : Fin 4) (a : Nat) (v : Word) (s : State) (d : RegDesc), s.Awake → s.coreWrites n = true → a % 4 = 0 → a < 0xD8000 →
    ¬ (0x90000 ≤ a ∧ a < 0x98000) → State.canRamAt a = none → s.regAt a = some d → d.acc ≠ .ro → d.acc ≠ .rws → s.mramBarred = false →
    let v' := maskAnd v.toNat d.mask
    let refused := fun kind reason => Completes (.registerWrite (.core n) a 4 v) s fun t =>
      t.fld Reg.SYS_WERR 27 24 = kind ∧ t.fld Reg.SYS_WERR 30 28 = n.val + 1 ∧ t.getN Reg.SYS_WERR_ADDR = a ∧ s.Logged t 0x0004 0 1 reason
        ∧ s.KeepsRegs t ([Reg.SYS_WERR, Reg.SYS_WERR_ADDR] ++ logRegs)
    (d.acc = .rwl → s.locked a v' = true → refused 1 0x0C)
      ∧ ((d.acc = .rwl → s.locked a v' = false) → d.acc ≠ .rw1c → s.writeOk (s.after [(a, v')]) a v' = false → refused 8 0x0D)

/-- An event sets its bit of an RW1C register and is noted for the tick. A 1 written to a bit of an RW1C register clears it, but for a bit that an event
of the same tick set, which reads 1 afterwards; a 0 leaves it. -/
def Obligations.ClearBits : Prop :=
  (∀ (s : State) (a i : Nat), i < 32 → (s.stick a i).flag a i = true ∧ (s.stick a i).sys.setNow.contains (a, i) = true)
    ∧ ∀ (src : Src) (a : Nat) (v : Word) (s : State) (d : RegDesc), s.Awake → s.Sends src → a % 4 = 0 → a < 0xD8000 →
      ¬ (0x90000 ≤ a ∧ a < 0x98000) → State.canRamAt a = none → s.regAt a = some d → d.acc = .rw1c → (src = .hpi → d.free = true) →
      Completes (.registerWrite src a 4 v) s fun t => s.Keeps t [a, Reg.LNK_EVT_SUM]
        ∧ ∀ i < 32, bitAt d.mask i = true → t.flag a i = (s.flag a i && !(v.getLsbD i && !s.sys.setNow.contains (a, i)))

/-- A write of shared core RAM, or of the inactive coefficient bank while it is not locked, or by a core of its own TCM, stores the bytes
little-endian and changes nothing else, but that a prediction that still runs from the bank is first brought up to date. A byte or half-word of a core changes
only itself. -/
def Obligations.MemoryWrites : Prop :=
  ∀ (src : Src) (a w : Nat) (v : Word) (s : State), s.Runs → s.Sends src → (w = 4 ∨ (src ≠ .hpi ∧ (w = 1 ∨ w = 2))) → a % w = 0 →
    let stores := fun (p : Nat) => Completes (.registerWrite src a w v) s fun t =>
      t.bytesAt p w = leBytes w (v.toNat % 2 ^ (8 * w)) ∧ s.KeepsBut t [] p w
    (0x02000000 ≤ a → a < 0x02400000 → stores a)
      ∧ (∀ b < 2, State.bankBase b ≤ a → a < State.bankBase b + 0x200000 → s.activeBank ≠ b → (∀ x, s.tru.bank = some x → x.bank ≠ b) →
          (s.kneRunning = false ∨ s.kne.bank ≠ b → stores a)
            ∧ (s.kneRunning = true → s.kne.bank = b → Acts (.registerWrite src a w v) s fun u =>
                u.bytesAt a w = leBytes w (v.toNat % 2 ^ (8 * w)) ∧ ∀ x, x < a ∨ a + w ≤ x → u.byteAt x = s.byteAt x))
      ∧ ∀ n, src = .core n → 0x80000000 ≤ a → a < 0x80040000 → stores (State.tcmBase n + (a - 0x80000000))

/-- A control row is the write of its register by its sender: what the rules of writes say of that register holds of the row.
That the table's control rows are writes of their registers is the model's reading (log entry 29). -/
def Obligations.ControlRowsAreWrites : Prop :=
  ∀ (src : Src) (v : Word) (s : State),
    let same := fun (c : Instr) (a : Nat) (x : Word) => exec c s = exec (.registerWrite src a 4 x) s
    (∀ n < 16, same (.lnkInj src n) (Reg.LNK_INJ n) 1) ∧ same (.ptnCntClr src) Reg.PTN_CNT_CLR 1
      ∧ (∀ g : Fin 2, same (.pwmStart src g) (Reg.PWM_G_CTRL g) 1 ∧ same (.pwmStop src g) (Reg.PWM_G_CTRL g) 2
          ∧ same (.pwmArm src g) (Reg.PWM_G_CTRL g) 4 ∧ same (.maskSwEvent src g) (Reg.PWM_G_MSK_SW g) 1)
      ∧ same (.pwmCntClr src) Reg.PWM_CNT_CLR 1 ∧ (∀ h : Fin 6, same (.gdrDirsw src h v) (Reg.GDR_HB_DIRSW h) v)
      ∧ same (.gdrCntClr src) Reg.GDR_CNT_CLR 1 ∧ same (.gdrSnap src) Reg.GDR_SNAP 1 ∧ same (.adcResync src v) Reg.ADC_RESYNC v
      ∧ same (.meterSnap src) Reg.ADC_MTR_CTRL 1 ∧ same (.meterClear src) Reg.ADC_MTR_CTRL 2 ∧ same (.fltQPop src) Reg.FLT_Q_POP 1
      ∧ same (.fltSw src v) Reg.FLT_SW v ∧ same (.fltSrcSel src v) Reg.FLT_SRC_SEL v ∧ same (.recArm src) Reg.REC_CTRL 1
      ∧ same (.recStop src) Reg.REC_CTRL 2 ∧ same (.recTrig src) Reg.REC_CTRL 4 ∧ same (.recSegRel src v) Reg.REC_SEG_REL v
      ∧ same (.clkSyncSw src) Reg.CLK_SYNC_SW 1 ∧ same (.clkSyncArm src) Reg.CLK_SYNC_SW 2 ∧ same (.clkOutEn src v) Reg.CLK_OUT_EN v
      ∧ same (.timSet src) Reg.TIM_CTRL 1 ∧ same (.timStep src) Reg.TIM_CTRL 2 ∧ same (.ptpSample src v) Reg.TIM_SRV_OFFSET v
      ∧ (∀ p : Fin 2, same (.txStart src p) (Reg.ETH_RING_CTRL p) 1 ∧ same (.txStop src p) (Reg.ETH_RING_CTRL p) 2
          ∧ same (.rxStart src p) (Reg.ETH_RING_CTRL p) 4 ∧ same (.rxStop src p) (Reg.ETH_RING_CTRL p) 8
          ∧ same (.canStart src p) (Reg.CAN_CTRL p) 1 ∧ same (.canStop src p) (Reg.CAN_CTRL p) 2 ∧ same (.canRecover src p) (Reg.CAN_CTRL p) 4)
      ∧ same (.icuClr src) Reg.ICU_CTRL 1 ∧ same (.evcSnap src v) Reg.EVC_SNAP v ∧ same (.evcClr src v) Reg.EVC_CLR v

/-! ## Command trust -/

/-- GO of a source with no command in the queue and fewer than four waiting: a command with the header at TRU_CMT_PTR joins the queue, a COMMIT
with the stage as its payload, and the stage is emptied. It stands behind the commands of earlier ticks, and among those of its tick in the order of the
sources. CLR empties a stage and changes nothing else. That REASON reads 0 from the arrival on is the model's choice (log entry 210). -/
def Obligations.GoAndStageClear : Prop :=
  ∀ (k : Nat) (s : State), s.Runs → k < 5 →
    Completes (.truStgClr k) s (fun t => t.tru.stages.getD k {} = {} ∧ t.getN (Reg.TRU_STG_STAT k) = 0 ∧ t.getN (Reg.TRU_STG_MLEN k) = 0
        ∧ s.Keeps t [Reg.TRU_STG_STAT k, Reg.TRU_STG_MLEN k])
      ∧ (s.sys.recipeOk = true ∨ k = 0 → (∀ c ∈ s.tru.queue, c.src ≠ k) → s.waiting < 4 →
        Completes (.truCmtGo k) s fun t => t.tru.stages.getD k {} = {} ∧ t.fld (Reg.TRU_CMT_STAT k) 15 8 = 0
          ∧ (∃ c, t.tru.queue = State.insertCmd c s.tru.queue ∧ c.src = k ∧ c.tick = s.tickNo ∧ c.hdr = s.sharedHdr (s.getN (Reg.TRU_CMT_PTR k))
              ∧ (c.opcode = 1 → c.payload = (s.tru.stages.getD k {}).payload)
              ∧ ((∀ d ∈ s.tru.queue, d.tick ≠ s.tickNo) → t.tru.queue = s.tru.queue ++ [c]
                ∧ t.fld (Reg.TRU_CMT_STAT k) 2 0 = (if s.tru.queue = [] ∧ s.tru.verifying = false then 2 else 1)))
          ∧ s.Keeps t ([Reg.TRU_STG_STAT k, Reg.TRU_STG_MLEN k, Reg.TRU_STAT] ++ (List.range 5).map Reg.TRU_CMT_STAT))

/-- A COMMIT that passes every step of R90 takes effect: shown for one that sets the wake sources, with a run of bytes for MRAM. While the run is being written
the command stays in front, and takes effect when its row comes again (the model's choice, log entry 219). -/
def Obligations.CommitTakesEffect : Prop :=
  ∀ (s : State) (c : Cmd) (b : CommitBody) (v : Nat), s.Ready c 1 (State.commitModeOk c b) →
    commitBody? c.payload = some b → b.entries = [(Reg.SYS_STBY_CFG, v)] → s.commitReason c = 0 → b.runAddr = 0x01700000 →
    (s.tru.runOn = true ∨ b.run = [] → Completes .commit s fun t => s.Accepted t c ∧ t.fld Reg.SYS_STBY_CFG 3 0 = v % 16
      ∧ ∀ i < b.run.length, t.byteAt (b.runAddr + i) = b.run.getD i 0)
    ∧ (s.tru.runOn = false → b.run ≠ [] → Completes .commit s fun t => t.tru.runOn = true ∧ t.tru.queue = s.tru.queue ∧ s.Keeps t [])

/-- In LOAD the commands for PENDING: VERIFY_PENDING starts the image checks, PROMOTE with the digest of a verified image starts the copy,
CLEAR_PENDING wipes the slot's first word and takes VERIFIED back. -/
def Obligations.PendingCommands : Prop :=
  ∀ (s : State) (c : Cmd),
    (s.Ready c 2 State.inLoad → c.payload = [] → Completes .verifyPending s fun t => s.Accepted t c ∧ t.tru.verifying = true)
      ∧ (s.Ready c 3 State.inLoad → s.flag Reg.TRU_PND_STAT 9 = false → s.flag Reg.TRU_PND_STAT 8 = true → c.payload.length = 48 →
          s.getBytes (Reg.TRU_PND_DIG 0) 12 = c.payload → s.mramBarred = false →
          Completes .promote s fun t => s.Accepted t c ∧ t.tru.promote = some 0 ∧ t.flag Reg.TRU_PND_STAT 9 = true)
      ∧ (s.Ready c 4 State.inLoad → c.payload = [] → s.mramBarred = false →
          Completes .clearPending s fun t => s.Accepted t c ∧ t.memN pendingSlot 4 = 0 ∧ t.flag Reg.TRU_PND_STAT 8 = false)

/-- The running copy of a promotion: a step copies 64 KiB of PENDING to ACTIVE and nothing else, also when the MRAM window has closed meanwhile, and the next
begins if it has not; the last step resets the module with cause
CMD. The end of the image checks shows their result and sets VERIFIED if it is 0. -/
def Obligations.PromotionAndVerification : Prop :=
  ∀ s : State, s.Runs →
    (∀ k < 47, s.tru.promote = some k → s.tru.copying = true → Completes .promoteCopyStep s fun t =>
        t.tru.promote = some (k + 1) ∧ t.tru.copying = !s.mramBarred ∧ (∀ i < 65536, t.byteAt (activeSlot + k * 65536 + i) = s.byteAt (pendingSlot + k * 65536 + i))
          ∧ s.KeepsBut t [] (activeSlot + k * 65536) 65536)
      ∧ (s.tru.promote = some 47 → s.tru.copying = true → Completes .promoteCopyStep s fun t =>
          t.sys.phase = .inReset ∧ t.tru.promote = none ∧ t.flag Reg.SYS_RESET_CAUSE 9 = true
            ∧ ∀ i < 65536, t.byteAt (activeSlot + 47 * 65536 + i) = s.byteAt (pendingSlot + 47 * 65536 + i))
      ∧ (s.tru.verifying = true → Completes .verifyPendingDone s fun t =>
          t.tru.verifying = false ∧ t.fld Reg.TRU_PND_STAT 3 0 = s.imageCheck pendingSlot
            ∧ t.flag Reg.TRU_PND_STAT 8 = (s.imageCheck pendingSlot == 0)
            ∧ s.Keeps t ([Reg.TRU_PND_STAT, Reg.TRU_STAT] ++ (List.range 5).map Reg.TRU_CMT_STAT ++ (List.range 12).map Reg.TRU_PND_DIG))

/-- BANK_COMMIT with a good header locks the bank while its digest is computed; when digest and bank check pass in a mode of the engine, the
commit is accepted, TRU_BANK_DIG holds the digest and KNE_SWAP the cycle and bank of the swap. -/
def Obligations.BankCommits : Prop :=
  ∀ (s : State) (c : Cmd),
    (s.live = true → s.FltOk → s.headReady = some c → c.opcode = 5 → s.headReason c = 0 → State.engineMode s.sys.tickMode = true → State.engineMode s.mode = true → s.bankContent c.payload = 0 → s.tru.bank = none →
        Completes .bankCommit s fun t => (∃ x, t.tru.bank = some x ∧ x.bank = leAt c.payload 0 1 ∧ x.length = leAt c.payload 4 4
          ∧ x.cycle = leAt c.payload 8 4 ∧ x.digest = slice c.payload 16 48 ∧ x.accepted = false) ∧ t.tru.queue = s.tru.queue ∧ s.Keeps t [])
      ∧ ∀ x, s.Runs → s.tru.bank = some x → x.accepted = false → s.tru.queue.head? = some c →
          sha384 (s.bytesAt (State.bankBase x.bank) x.length) = x.digest → s.bankCheck x.bank x.length (some s.activeBank) = 0 → State.engineMode s.sys.tickMode = true → State.engineMode s.mode = true →
          x.cycle = 0 → s.boundaryDue = false →
          Completes .bankDigestDone s fun t => s.Accepted t c ∧ t.tru.bank = some { x with accepted := true, tick := s.tickNo }
            ∧ t.getN Reg.KNE_SWAP = (s.tim.cycleNext % 65536 * 65536 + 2 * x.bank + 1) % 2 ^ 32 ∧ ∀ j < 12, t.getN (Reg.TRU_BANK_DIG j) = leAt x.digest (4 * j) 4

/-- GRANT puts the session with its permissions and lifetime into a slot; REVOKE of its identifier, or of 0, ends it; when its lifetime has
run out it ends. -/
def Obligations.Sessions : Prop :=
  ∀ (s : State) (c : Cmd),
    (∀ g, s.Ready c 6 (fun m => m != State.STANDBY) → s.signer c = .ok g → s.grantContent c.payload g.mask = 0 →
        Completes .grant s fun t => s.Accepted t c ∧ ∃ n x, s.grantSlot (leAt c.payload 0 4) = some n ∧ (t.tru.sessions.getD n {}).held = some x
          ∧ x.id = leAt c.payload 0 4 ∧ x.keyid = c.keyid ∧ x.left = leAt c.payload 4 4 ∧ x.perm = leAt c.payload 8 4)
      ∧ (s.Ready c 7 (fun _ => true) → c.payload.length = 4 →
        Completes .revoke s fun t => s.Accepted t c ∧ ∀ n < 4, ∀ h, (s.tru.sessions.getD n {}).held = some h →
          (t.tru.sessions.getD n {}).held = if leAt c.payload 0 4 = 0 ∨ h.id = leAt c.payload 0 4 then none else some h)
      ∧ ∀ n < 4, ∀ h, s.Runs → (s.tru.sessions.getD n {}).held = some h → h.left = 0 →
        Completes (.sessionExpiry n) s fun t => t.tru.sessions.getD n {} = { held := none, ended := h.id } ∧ t.getN (Reg.TRU_SESS_ID n) = 0

/-- DEBUG_UNLOCK opens debug access for the cores, the scope and the duration it names; TRU_DBG_LOCK, and the end of the duration, close it:
triggers are cleared and halted cores resume. -/
def Obligations.DebugAccess : Prop :=
  ∀ (s : State) (c : Cmd),
    (s.Ready c 8 State.idleMode → State.debugContent c.payload = 0 → Completes .debugUnlock s fun t =>
        s.Accepted t c ∧ t.flag Reg.TRU_STAT 30 = true ∧ t.fld Reg.TRU_DBG_STAT 31 16 = leAt c.payload 4 4
          ∧ t.fld Reg.TRU_DBG_STAT 15 8 = leAt c.payload 1 1 ∧ t.fld Reg.TRU_DBG_STAT 7 0 = leAt c.payload 0 1)
      ∧ (s.Runs → s.flag Reg.TRU_STAT 30 = true →
          let closed := fun (t : State) => t.flag Reg.TRU_STAT 30 = false ∧ t.getN Reg.TRU_DBG_STAT = 0
            ∧ ∀ n < 4, (t.coreSt n).trig = [] ∧ (t.coreSt n).halted = false
          Completes .truDbgLock s closed ∧ (s.fld Reg.TRU_DBG_STAT 31 16 = 0 → Completes .debugExpiry s closed))

/-- PROVISION of an unprovisioned part in LOAD blows the owner hash; the other fuses keep their values. -/
def Obligations.Provision : Prop :=
  ∀ (s : State) (c : Cmd), s.Ready c 9 State.inLoad → s.fuses.ownerHash = none → c.payload.length = 96 → c.payload = c.key →
    Completes .provision s fun t => s.Accepted t c ∧ t.fuses = { s.fuses with ownerHash := some (sha384 c.payload) } ∧ t.flag Reg.TRU_STAT 31 = true

/-- GO of an attestation captures the nonce, the head and the last SEQ (those of the GO are the model's choice, log entry 180); at its end the signature
registers hold the device key's ECDSA signature over nonce, LOG_HEAD, SEQ and UID, made with a nonce of free values (log entry 3), and LOG_ATT_SEQ the SEQ
that was captured. -/
def Obligations.Attestation : Prop :=
  ∀ s : State, s.Runs →
    (s.fld Reg.LOG_ATT_STAT 1 0 ≠ 1 → Completes .logAttGo s fun t => t.fld Reg.LOG_ATT_STAT 1 0 = 1
        ∧ t.tru.att = some (s.getBytes (Reg.LOG_ATT_NONCE 0) 8, s.getBytes (Reg.LOG_HEAD 0) 8, (s.getN Reg.LOG_SEQ + 2 ^ 32 - 1) % 2 ^ 32)
        ∧ s.Keeps t [Reg.LOG_ATT_STAT])
      ∧ ∀ a, s.tru.att = some a → Completes .attestationDone s fun t => t.fld Reg.LOG_ATT_STAT 1 0 = 2 ∧ t.getN Reg.LOG_ATT_SEQ = a.2.2 % 2 ^ 32
          ∧ t.tru.att = none ∧ (let sig := ecdsaSign s.fuses.devPriv (beNat (s.freeBytes 12).1) (a.1 ++ a.2.1 ++ leBytes 4 a.2.2 ++ leBytes 8 s.fuses.uid)
            ∀ j < 24, t.getN (Reg.LOG_ATT_SIG j) = leAt sig (4 * j) 4)
          ∧ s.Keeps t ([Reg.LOG_ATT_STAT, Reg.LOG_ATT_SEQ] ++ (List.range 24).map Reg.LOG_ATT_SIG ++ icuRegs)

/-- The MRAM window's commands: the silence of the die closes the window and shows it; CLR of SYS_MRAM_CLR and SYS_TEXT_CLR by a sender whose
write reaches them; and a reassembly that has waited 100 ms is dropped and counted.
From when the silence counts is the model's choice (log entry 120). -/
def Obligations.WindowAndTimeouts : Prop :=
  ∀ (src : Src) (s : State), s.Runs → s.Sends src →
    (s.elapsed s.hk.mramTick 10000000 = true → Completes .mramNoResult s fun t => t.windowClosed = true ∧ t.flag Reg.SYS_MRAM_STAT 29 = true)
      ∧ Completes (.sysMramClr src) s (fun t => t.fld Reg.SYS_MRAM_STAT 15 0 = 0 ∧ t.fld Reg.SYS_MRAM_STAT 27 16 = 0
          ∧ t.fld Reg.SYS_MRAM_STAT 31 28 = s.fld Reg.SYS_MRAM_STAT 31 28 ∧ s.Keeps t [Reg.SYS_MRAM_STAT])
      ∧ Completes (.sysTextClr src) s (fun t => (∀ n < 16, t.getN (Reg.SYS_TEXT n) = 0x80007FFF) ∧ s.Keeps t ((List.range 16).map Reg.SYS_TEXT))
      ∧ ∀ k r, s.uz[k]? = some r → s.elapsed r.tick 100000000 = true →
          Completes (.uzopexReassemblyTimeout k) s fun t => t.uz = s.uz.eraseIdx k ∧ ∀ a, t.byteAt a = s.byteAt a

/-! ## Modes, reset, boot, STANDBY -/

/-- What holds of the module between power-on and a program: the values the rules give for reset (SAFE, POR in SYS_RESET_CAUSE, every register
at the reset value of its table, no memory byte written), in reset and with the supply monitors holding it.
Model choices here: the zero of unwritten memory (log entry 2), the contents of the fuses (4), the registers that the Recipe gives (5), the ordering code -T (6), and that no row has bits (171). -/
def Obligations.ResetState : Prop :=
  State.reset.sys.phase = .inReset ∧ State.reset.mode = State.SAFE ∧ State.reset.getN Reg.SYS_RESET_CAUSE = 1 ∧ State.reset.getN Reg.SYS_MODE_PERM = 7
    ∧ (∀ a, State.reset.get a = resetOf a) ∧ State.reset.mem = [] ∧ State.reset.pending = [] ∧ State.reset.tru.queue = []
    ∧ (∀ nbits w, decodeTableWord nbits w = none) ∧ ∀ (s : State) (nbits w : Nat), s.withFetchWord nbits w = s

/-- An accepted mode request. SAFE, LOAD, COMMISSION and ENERGIZE are entered in the tick, with REASON 1; RUN-FULL and RUN-FAST wait for their
boundary; STANDBY starts the retention save; in STANDBY the request for SAFE starts the wake.
That a committed request is also a row of its own is the model's choice (log entry 29). -/
def Obligations.ModeRequests : Prop :=
  ∀ (m : Nat) (s : State), s.Runs → m < 8 → s.requestCheck m = 0 → s.entryOpen = false →
    (s.mode ≠ State.STANDBY → m = State.SAFE ∨ m = State.LOAD ∨ m = State.COMMISSION ∨ m = State.ENERGIZE →
        Acts (.modeRequest m) s fun u => s.Entered u m 1)
      ∧ (s.mode ≠ State.STANDBY → m = State.RUNFULL ∨ m = State.RUNFAST → Acts (.modeRequest m) s fun u =>
          u.mode = s.mode ∧ u.flag Reg.SYS_MODE 3 = true ∧ ∃ p, u.sys.pend = some p ∧ p.target = m ∧ p.reason = 1 ∧ p.atCycle = s.requestCycle)
      ∧ (s.mode ≠ State.STANDBY → m = State.STANDBY → Acts (.modeRequest m) s fun u => u.mode = s.mode ∧ u.sys.saving = true)
      ∧ (s.mode = State.STANDBY → m = State.SAFE → s.sys.waking = none → Acts (.modeRequest m) s fun u =>
          u.mode = State.STANDBY ∧ u.sys.waking = some 1)

/-- Every reset source puts the module in reset and sets its own bit of SYS_RESET_CAUSE: power-on, a supply monitor with its rail, nRESET low for
10 µs, a watchdog that has run out or is kicked with a wrong key, and the signed command.
That SRAM reads 0 after a reset is the model's choice (log entry 17). -/
def Obligations.ResetSources : Prop :=
  ∀ s : State,
    Completes .powerOnReset s (fun t => s.IsReset t 0)
      ∧ (∀ rail < 7, Completes (.supplyMonitorReset rail) s fun t => s.IsReset t 1 ∧ t.fld Reg.SYS_RESET_CAUSE 19 16 = rail ∧ t.sys.supplyBad = true)
      ∧ (s.sys.nresetLow = true → s.sys.nresetHeld = false → 10000 ≤ (s.tickNo - s.sys.nresetFell) * 8 →
          Completes .nresetDebounced s fun t => s.IsReset t 2 ∧ t.sys.nresetHeld = true)
      ∧ (s.awake = true → Completes (.resetRequest 0x5E7B) s fun t => s.IsReset t 9)
      ∧ ∀ n < 4, s.live = true → s.wdtOn n = true →
          (s.sys.wdtPaused.getD n none = none → s.fld (Reg.SYS_WDT_CFG n) 15 0 * 100000 ≤ (s.tickNo - s.sys.wdtKick.getD n 0) * 8 →
            Completes (.watchdogTimeout n) s fun t => s.IsReset t (4 + n))
          ∧ ∀ key, key % 65536 ≠ 0x4B1C → Completes (.watchdogKick n key) s fun t => s.IsReset t (4 + n)

/-- A kick with the key counts the watchdog's time from now; while TIMEOUT is 0 or the core has not been released a kick does nothing. -/
def Obligations.WatchdogKicks : Prop :=
  ∀ (n key : Nat) (s : State), s.Runs → n < 4 →
    (s.wdtOn n = false → Completes (.watchdogKick n key) s fun t => s.Keeps t [] ∧ t.sys.wdtKick = s.sys.wdtKick)
      ∧ (s.wdtOn n = true → key % 65536 = 0x4B1C → Completes (.watchdogKick n key) s fun t =>
          s.Keeps t [] ∧ ∀ m, t.sys.wdtKick[m]? = if m = n then s.sys.wdtKick[m]?.map fun _ => s.tickNo else s.sys.wdtKick[m]?)

/-- The pin nRESET. A low starts the debounce in the tick it is sampled; a rise before 10 µs resets nothing and adds 1 to GLITCH, which saturates at 15;
once the low has lasted 10 µs the module is in reset and held there, and no boot starts, until nRESET has been high for 10 µs. -/
def Obligations.NresetPin : Prop :=
  ∀ s : State, s.FltOk →
    (s.sys.nresetLow = false → Completes .nresetLow s fun t => t.sys.nresetLow = true ∧ t.sys.nresetFell = s.tickNo ∧ t.sys.phase = s.sys.phase ∧ s.Keeps t [])
      ∧ (s.sys.nresetLow = true → s.sys.nresetHeld = false → (s.tickNo - s.sys.nresetFell) * 8 < 10000 →
          (Completes .nresetGlitch s fun t => t.sys.nresetLow = false ∧ t.sys.phase = s.sys.phase
              ∧ t.fld Reg.SYS_RESET_CAUSE 23 20 = min (s.fld Reg.SYS_RESET_CAUSE 23 20 + 1) 15
              ∧ (∀ i < 32, ¬ (20 ≤ i ∧ i ≤ 23) → t.flag Reg.SYS_RESET_CAUSE i = s.flag Reg.SYS_RESET_CAUSE i) ∧ s.Keeps t [Reg.SYS_RESET_CAUSE])
            ∧ Completes .nresetDebounced s fun t => t.sys.phase = s.sys.phase ∧ s.Keeps t [])
      ∧ (s.sys.nresetLow = true → s.sys.nresetHeld = false → 10000 ≤ (s.tickNo - s.sys.nresetFell) * 8 →
          Completes .nresetDebounced s fun t => t.sys.phase = .inReset ∧ t.sys.nresetLow = true ∧ t.sys.nresetHeld = true)
      ∧ (s.sys.nresetHeld = true → (∀ headB mramT, Completes (.bootStart headB mramT) s fun t => t.sys.phase = s.sys.phase ∧ s.Keeps t [])
          ∧ (20000 ≤ (s.tickNo - s.sys.nresetFell) * 8 → Completes .nresetRelease s fun t => t.sys.nresetLow = false ∧ t.sys.nresetHeld = false ∧ t.sys.phase = s.sys.phase
            ∧ s.Keeps t [Reg.SYS_RESET_CAUSE]
            ∧ (s.sys.phase = .inReset → s.sys.supplyBad = false → ∀ headB mramT, Completes (.bootStart headB mramT) t fun u => u.sys.phase = .boot)))

/-- Boot: 2 ms after the rails have left their bands their return releases the hold; the Starter begins once nothing holds the module in reset, samples
HEAD_SEL and judges the MRAM window; without REFCLK it waits; an open journal outside the window holds the boot, which goes on when the die is inside the window; the end of boot
hands over in LOAD with RESULT and REASON 11 where a check of the ACTIVE slot fails, and in SAFE where all pass. -/
def Obligations.Boot : Prop :=
  ∀ s : State, s.FltOk →
    (s.sys.supplyBad = true → 2000000 ≤ (s.tickNo - s.sys.supplyTick) * 8 → Completes .railReturn s fun t => t.sys.supplyBad = false ∧ t.fld Reg.SYS_RAIL_STAT 6 0 = 0x7F ∧ s.Keeps t [Reg.SYS_RAIL_STAT])
      ∧ (∀ (headB : Bool) (mramT : Int), s.sys.phase = .inReset → s.sys.supplyBad = false → s.sys.nresetHeld = false →
        Completes (.bootStart headB mramT) s fun t => t.sys.phase = .boot ∧ t.sys.headB = headB ∧ t.flag Reg.PTN_STAT 27 = headB
          ∧ t.windowClosed = !(decide (-640 ≤ mramT) && decide (mramT ≤ 1680)) ∧ (s.journalOpen = false → t.sys.bootHeld = s.sys.bootHeld)
          ∧ (s.journalOpen = true → ¬ (-640 ≤ mramT ∧ mramT ≤ 1680) → t.sys.bootHeld = true))
      ∧ (∀ mramT : Int, s.sys.phase = .boot → s.sys.bootHeld = true → -640 ≤ mramT → mramT ≤ 1680 → s.flag Reg.SYS_MRAM_STAT 28 = false →
        Completes (.bootMramWindowEntry mramT) s fun t => t.sys.bootHeld = false ∧ t.journalOpen = false ∧ t.windowClosed = false)
      ∧ (s.sys.phase = .boot → s.sys.bootHeld = false → s.clk.refGone = false → s.imageCheck activeSlot ≠ 0 → Acts .bootEnd s fun u =>
        u.sys.phase = .run ∧ u.mode = State.LOAD ∧ u.fld Reg.SYS_MODE 11 8 = 0xB ∧ u.fld Reg.SYS_BOOT_STAT 3 0 = s.imageCheck activeSlot)
      ∧ (s.bootEnd 0).mode = State.SAFE ∧ (s.bootEnd 0).sys.phase = .run ∧ (s.bootEnd 0).sys.recipeOk = true
      ∧ (s.sys.phase = .boot → s.clk.refGone = true → (Completes .bootEnd s fun t => t.sys.phase = .boot ∧ s.Keeps t [])
          ∧ Acts .refclkGood s fun u => u.clk.refGone = false ∧ u.sys.phase = .boot)

/-- STANDBY: the end of the save enters it and ends the sessions; a wake source ends an entry, which shows ABORTED, or starts the wake; the wake's
end is SAFE with REASON 9. -/
def Obligations.Standby : Prop :=
  ∀ s : State, s.Runs →
    (s.sys.saving = true → Acts .retentionSaveDone s fun u => s.Entered u State.STANDBY 1 ∧ u.sys.saving = false
        ∧ ∀ n < 4, (u.tru.sessions.getD n {}).held = none)
      ∧ (∀ src < 8, s.sys.saving = true → s.wakeAsserts src = true → Acts (.wakeEvent src) s fun u => u.sys.saving = false
        ∧ u.flag Reg.SYS_STBY_STAT 8 = true ∧ u.fld Reg.SYS_STBY_STAT 2 0 = src ∧ u.mode = s.mode)
      ∧ (∀ src, s.entryOpen = false → s.mode = State.STANDBY → s.sys.waking = none → s.wakeAsserts src = true →
        Completes (.wakeEvent src) s fun t => t.sys.waking = some src ∧ s.Keeps t [])
      ∧ ∀ src < 8, s.sys.waking = some src → Acts .wakeComplete s fun u => s.Entered u State.SAFE 9 ∧ u.sys.waking = none
        ∧ u.fld Reg.SYS_STBY_STAT 2 0 = src

/-- The time limits of RIDE-THROUGH and of the build-up take the module to SAFE with REASON 7 and 8; the grid's recovery ends the grid fault, and in
RIDE-THROUGH asks for the run mode that was left; the die comparator bars MRAM writes and raises THERM_DIE. -/
def Obligations.LimitsAndRecovery : Prop :=
  ∀ s : State,
    (s.Runs → s.mode = State.RIDETHROUGH → s.getN (Reg.FLT_THR 10) * 1000000 ≤ (s.tickNo - s.sys.rtEntry) * 8 →
        Acts .rideThroughLimit s fun u => s.Entered u State.SAFE 7)
      ∧ (s.Runs → s.mode = State.ENERGIZE → s.flag Reg.SYS_MODE 12 = false → s.getN (Reg.FLT_THR 11) * 1000000 ≤ (s.tickNo - s.sys.energizeEntry) * 8 →
        Acts .buildUpLimit s fun u => s.Entered u State.SAFE 8)
      ∧ (s.Awake → s.sys.protInForce = true → s.gridRecovered = true → Completes .gridRecovered s fun t =>
        t.flag Reg.FLT_GF_STAT 0 = false ∧ t.flag Reg.FLT_GF_STAT 2 = false
          ∧ (s.mode = State.RIDETHROUGH → s.isFollow = false → State.runMode s.sys.rtFrom = true → ∃ p, t.sys.pend = some p ∧ p.target = s.sys.rtFrom ∧ p.reason = 6))
      ∧ (s.Runs → Acts .dieShutdown s fun u => u.flag Reg.SYS_MRAM_STAT 28 = true ∧ u.condition 0x1A = true
          ∧ (s.condition 0x1A = false → ∃ q, u.flt.todo = [q] ∧ q.code = 0x1A))

/-! ## Lanes and the cell link -/

/-- A lane acquires: 1 µs of CDR lock takes it from ACQUIRE to ALIGN; in ALIGN the first K28.5 fixes the boundary, and four valid idle pairs on it take
the lane to UP, which LNK_UP shows and which ends its link loss; what follows them is heard as a lane that is UP hears it. -/
def Obligations.LaneAcquires : Prop :=
  ∀ (n : Nat) (s : State), s.Awake → n < 16 →
    (s.laneState n = 3 → max (s.lane n).since (s.lane n).signalAt + 125 ≤ s.tickNo → Completes (.laneCdrLocked n) s fun t => t.laneState n = 4 ∧ t.fld (Reg.LNK_STAT n) 5 4 = 3
        ∧ s.Keeps t [Reg.LNK_STAT n, Reg.PTN_STAT])
      ∧ ∀ bits l, s.laneState n = 4 → let all := (s.lane n).rest ++ bits.map fun b => b != s.rxInv n
        (if s.flag (Reg.LNK_STAT n) 6 = true then some all else fromK285 all.length all) = some l →
        let r := idlePairs ((s.lane n).pairs, (s.lane n).opened) (bitsGroups l.length l)
        (r.1.1 < 4 → Completes (.laneAligned n bits) s fun t => t.flag (Reg.LNK_STAT n) 6 = true ∧ t.laneState n = 4 ∧ s.Keeps t [Reg.LNK_STAT n])
          ∧ (4 ≤ r.1.1 → r.2 = [] → Completes (.laneAligned n bits) s fun t => t.laneState n = 5 ∧ t.flag (Reg.LNK_STAT n) 6 = true ∧ t.flag Reg.LNK_UP n = true
            ∧ t.condition (0x58 + n) = false
            ∧ s.Keeps t [Reg.LNK_STAT n, Reg.PTN_STAT, Reg.LNK_UP, Reg.FLT_ACTIVE 2, Reg.FLT_ACTIVE 3, Reg.LNK_CNT_DEFER n])
          ∧ (4 ≤ r.1.1 → Acts (.laneAligned n bits) s fun u => 0x010 + n ∈ u.cores.evts
            ∧ (u.laneState n = 5 ∨ u.laneState n = 4 ∧ u.flag (Reg.LNK_EVT n) 0 = true))

/-- What a lane that is UP hears. Invalid code-groups, disparity errors and commas off the boundary add to its score, each run of four valid code-groups takes one
off, and code and disparity errors are counted; at 4 sync is lost: ALIGN, with LOS; at a loss of signal ACQUIRE, with LOSIG; either raises the lane's link loss.
A code-group that is no code-group, one of the other column, and a control code-group that the manual does not list show their events, and the receiver's
disparity follows it. The elastic buffer of 16 code-groups deletes and inserts idle pairs between frames, counted, and runs over or dry with its event. -/
def Obligations.LaneErrors : Prop :=
  ∀ (n : Nat) (s : State) (l : Lane), s.Awake → n < 16 → s.laneState n = 5 → s.lanes[n]? = some l →
    let evts := [Reg.LNK_EVT n, Reg.LNK_EVT_SUM] ++ icuRegs
    let score := s.fld (Reg.LNK_STAT n) 10 8
    let counts := fun (k d : Nat) (u : State) => u.getN (Reg.LNK_CERR n) = min (s.getN (Reg.LNK_CERR n) + k) 0xFFFFFFFF
      ∧ u.getN (Reg.LNK_DERR n) = min (s.getN (Reg.LNK_DERR n) + d) 0xFFFFFFFF
    (∀ bits, let all := l.rest ++ bits.map fun b => b != s.rxInv n
        let r := (bitsGroups all.length all).foldl (State.gatherOne true) { rd := l.rxRd, run := l.run, score := score, win := l.win }
        (r.score < 4 → Completes (.lossOfSync n bits) s fun t => t.fld (Reg.LNK_STAT n) 10 8 = r.score ∧ t.laneState n = 5
            ∧ counts r.cerr r.derr t ∧ s.Keeps t ([Reg.LNK_STAT n, Reg.LNK_CERR n, Reg.LNK_DERR n] ++ evts))
          ∧ (4 ≤ r.score → Acts (.lossOfSync n bits) s fun u => u.laneState n = 4 ∧ u.flag (Reg.LNK_EVT n) 0 = true ∧ counts r.cerr r.derr u
            ∧ u.fld (Reg.LNK_LOS_CNT n) 15 0 = min (s.fld (Reg.LNK_LOS_CNT n) 15 0 + 1) 0xFFFF ∧ u.flag Reg.LNK_UP n = false ∧ u.condition (0x58 + n) = true))
      ∧ (∀ sig, sig < 4 → let old := s.fld (Reg.LNK_STAT n) 5 4
        let gone := (bitAt old 0 = true ∧ bitAt sig 0 = false) ∨ (bitAt old 1 = true ∧ bitAt sig 1 = false)
        (gone → Acts (.lossOfSignal n sig) s fun u => u.laneState n = 3 ∧ u.flag (Reg.LNK_EVT n) 1 = true
            ∧ u.fld (Reg.LNK_STAT n) 5 4 = sig ∧ u.flag Reg.LNK_UP n = false ∧ u.condition (0x58 + n) = true)
          ∧ (¬ gone → Completes (.lossOfSignal n sig) s fun t => t.fld (Reg.LNK_STAT n) 5 4 = sig ∧ s.Keeps t [Reg.LNK_STAT n]))
      ∧ (∀ (inFrame : Bool) (slip : Int), let f := (l.fill : Int) + slip
        Completes (.elasticBufferOverflow n inFrame slip) s fun t => s.Keeps t (Reg.LNK_EB_STAT n :: evts) ∧ t.laneState n = 5
          ∧ (f < 0 ∨ 16 < f → t.flag (Reg.LNK_EVT n) (if f < 0 then 5 else 4) = true ∧ t.get (Reg.LNK_EB_STAT n) = s.get (Reg.LNK_EB_STAT n))
          ∧ (0 ≤ f → f ≤ 16 → inFrame = true → s.Keeps t [])
          ∧ (0 ≤ f → f ≤ 16 → inFrame = false → s.Keeps t [Reg.LNK_EB_STAT n]
            ∧ t.fld (Reg.LNK_EB_STAT n) 31 16 = min (s.fld (Reg.LNK_EB_STAT n) 31 16 + (f - 8).toNat / 2) 0xFFFF
            ∧ t.fld (Reg.LNK_EB_STAT n) 15 0 = min (s.fld (Reg.LNK_EB_STAT n) 15 0 + (8 - f).toNat / 2) 0xFFFF))
      ∧ ∀ group, score < 3 → let g := State.turned (s.rxInv n) group
        (groupCommas l.win g).2 = 0 →
        let h := hear l.rxRd g
        Completes (.laneCodeError n group) s fun t => t.laneState n = 5 ∧ (∃ m, t.lanes[n]? = some m ∧ m.rxRd = heardRd l.rxRd g)
          ∧ counts (if h = .invalid then 1 else 0) (if h = .disparity then 1 else 0) t
          ∧ (h = .invalid → t.flag (Reg.LNK_EVT n) 2 = true ∧ t.fld (Reg.LNK_STAT n) 10 8 = score + 1)
          ∧ (h = .disparity → t.flag (Reg.LNK_EVT n) 3 = true ∧ t.fld (Reg.LNK_STAT n) 10 8 = score + 1)
          ∧ (∀ x, h = .valid x → t.fld (Reg.LNK_STAT n) 10 8 = (if l.run = 3 then score - 1 else score) ∧ (otherControl x = true → t.flag (Reg.LNK_EVT n) 7 = true))
          ∧ s.Keeps t ([Reg.LNK_STAT n, Reg.LNK_CERR n, Reg.LNK_DERR n] ++ evts)

/-- The pattern checker takes the bits from the line, inverted as RX_INV and INV say: a checker without lock that has seeded itself and finds 64 bits as the
sequence has them is locked; LOCK shows its lock, and each lock it loses is counted and sets an event. LNK_INJ of a core has the generator invert its next
bit; a new source of an auxiliary lane takes effect. A lane whose LNK_TEST has been written enters TEST, or leaves it, when the tick's end follows the register
(the model's choice, log entry 220). -/
def Obligations.PatternTests : Prop :=
  (∀ (poly : Nat) (c : Checker), c.locked = false → (prbsTaps poly).1 ≤ c.seen → (c.feed poly (prbsRun poly 64 c.reg).1).locked = true)
    ∧ ∀ (n : Nat) (s : State), s.Awake → n < 16 →
      (∀ bits l, s.lineChecks n = true → s.lanes[n]? = some l →
          let c := l.chk.feed (s.polyOf n) ((bits.map fun b => b != s.rxInv n).map fun b => b != s.flag (Reg.LNK_TEST n) 8)
          let taken := fun (t : State) => (∃ m, t.lanes[n]? = some m ∧ m.chk = { c with lost := 0 }) ∧ t.flag (Reg.LNK_PRBS_STAT n) 0 = c.locked
            ∧ (0 < c.lost → t.flag (Reg.LNK_EVT n) 6 = true)
            ∧ t.fld (Reg.LNK_PRBS_STAT n) 31 16 = (if c.lost = 0 then s.fld (Reg.LNK_PRBS_STAT n) 31 16 else min (s.fld (Reg.LNK_PRBS_STAT n) 31 16 + c.lost) 0xFFFF)
            ∧ s.Keeps t ([Reg.LNK_STAT n, Reg.LNK_PRBS_STAT n, Reg.LNK_EVT n, Reg.LNK_EVT_SUM] ++ icuRegs)
          (l.chk.locked = false → Completes (.prbsLock n bits) s taken) ∧ (l.chk.locked = true → Completes (.prbsLockLoss n bits) s taken))
        ∧ (∀ (m : Fin 4) (l : Lane), s.coreWrites m = true → s.laneAbsent n = false → s.prbsOn n = true → s.lanes[n]? = some l →
          Completes (.lnkInj (.core m) n) s fun t => t.lanes[n]? = some { l with inject := true } ∧ s.Keeps t [])
        ∧ (∀ k x, k < 2 → s.mby.aux[k]? = some x → Completes (.auxSourceChange k) s fun t => t.mby.aux[k]? = some (s.auxWanted k) ∧ s.Keeps t [])
        ∧ ∀ old, (s.lane n).test = some old → s.laneState n ≠ 1 →
          (s.fld (Reg.LNK_TEST n) 2 0 ≠ 0 ∨ s.prbsOn n = true ∨ s.checkerOn n = true → (s.testFollows n).laneState n = 6)
            ∧ (s.fld (Reg.LNK_TEST n) 2 0 = 0 → s.prbsOn n = false → s.checkerOn n = false → s.laneState n = 6 → (s.testFollows n).laneState n = 3)

/-- SNAP copies a lane's live counters to its registers; SNAP of all lanes does so for each; CLR_PRBS and CLR_CODE clear theirs. -/
def Obligations.LaneCounters : Prop :=
  ∀ (n : Nat) (s : State) (l : Lane), s.Awake → n < 16 → s.laneAbsent n = false → s.lanes[n]? = some l →
    let shown := fun (t : State) => t.getN (Reg.LNK_PRBS_ERR n) = l.chk.err % 2 ^ 32 ∧ t.getN (Reg.LNK_PRBS_BITS_LO n) = l.chk.bits % 2 ^ 32
      ∧ t.getN (Reg.LNK_PRBS_BITS_HI n) = l.chk.bits / 2 ^ 32 % 2 ^ 32 ∧ t.lanes = s.lanes
    Completes (.lnkSnap n) s (fun t => shown t ∧ s.Keeps t [Reg.LNK_PRBS_ERR n, Reg.LNK_PRBS_BITS_LO n, Reg.LNK_PRBS_BITS_HI n])
      ∧ Completes .lnkSnapAll s shown
      ∧ Completes (.lnkClrPrbs n) s (fun t => t.lanes[n]? = some { l with chk := { l.chk with err := 0, bits := 0 } } ∧ t.fld (Reg.LNK_PRBS_STAT n) 31 16 = 0
          ∧ s.Keeps t [Reg.LNK_PRBS_STAT n])
      ∧ Completes (.lnkClrCode n) s fun t => t.getN (Reg.LNK_CERR n) = 0 ∧ t.getN (Reg.LNK_DERR n) = 0 ∧ t.getN (Reg.LNK_LOS_CNT n) = 0
          ∧ t.getN (Reg.LNK_EB_STAT n) = 0 ∧ s.Keeps t [Reg.LNK_CERR n, Reg.LNK_DERR n, Reg.LNK_LOS_CNT n, Reg.LNK_EB_STAT n]

/-- The cell link; v is the state in which the chain's lane has heard the frame's code-groups. A beacon of the other head is noted with its arrival; a
telemetry record that passes the checks is held as the newest of its cell, late or on time; a frame that is errored or fails its CRC is counted. CLR
clears the chain's counters, TLM_SNAP shows the newest record of a position. -/
def Obligations.CellLink : Prop :=
  ∀ (n : Nat) (s : State), s.Awake →
    (∀ gs x f e v, s.chainHears n gs.length = true → e = true ∨ frameCrcOk f = false →
        let counted := fun (u : State) => u.getN (Reg.LNK_CNT_FRMERR n) = min (s.getN (Reg.LNK_CNT_FRMERR n) + 1) 0xFFFFFFFF
        (s.lineFrame n gs = (v, some (kBeacon, f, e)) → Acts (.peerBeaconReceive n gs x) s counted)
          ∧ (s.lineFrame n gs = (v, some (kStart, f, e)) → Acts (.telemetryRecordReceive n gs x) s counted))
      ∧ (∀ gs f v stamp, s.chainHears n gs.length = true → s.lineFrame n gs = (v, some (kBeacon, f, false)) → State.frameValid n f false 16 = true →
        (frameHead f).type = 1 → (frameHead f).head = v.peerOf n → Acts (.peerBeaconReceive n gs stamp) s fun u =>
          (v.chainLoop n = false → u.fld (Reg.LNK_PEER_M n) 31 16 = leAt f 0x1E 2)
            ∧ ∀ x, v.mby.chains[n]? = some x → ∃ y, u.mby.chains[n]? = some y ∧ y.peerSeen = true ∧ y.ownM = min stamp 0xFFFF)
      ∧ (∀ gs f v ns, s.chainHears n gs.length = true → s.lineFrame n gs = (v, some (kStart, f, false)) → State.frameValid n f false 48 = true →
        (frameHead f).type = 3 → (frameHead f).head = v.headNo → v.recordFits n (frameHead f) (slice f 16 48) = true →
        Acts (.telemetryRecordReceive n gs ns) s fun u =>
          ∃ r, u.mby.recs = r :: v.mby.recs ∧ r.cell = leAt f 16 1 ∧ r.cycle = v.cycle ∧ r.bytes = slice f 16 48
            ∧ r.late = (v.mby.frozen || decide (v.deadlineNs < ns)))
      ∧ (n < s.numChains → Completes (.lnkMbyClr n) s fun t => t.getN (Reg.LNK_CNT_FRMERR n) = 0 ∧ t.getN (Reg.LNK_CNT_MISS n) = 0
          ∧ t.getN (Reg.LNK_CNT_LATE n) = 0 ∧ t.getN (Reg.LNK_CNT_DISC n) = 0 ∧ t.getN (Reg.LNK_CNT_DEFER n) = 0 ∧ t.fld (Reg.LNK_TLM_LAST n) 31 16 = 0
          ∧ s.Keeps t [Reg.LNK_CNT_FRMERR n, Reg.LNK_CNT_MISS n, Reg.LNK_CNT_LATE n, Reg.LNK_CNT_DISC n, Reg.LNK_CNT_DEFER n, Reg.LNK_TLM_LAST n])
      ∧ ∀ pos r, n < s.numChains → pos < 12 → s.mby.recs.find? (fun r => r.cell == n * 12 + pos) = some r → Completes (.lnkTlmSnap n pos) s fun t =>
          t.getN (Reg.LNK_TLM_RSTAT n) = r.cycle % 65536 * 65536 + b2n r.late * 512 + 256 + pos
            ∧ (∀ j < 12, t.getN (Reg.LNK_TLM_REC n j) = leAt r.bytes (4 * j) 4)
            ∧ s.Keeps t (Reg.LNK_TLM_RSTAT n :: (List.range 12).map (Reg.LNK_TLM_REC n))

/-! ## The control cycle -/

/-- A cycle boundary starts the next cycle number and is event source 0x001; after the events of the chains and of the pair a transition that still waits
for it is made; outside STANDBY the records of the new cycle are open. The deadline freezes the records and latches the on-time ones of the cycle. -/
def Obligations.BoundaryAndDeadline : Prop :=
  ∀ s : State,
    (s.Runs → s.boundaryDue = true → Acts .cycleBoundary s fun u => u.cycle = s.tim.cycleNext % 2 ^ 32 ∧ u.tim.cycleStart = s.tickNo
        ∧ 0x001 ∈ u.cores.evts ∧ (s.mode ≠ State.STANDBY → u.mby.frozen = false)
        ∧ (s.mode ≠ State.STANDBY → s.paired = false → u.mode = match s.boundaryEvents.sys.pend with
            | some p => if p.atCycle = s.tim.cycleNext then p.target % 8 else s.boundaryEvents.mode
            | none => s.boundaryEvents.mode))
      ∧ (s.Awake → s.mby.frozen = false → s.reached s.deadlineNs = true → Acts .telemetryDeadline s fun u =>
        u.mby.frozen = true ∧ u.mby.latched = s.mby.recs.filter (fun r => r.cycle == s.cycle && !r.late) ∧ 0x002 ∈ u.cores.evts)

/-- The ends of the engine's lists and of a modulator run: KNE_CYCLE and KNE_TEND show the cycle of a correction and its end, PHASE returns to idle after a
prediction, the run is over after its end; CLR of the modulator's counters clears them. -/
def Obligations.EngineEnds : Prop :=
  ∀ s : State, s.Awake →
    (s.kneRunning = true → s.knePhase = 1 ∨ s.knePhase = 2 → s.listOver = true → Acts .correctionEnd s fun u =>
        u.getN Reg.KNE_CYCLE = s.kne.corrCycle % 2 ^ 32 ∧ u.fld Reg.KNE_TEND 15 0 = min ((s.listEnd - s.kne.corrUnit) / 4) 0xFFFF ∧ (u.knePhase = 3 ∨ u.knePhase = 0) ∧ 0x003 ∈ u.cores.evts)
      ∧ (s.kneRunning = true → s.knePhase = 3 → s.listOver = true → Acts .predictionEnd s fun u => u.knePhase = 0)
      ∧ (∀ r, s.mod.run = some r → Acts .modulatorDone s fun u => u.mod.run = none ∧ 0x004 ∈ u.cores.evts)
      ∧ Completes .modCntClr s fun t => (∀ c < 144, t.getN (Reg.MOD_CELL_CNT_DROP c) = 0 ∧ t.getN (Reg.MOD_CELL_CNT_FULL c) = 0)
          ∧ (∀ p < 3, t.getN (Reg.MOD_PH_CNT_OVM p) = 0 ∧ t.getN (Reg.MOD_PH_CNT_DROP p) = 0 ∧ t.getN (Reg.MOD_PH_SPMAX p) = 0)
          ∧ t.fld Reg.MOD_TIME 31 16 = 0 ∧ t.fld Reg.MOD_TIME 15 0 = s.fld Reg.MOD_TIME 15 0

/-! ## The partner -/

/-- Valid frames of the partner; v is the state in which the partner lane has heard their code-groups. A STATUS is remembered and its NEED shown; a
HELLO gives the partner's UID; a SAMPLE frame of the cycle before the deadline gives the partner's channels; a RELAY is accepted as a relayed record; a
segment joins the copy it belongs to; BULK data of a joiner goes into the inactive bank. -/
def Obligations.PartnerFrames : Prop :=
  ∀ (lane : Nat) (gs : List Nat) (f : List Byte) (h : FrameHead) (b : List Byte) (s v : State), s.FltOk → s.partnerHears lane gs.length = true →
    s.lineFrame (12 + lane) gs = (v, some (kStart, f, false)) →
    (v.fromPartner? lane 0x11 f false (fun c n => c == 0xFF && n == 32) = some (h, b) → bitAt (leAt b 1 1) 6 = false →
        Acts (.statusReceive lane gs) s fun u =>
          (∃ p, u.ptn.status = some p ∧ p.mode = leAt b 0 1 ∧ p.flags = leAt b 1 1 ∧ p.tmode = leAt b 2 1 ∧ p.reason = leAt b 3 1
            ∧ p.tcycle = leAt b 4 4 ∧ p.role = h.role ∧ p.term = h.term)
          ∧ ∀ k < 4, u.getN (Reg.PTN_PNEED k) = leAt b (8 + 4 * k) 4)
      ∧ (v.fromPartner? lane 0x14 f false (fun c n => c == 0xFF && n == 32) = some (h, b) → Acts (.helloReceive lane gs) s fun u =>
          u.getN Reg.PTN_PUID_LO = leAt b 0 4 ∧ u.getN Reg.PTN_PUID_HI = leAt b 4 4)
      ∧ (v.fromPartner? lane 0x13 f false (fun c n => c == 0xFF && n == 128) = some (h, b) → v.sampleFits h.cycle = true →
          Acts (.sampleReceive lane gs) s fun u => ∀ i < 16, leAt b (8 * i + 5) 1 ≠ 0xFF → leAt b (8 * i + 4) 1 < 16 →
            v.partnerOwns (leAt b (8 * i + 4) 1) = true → (leAt b (8 * i + 4) 1, leAt b (8 * i) 4, leAt b (8 * i + 5) 1) ∈ u.ptn.samples)
      ∧ (∀ ns, v.fromPartner? lane 0x12 f false (fun c n => decide (c < 12) && n == 48) = some (h, b) → v.recordFits h.chain h b = true →
          Acts (.relayReceive lane gs ns) s fun u => ∃ r, u.mby.recs = r :: v.mby.recs ∧ r.cell = leAt b 0 1 ∧ r.bytes = b ∧ r.relayed = true
            ∧ r.late = (v.mby.frozen || decide (v.deadlineNs < ns)))
      ∧ (v.fromPartner? lane 0x10 f false (fun c n => decide (c < 4) && decide (n ≤ 512)) = some (h, b) → v.isFollow = true → v.ptn.copyDone = false →
          h.cycle = v.ptn.imageCycle → v.ptn.image ≠ [] → (∀ x ∈ v.ptn.segs, ¬ (x.1 = h.cycle ∧ x.2.1 = h.chain)) →
          State.copyImage ((h.cycle, h.chain, b) :: v.ptn.segs) h.cycle = none →
          Acts (.stateSegmentReceive lane gs) s fun u => u.ptn.segs = (h.cycle, h.chain, b) :: v.ptn.segs)
      ∧ (v.fromPartner? lane 0x15 f false (fun c n => c == 0xFF && decide (8 ≤ n) && decide (n ≤ 1032)) = some (h, b) → leAt b 0 1 = 1 → v.joinStep ≠ 0 →
          leAt b 4 4 + (b.length - 8) ≤ 0x200000 → v.tru.bank = none → Acts (.bulkReceive lane gs) s fun u =>
            ∀ i < b.length - 8, u.byteAt (State.bankBase (1 - v.activeBank) + leAt b 4 4 + i) = b.getD (8 + i) 0)

/-- What this module of a pair does on its own: the owner's samples go to the lanes that are UP, the LEAD sends BULK data, a copy that is not there
when its window ends is counted as missed. -/
def Obligations.PartnerSends : Prop :=
  ∀ s : State, s.Awake → s.paired = true →
    (s.samplesDue = true → Acts .sampleSend s fun u =>
        (∀ k < 2, s.plUp k = true → ∃ f, (k, f) ∈ u.ptn.wait ∧ (frameHead f).type = 0x13)
          ∧ ∀ c < 16, s.partnerOwns c = false → ∃ st, (c, s.getN (Reg.ADC_CH_DATA c), st) ∈ u.ptn.samples)
      ∧ (∀ lane off len, lane < 2 → s.isLead = true → s.plUp lane = true → 0 < len → len ≤ 1024 → off + len ≤ 0x200000 → Acts (.bulkSend lane 1 off len) s fun u =>
          ∃ f, u.ptn.wait = s.ptn.wait ++ [(lane, f)] ∧ (frameHead f).type = 0x15 ∧ slice f 24 len = s.bytesAt (State.bankBase s.activeBank + off) len)
      ∧ (s.isFollow = true → s.ptn.copyDone = false → s.ptn.image ≠ [] → s.copyOver = true → s.fld Reg.PTN_STAT 11 10 < 2 → Acts .copyMissed s fun u =>
          u.getN Reg.PTN_CNT_COPYMISS = min (s.getN Reg.PTN_CNT_COPYMISS + 1) 0xFFFFFFFF ∧ u.ptn.copyDone = true)

/-- The pair's controls: a golden-vector check whose parts have run ends, is counted and shown, and 1.5 µs after the correction what it holds is released; YIELD makes the LEAD a
FOLLOW; PRESET asks the partner to reset; CLR clears the pair's counters. -/
def Obligations.PartnerControls : Prop :=
  ∀ s : State, s.Awake →
    (∀ pass, s.paired = true → s.gvRuns = true → s.mod.run = none → s.elapsed s.ptn.gvTick 300 = true → s.elapsed s.mod.endTick 300 = true → Acts (.gvCheckDone pass) s fun u =>
        u.fld Reg.PTN_CNT_GV 15 0 = min (s.fld Reg.PTN_CNT_GV 15 0 + 1) 0xFFFF ∧ u.flag Reg.PTN_STAT 16 = false ∧ u.flag Reg.PTN_STAT 15 = !pass)
      ∧ (s.paired = true → s.ptn.gvHeld = true → s.elapsed s.ptn.gvTick 1500 = true → Acts .gvReleaseTimeout s fun u => u.mod.hold = false ∧ u.ptn.gvHeld = false ∧ u.fld Reg.PTN_STAT 13 12 = 0 ∧ u.ptn.gvReq = false)
      ∧ (s.isLead = true → s.partnerInStep = true → Acts .ptnCtrlYield s fun u => u.ptn.yielded = true ∧ u.roleNo = 2)
      ∧ (s.isLead = true → Acts .ptnCtrlPreset s fun u => u.ptn.resetReq = true ∧ s.Keeps u [])
      ∧ ∀ src : Src, s.Sends src → Completes (.ptnCntClr src) s fun t => t.getN Reg.PTN_CNT_COPYMISS = 0 ∧ t.getN Reg.PTN_CNT_DIS = 0 ∧ t.getN Reg.PTN_CNT_GV = 0
          ∧ t.getN Reg.PTN_CNT_RESYNC = 0 ∧ t.getN Reg.PTN_CNT_RELAY = 0 ∧ t.getN Reg.PTN_CNT_RELAYDROP = 0
          ∧ s.Keeps t [Reg.PTN_CNT_COPYMISS, Reg.PTN_CNT_DIS, Reg.PTN_CNT_GV, Reg.PTN_CNT_RESYNC, Reg.PTN_CNT_RELAY, Reg.PTN_CNT_RELAYDROP]

/-! ## Local PWM and gate drive -/

/-- A group's controls by a core: START in a mode from COMMISSION on runs it and lets its outputs go, STOP stops it, ARM arms it, a software event
moves its commutation mask to the next entry once the hold time is over. -/
def Obligations.PwmGroupControls : Prop :=
  ∀ (n : Fin 4) (g : Fin 2) (s : State), s.Awake → s.coreWrites n = true →
    (3 ≤ s.mode → s.flag Reg.PWM_STAT 5 = false → Acts (.pwmStart (.core n) g) s fun u => u.flag (Reg.PWM_G_STAT g) 2 = false
        ∧ ((s.grp g).run = false → u.flag Reg.PWM_STAT g = true ∧ u.flag (Reg.PWM_G_STAT g) 0 = true))
      ∧ (s.mode < 3 → Acts (.pwmStart (.core n) g) s fun u => u.flag Reg.PWM_EVT 9 = true ∧ u.pwm = s.pwm)
      ∧ Acts (.pwmStop (.core n) g) s (fun u => u.flag Reg.PWM_STAT g = false ∧ u.flag (Reg.PWM_G_STAT g) 0 = false)
      ∧ Completes (.pwmArm (.core n) g) s (fun t => t.flag (Reg.PWM_G_STAT g) 1 = true ∧ s.Keeps t [Reg.PWM_G_STAT g])
      ∧ (s.maskSource g 0 = true → s.flag (Reg.PWM_G_MSK_CFG g) 0 = true → s.flag (Reg.PWM_G_MSK_CFG g) 1 = false → (s.grp g).next = none →
          ¬ ((s.grp g).moved = true ∧ (s.grp g).entryTick = s.tickNo) → s.fld (Reg.PWM_MSK_HOLD g (s.maskIdx g)) 15 0 ≤ s.tickNo - (s.grp g).entryTick →
          Acts (.maskSwEvent (.core n) g) s fun u => u.maskIdx g = s.fld (Reg.PWM_MSK_HOLD g (s.maskIdx g)) 19 16)

/-- The PWM's own events: a period ends and the next begins, the SYN edge gives the period, its loss forces the outputs low, the PWM clock stops
and returns, COMM_IN and the J3 pins change, an edge forms that no minimum-pulse rule moves; CLR clears the counters. -/
def Obligations.PwmEvents : Prop :=
  ∀ s : State, s.Awake →
    (∀ g < 2, s.periodEnds g = true → Acts (.pwmPeriodBoundary g) s fun u => 0x050 + g ∈ u.cores.evts
        ∧ ∀ x, u.pwm.groups[g]? = some x → x.start = (s.grp g).start + s.periodOf g ∧ x.run = true)
      ∧ (∀ n pos y, pos < 32 → s.tsrc 1 = 2 → s.fld (Reg.PWM_G_CFG 1) 19 16 = n → s.outEdge n (32 * s.tickNo + pos) = true →
          (s.grp 1).synEdge = some y → (s.grp 1).run = false →
          y + 400 ≤ 32 * s.tickNo + pos → 32 * s.tickNo + pos ≤ y + 16777215 → Acts (.synEdge n pos) s fun u =>
          u.fld (Reg.PWM_G_SYNPER 1) 23 0 = 32 * s.tickNo + pos - y ∧ s.Keeps u [Reg.PWM_G_SYNPER 1])
      ∧ (∀ y, s.tsrc 1 = 2 → (s.grp 1).run = true → (s.grp 1).synEdge = some y → s.fld (Reg.PWM_G_SYNPER 1) 23 0 ≠ 0 →
          y + 2 * s.fld (Reg.PWM_G_SYNPER 1) 23 0 ≤ 32 * s.tickNo → Acts .synLost s fun u => u.flag (Reg.PWM_G_STAT 1) 2 = true ∧ u.flag Reg.PWM_EVT 6 = true ∧ u.condition 0x90 = true)
      ∧ (s.flag Reg.PWM_STAT 5 = false → Acts .pwmClockStop s fun u => u.flag Reg.PWM_STAT 5 = true ∧ u.flag Reg.PWM_STAT 0 = false
          ∧ u.flag Reg.PWM_STAT 1 = false ∧ u.condition 0x8F = true)
      ∧ (s.flag Reg.PWM_STAT 5 = true → Completes .pwmClockReturn s fun t => t.flag Reg.PWM_STAT 5 = false ∧ t.condition 0x8F = false
          ∧ s.Keeps t [Reg.PWM_STAT, Reg.FLT_ACTIVE 4])
      ∧ (∀ rising, Acts (.commInEdge rising) s fun u => u.cores.comm = rising ∧ 0x074 ∈ u.cores.evts)
      ∧ (∀ (h : Fin 6) (pulse en : Bool), Acts (.j3InputChange h pulse en) s fun u =>
          u.flag Reg.PWM_EXT_IN h = pulse ∧ u.flag Reg.PWM_EXT_IN (8 + h) = en)
      ∧ (∀ (h : Fin 6) (v : Nat), let g := hbGroup h
          let w := s.waveOf h
          let x := s.hb h
          let t := (s.grp g).start + v
          (s.grp g).run = true → (s.grp g).waiting = false → s.hbSrc h = false → s.direct h = false → v < s.periodOf g → t < 32 * (s.tickNo + 1) →
          Acts (.pwmCompareEdge h v) s (fun u => ∀ y, u.pwm.hb[h.val]? = some y → y.formed = max x.formed (t + 1))
            ∧ (t < s.periodEnd g (s.grp g).start (s.periodOf g) → v ∈ w.instants → x.formed = t → x.hold = none → x.refreshEnd = none →
                w.level v ≠ x.raw → w.level v ≠ x.pulse → x.edgeAt + s.hbMinp h ≤ t →
                (∀ e, firstEdge t (w.level v) (!w.level v) ((s.pieces h).flatMap Piece.edges) = some e → s.hbMinp h ≤ e - t) →
                Acts (.pwmCompareEdge h v) s fun u => (∀ y, u.pwm.hb[h.val]? = some y → y.pulse = w.level v ∧ y.edgeAt = t)
                  ∧ u.fld (if x.pulse then Reg.PWM_HB_EFF_HI h else Reg.PWM_HB_EFF_LO h) 23 0 = min (t - x.edgeAt) 0xFFFFFF))
      ∧ ∀ src : Src, s.Sends src → Completes (.pwmCntClr src) s fun t => t.getN Reg.PWM_HALT_CNT = 0 ∧ t.getN Reg.PWM_FORCE_CNT = 0
          ∧ ∀ h < 6, t.getN (Reg.PWM_HB_CNT_DROP h) = 0 ∧ t.getN (Reg.PWM_HB_CNT_STRETCH h) = 0 ∧ t.getN (Reg.PWM_HB_CNT_CLAMP h) = 0

/-- A switch's trips latch their causes: desaturation, gate current, gate overvoltage with the count of short circuits, low turn-on rail, loss of
the segment's link. Each stands in GDR_HBh_FLT and GDR_FLT_SUM. -/
def Obligations.GateTrips : Prop :=
  ∀ (h : Fin 6) (hi : Bool) (s : State), s.Awake →
    let latched := fun (bit : Nat) (u : State) => u.flag (Reg.GDR_HB_FLT h) bit = true ∧ u.flag Reg.GDR_FLT_SUM h = true
    let short := fun (u : State) => u.getN Reg.GDR_CNT_SC = min (s.getN Reg.GDR_CNT_SC + 1) 0xFFFFFFFF ∧ u.flag Reg.GDR_EVT 0 = true
    let above := if hi then 9 else 10
    (∀ ns, 20 ≤ ns → (s.sw h hi).on = true → s.passedNs (s.sw h hi).onAt (s.blankNs h + 20) = true → Acts (.desatTrip h hi ns) s fun u =>
        latched (if hi then 0 else 1) u ∧ short u ∧ u.flag (Reg.GDR_HB_STAT h) above = true)
      ∧ (∀ ns, s.desatTrips h hi ns = false → Completes (.desatTrip h hi ns) s fun t =>
          t.flag (Reg.GDR_HB_STAT h) above = decide (ns ≠ 0) ∧ s.Keeps t [Reg.GDR_HB_STAT h])
      ∧ ((s.sw h hi).on = true → s.passedNs (s.sw h hi).onAt 20 = true → Acts (.govTrip h hi) s fun u => latched (if hi then 4 else 5) u ∧ short u)
      ∧ ((s.sw h hi).on = true → (s.sw h hi).measured = false → s.passedNs (s.sw h hi).onAt (s.gcmNs h) = true → Acts (.gcmTrip h hi) s fun u => latched (if hi then 2 else 3) u ∧ short u)
      ∧ (hi = false ∨ s.flag (Reg.GDR_HB_CFG h) 0 = false ∨ (s.sw h hi).on = true ∨ (s.sw h hi).pending = true ∨ (s.sw h hi).waiting = true →
          Acts (.uvloTrip h hi) s fun u => latched (if hi then 6 else 7) u
          ∧ u.flag (Reg.GDR_HB_STAT h) (if hi then 6 else 7) = false ∧ u.getN Reg.GDR_CNT_UVLO = min (s.getN Reg.GDR_CNT_UVLO + 1) 0xFFFFFFFF)
      ∧ (hi = true → s.flag (Reg.GDR_HB_CFG h) 0 = true → (s.sw h hi).on = false → (s.sw h hi).pending = false → (s.sw h hi).waiting = false →
          Completes (.uvloTrip h hi) s fun t => t.flag (Reg.GDR_HB_STAT h) 6 = false ∧ s.Keeps t [Reg.GDR_HB_STAT h])
      ∧ (s.segUp h = true → Acts (.segLinkLoss h) s fun u => latched 8 u ∧ u.segUp h = false
          ∧ u.getN Reg.GDR_CNT_SEG = min (s.getN Reg.GDR_CNT_SEG + 1) 0xFFFFFFFF)

/-- A switch turns on when its dead time has ended, the other gate is low and its rail is there, and waits otherwise; the end of a soft turn-off, the return of rail and
link, a gate sensed low, a measured edge, and the gate-power window show what they say.
That GDR_HBh_VSUP takes a free value at the end of a window is the model's choice (log entry 23). -/
def Obligations.GateEvents : Prop :=
  ∀ (h : Fin 6) (hi : Bool) (s : State) (l : Leg), s.Awake → s.gdr.legs[h.val]? = some l →
    let railOk := fun (x : Bool) => x = false ∨ s.flag (Reg.GDR_HB_CFG h) 0 = false ∨ s.flag (Reg.GDR_HB_STAT h) 6 = true
    (s.deadTimeOver h hi = true → railOk hi → Acts (.deadTimeElapsed h hi) s fun u =>
        if (s.sw h !hi).low = true ∧ (s.sw h !hi).on = false
        then (if (s.sw h hi).soft = true then (u.sw h hi).waiting = true
          else (u.sw h hi).on = true ∧ u.flag (Reg.GDR_HB_STAT h) (if hi then 0 else 1) = true)
        else (u.sw h hi).waiting = true ∧ (u.sw h hi).pending = false ∧ u.getN (Reg.GDR_HB_CNT_INTLK h) = min (s.getN (Reg.GDR_HB_CNT_INTLK h) + 1) 0xFFFFFFFF)
      ∧ ((s.sw h hi).on = false → (s.sw h hi).low = false → s.passedNs (s.sw h hi).offAt 20 = true → Acts (.interlockRelease h hi) s fun u =>
          (u.sw h hi).low = true
            ∧ ((s.sw h !hi).waiting = true → (s.sw h !hi).soft = false → s.legBlocked h = false → railOk (!hi) → (u.sw h !hi).on = true))
      ∧ ((s.sw h hi).soft = true → s.passedNs (s.sw h hi).offAt (s.sw h hi).softFor = true → ∀ above, Acts (.softTurnOffEnd h hi above) s fun u =>
          (u.sw h hi).soft = false ∧ u.flag (Reg.GDR_HB_STAT h) (if hi then 9 else 10) = above)
      ∧ (s.flag (Reg.GDR_HB_STAT h) (if hi then 6 else 7) = false → Completes (.gateRailReturn h hi) s fun t =>
          t.flag (Reg.GDR_HB_STAT h) (if hi then 6 else 7) = true ∧ (t.sw h hi).railSince = s.tickNo ∧ s.Keeps t [Reg.GDR_HB_STAT h])
      ∧ (s.segUp h = false → Acts (.segLinkReturn h) s fun u => u.segUp h = true)
      ∧ (∀ on v, s.edgeOpen h hi on = true → 4 ≤ v → v ≤ 3000 → (s.sw h hi).cut ≠ some on → (on = true ∨ (s.sw h hi).softOff = false) →
          Acts (.gateEdgeMeasured h hi on (some v)) s fun u =>
          u.fld (if hi then Reg.GDR_HB_SWT_H h else Reg.GDR_HB_SWT_L h) (if on then 15 else 31) (if on then 0 else 16) = v ∧ 0x054 + h.val ∈ u.cores.evts)
      ∧ (∀ on v, s.edgeOpen h hi on = true → s.measuredTime h hi on v = none → Acts (.gateEdgeMeasured h hi on v) s fun u =>
          u.getN (Reg.GDR_HB_CNT_NOMEAS h) = min (s.getN (Reg.GDR_HB_CNT_NOMEAS h) + 1) 0xFFFFFFFF)
      ∧ ∀ pw : List Nat, Acts (.gatePowerLimit pw) s fun u => u.fld (Reg.GDR_HB_PWR h) 15 0 = min (pw.getD h 0) 0xFFFF
          ∧ u.fld Reg.GDR_PWR_TOT 15 0 = min ((List.range 6).foldl (fun n k => n + pw.getD k 0) 0) 0xFFFF ∧ ∃ k, u.get (Reg.GDR_HB_VSUP h) = Config.freeValue k

/-- The gate drive's controls: a core's direct switching word, the keyed clear of a half-bridge whose causes are gone, CLR of the counters, SNAP of
the histories. -/
def Obligations.GateControls : Prop :=
  ∀ (src : Src) (n : Fin 4) (h : Fin 6) (s : State), s.Awake → s.Sends src → s.coreWrites n = true →
    (∀ v, Acts (.gdrDirsw (.core n) h v) s fun u => u.getN (Reg.GDR_HB_DIRSW h) % 4 = v.toNat % 4)
      ∧ (s.gdrLatched h = true → s.gdrGone h = true → Acts (.gdrClr (2 ^ h.val)) s fun u =>
          u.getN (Reg.GDR_HB_FLT h) = 0 ∧ u.flag Reg.GDR_FLT_SUM h = false ∧ u.flag Reg.GDR_EVT 9 = true)
      ∧ (s.gdrLatched h = true → s.gdrGone h = false → Completes (.gdrClr (2 ^ h.val)) s fun t =>
          t.getN (Reg.GDR_HB_FLT h) = s.getN (Reg.GDR_HB_FLT h) ∧ t.flag Reg.GDR_EVT 8 = true
            ∧ t.getN Reg.GDR_CNT_CLR_KEPT = min (s.getN Reg.GDR_CNT_CLR_KEPT + 1) 0xFFFFFFFF)
      ∧ Completes (.gdrCntClr src) s (fun t => t.getN Reg.GDR_CNT_SC = 0 ∧ t.getN Reg.GDR_CNT_SEG = 0 ∧ t.getN Reg.GDR_CNT_UVLO = 0
          ∧ t.getN Reg.GDR_PWR_MAX = 0 ∧ t.getN (Reg.GDR_HB_CNT_SC h) = 0 ∧ t.getN (Reg.GDR_HB_CNT_NOMEAS h) = 0 ∧ t.gdr.frozen = false)
      ∧ Completes (.gdrSnap src) s fun t => t.gdr.frozen = true ∧ ∀ k < 16, t.get (Reg.GDR_HB_SWT_HIST h k) = (s.leg h).hist.getD k 0

/-! ## Measurement -/

/-- The precision channels. An output in force is published with its status, engineering value, SEQ and time stamp, and no other channel's value
changes; a segment that goes takes ADC_STAT with it and one that returns brings it back. RESYNC waits for the boundary; SNAP copies the newest
output; SNAP and CLR of the metering show and zero the accumulators. -/
def Obligations.PrecisionChannels : Prop :=
  ∀ (src : Src) (n : Fin 4) (c : Fin 16) (s : State), s.Awake → s.Sends src → s.coreWrites n = true →
    (∀ code ovl off, s.adcEn c = true → s.pairMode c = 0 → s.flag Reg.ADC_STAT (16 + c) = true → s.owOpen c = false → s.adcOw c % 4 ≠ 1 →
        s.settleLeft c = 0 → (s.adcCh c).testing = false → (s.adcCh c).settleNext = false → off < 8 → s.outputDue c (8 * s.tickNo + off) = true → -0x800000 ≤ code → code ≤ 0x7FFFFF →
        Acts (.adcOutput c false code ovl off) s fun u =>
          u.adcStatus c = (if code = 0x7FFFFF ∨ code = -0x800000 ∨ ovl = true then 2 else 0)
            ∧ u.getN (Reg.ADC_CH_DATA c) = Fl.to32 (s.engValue c c code) % 2 ^ 32
            ∧ u.getN (Reg.ADC_CH_SEQ c) = (s.getN (Reg.ADC_CH_SEQ c) + 1) % 2 ^ 32
            ∧ u.getN (Reg.ADC_CH_TS_NS c) = (s.tim.ns + off) % 1000000000 ∧ 0x030 + c.val ∈ u.cores.evts
            ∧ (∀ d : Fin 16, d ≠ c → u.get (Reg.ADC_CH_DATA d) = s.get (Reg.ADC_CH_DATA d)) ∧ ∀ a, u.byteAt a = s.byteAt a)
      ∧ (s.flag Reg.ADC_STAT (16 + c) = true → Acts (.adcSegmentLoss c) s fun u => u.flag Reg.ADC_STAT (16 + c) = false
          ∧ u.flag (Reg.ADC_CH_STAT c) 28 = false ∧ u.flag (Reg.ADC_CH_EVT c) 0 = true ∧ u.condition (0xD0 + c) = true)
      ∧ (s.flag Reg.ADC_STAT (16 + c) = false → Acts (.adcSegmentReturn c) s fun u => u.flag Reg.ADC_STAT (16 + c) = true
          ∧ u.flag (Reg.ADC_CH_STAT c) 28 = true ∧ u.condition (0xD0 + c) = false)
      ∧ (∀ v, Completes (.adcResync (.core n) v) s fun t => t.adc.resync = (s.tickNo, v.toNat % 65536) :: s.adc.resync ∧ s.Keeps t [])
      ∧ Completes (.adcChSnap src c) s (fun t => t.get (Reg.ADC_CH_S_DATA c) = s.get (Reg.ADC_CH_DATA c)
          ∧ t.get (Reg.ADC_CH_S_NS c) = s.get (Reg.ADC_CH_TS_NS c) ∧ t.get (Reg.ADC_CH_S_SEC c) = s.get (Reg.ADC_CH_TS_SEC c)
          ∧ ∀ d : Fin 16, d ≠ c → t.get (Reg.ADC_CH_S_DATA d) = s.get (Reg.ADC_CH_S_DATA d))
      ∧ Completes (.adcSnapAll src) s (fun t => ∀ d : Fin 16, t.get (Reg.ADC_CH_S_DATA d) = s.get (Reg.ADC_CH_DATA d)
          ∧ t.get (Reg.ADC_CH_S_NS d) = s.get (Reg.ADC_CH_TS_NS d) ∧ t.get (Reg.ADC_CH_DATA d) = s.get (Reg.ADC_CH_DATA d))
      ∧ Completes (.adcCntClr src) s (fun t => (∀ d : Fin 16, t.getN (Reg.ADC_CH_CNT_CLIP d) = 0 ∧ t.getN (Reg.ADC_CH_CNT_SETTLE d) = 0
          ∧ t.getN (Reg.ADC_CH_CNT_OPEN d) = 0) ∧ ∀ d : Fin 16, t.get (Reg.ADC_CH_DATA d) = s.get (Reg.ADC_CH_DATA d))
      ∧ Completes (.meterSnap src) s (fun t => t.adc.meters = s.adc.meters ∧ ∀ p < 3, t.getN (Reg.ADC_MTR_EPOS_LO p)
          = (Fl.floor (Fl.mul (s.adc.meters.getD p {}).pos (Fl.ofNat 1000))).toNat % 2 ^ 32)
      ∧ Completes (.meterClear (.core n)) s fun t => t.adc.meters = [{}, {}, {}] ∧ s.Keeps t []

/-- Housekeeping: an entry that ends publishes the mean of its fourth and fifth outputs and the next begins; an urgent request takes the converter from an
entry that has begun in an earlier tick, or waits for it, and its result stands in HKP_URG_RES. Shown for entries of the supply rails. Which way a mean of an
odd sum goes is a free value (log entry 198). -/
def Obligations.Housekeeping : Prop :=
  ∀ (n : Fin 4) (s : State) (i : Nat) (xs ys : List Nat), s.Runs → s.coreWrites n = true → i < 8 → xs.getD 3 0 < 65536 → xs.getD 4 0 < 65536 →
    let mean := fun (x : Nat) => 2 * x ≤ xs.getD 3 0 + xs.getD 4 0 + 1 ∧ xs.getD 3 0 + xs.getD 4 0 ≤ 2 * x + 1
    (s.hk.running = true → s.urgRun = false → s.urgPend = false → s.hkElapsed = true → s.hkRunning < 31 → s.hkEntry s.hkRunning = (4, i) →
        Acts (.hkEntryDone xs ys) s fun u => ∃ x, mean x ∧ u.getN (Reg.HKP_RES s.hkRunning) % 65536 = x ∧ u.fld (Reg.HKP_RES s.hkRunning) 31 30 = 0
          ∧ u.fld (Reg.HKP_RES s.hkRunning) 23 16 = s.fld Reg.HKP_STAT 23 16 ∧ u.hkRunning = s.hkRunning + 1 ∧ 0x070 ∈ u.cores.evts
          ∧ u.condition (0xEA + i) = (let mv := 2 * x
              let b := railBand i
              decide (mv < b.1) || decide (b.2.1 < mv) || (s.condition (0xEA + i) && !(decide (b.1 + b.2.2 ≤ mv) && decide (mv + b.2.2 ≤ b.2.1)))))
      ∧ (s.hk.urgent = none → s.hk.running = true → s.hkElapsed = false → s.hk.fresh = false → s.hk.restart = false → Acts (.hkpUrg (.core n) 4 i) s fun u =>
          u.hk.urgent = some (4, i) ∧ u.urgRun = true ∧ u.flag Reg.HKP_URG_RES 29 = false ∧ u.flag Reg.HKP_EVT 1 = true)
      ∧ (s.hk.urgent = none → s.hk.running = true → s.hkElapsed = false → s.hk.fresh = true → Acts (.hkpUrg (.core n) 4 i) s fun u =>
          u.hk.urgent = some (4, i) ∧ u.urgRun = true ∧ u.hk.start = s.tickNo + 1)
      ∧ (s.hk.urgent = none → s.hk.running = false ∨ s.hkElapsed = true ∨ (s.hk.fresh = false ∧ s.hk.restart = true) → Completes (.hkpUrg (.core n) 4 i) s fun t =>
          t.hk.urgent = some (4, i) ∧ t.urgPend = true ∧ t.flag Reg.HKP_URG_RES 29 = false ∧ s.Keeps t [Reg.HKP_URG_RES, Reg.HKP_STAT])
      ∧ (s.hk.urgent.isSome = true → Completes (.hkpUrg (.core n) 4 i) s fun t => t.hk = s.hk ∧ t.flag Reg.HKP_EVT 3 = true
          ∧ t.fld Reg.HKP_CNT 15 0 = min (s.fld Reg.HKP_CNT 15 0 + 1) 0xFFFF ∧ s.Keeps t [Reg.HKP_EVT, Reg.HKP_CNT])
      ∧ (s.urgRun = true → s.hkElapsed = true → s.hk.urgent = some (4, i) → Acts (.hkUrgentDone xs ys) s fun u =>
          (∃ x, mean x ∧ u.getN Reg.HKP_URG_RES = 2 ^ 29 + s.fld Reg.HKP_STAT 23 16 * 2 ^ 16 + x) ∧ u.urgRun = false ∧ u.hk.urgent = none ∧ u.hk.running = true)

/-! ## Faults and memory errors -/

/-- The fault manager's controls and memory errors. FLT_CLR clears a latch whose source is absent, and keeps one that is present; POP removes the head of the queue; FLT_SW raises SW with the
class and value written; FLT_SRC_SEL shows a source; CLR zeroes the counts. A single-bit error is counted as corrected; a double-bit error
flags the read as failed, ends a core's load in a bus error, and raises the source of its memory.
How a sender names the link buffers is the model's choice (log entry 24). -/
def Obligations.FaultControls : Prop :=
  ∀ (src : Src) (n : Fin 4) (s : State), s.Awake → s.Sends src → s.coreWrites n = true →
    (∀ c < 256, c < 0x1A ∨ 0x28 < c → s.fltLatched c = true → 0x100 + c ∉ s.cores.evts → Completes (.fltClr (0xC1EA0000 + c)) s fun t =>
        t.fltLatched c = s.condition c ∧ (∀ d < 256, d ≠ c → t.fltLatched d = s.fltLatched d) ∧ (s.condition c = true → t.flag Reg.FLT_EVT 5 = true)
          ∧ t.flt = s.flt)
      ∧ Completes (.fltQPop (.core n)) s (fun t => t.flt.queue = s.flt.queue.drop 1 ∧ t.getN Reg.FLT_Q_STAT = s.flt.queue.length - 1
          ∧ ∀ a, ¬ State.queueReg a → t.get a = s.get a)
      ∧ (∀ v : Word, fieldOf v.toNat 25 24 ≠ 3 → Acts (.fltSw (.core n) v) s fun u => ∃ q, u.flt.todo = [q] ∧ q.code = 0xFF ∧ q.value = v.toNat % 65536
          ∧ q.swClass = fieldOf v.toNat 25 24)
      ∧ (∀ c : Word, c.toNat < 256 → (∀ x ∈ s.flt.srcs, x.2.item < 65536) → Completes (.fltSrcSel (.core n) c) s fun t => t.getN Reg.FLT_SRC_SEL = c.toNat
          ∧ t.flag Reg.FLT_SRC_INFO 31 = s.fltLatched c.toNat ∧ t.flag Reg.FLT_SRC_INFO 30 = s.condition c.toNat
          ∧ s.Keeps t [Reg.FLT_SRC_SEL, Reg.FLT_SRC_INFO, Reg.FLT_SRC_CNT, Reg.FLT_SRC_LAST_NS, Reg.FLT_SRC_LAST_SEC])
      ∧ Completes (.fltCntClr src) s (fun t => (∀ k < 64, t.getN (Reg.FLT_CNT k) = 0) ∧ t.getN Reg.FLT_Q_LOST = 0
          ∧ (∀ x ∈ t.flt.srcs, x.2.cnt = 0) ∧ t.flt.queue = s.flt.queue)
      ∧ ∀ a core, let w := State.eccAddr a core
          (s.condition 0x8B = false → Acts (.eccReadError a false core) s fun u => (∃ q, u.flt.todo = [q] ∧ q.code = 0x8B) ∧ u.eccBad = s.eccBad)
            ∧ Acts (.eccReadError a true core) s fun u => w / 8 * 8 ∈ u.eccBad ∧ u.sys.readFailed = some (core, a)
              ∧ (∀ k : Fin 4, core = some k.val → s.coreRuns k = true → (u.coreSt k).priv = 3 ∧ (0x342, 5#32) ∈ (u.coreSt k).csr)
              ∧ (let code := if 0x10000000 ≤ w ∧ w < 0x10100000 then 0x88 else if 0x00500000 ≤ w ∧ w < 0x00B00000 then 0x89
                  else if 0x01000000 ≤ w ∧ w < 0x01800000 then 0x8A else 0x87
                ¬ (0x00100000 ≤ w ∧ w < 0x00500000) → s.condition code = false → ∃ q, u.flt.todo = [q] ∧ q.code = code)

/-- What a raise does in its tick. Shown for SW where the module is in SAFE or the class is LOG or ALARM: the class is the greater of the written one and
the Recipe's; the raise takes the next FSEQ, adds one to the source's count, puts a record with its class and value at the end of a queue that has
room, and sets the class's bit of FLT_EVT; class STOP or TRIP latches the source. And for every source: a raise of class STOP or TRIP in a mode from LOAD on
takes the module into SAFE, with the reason of its class, and latches the source. -/
def Obligations.FaultActions : Prop :=
  (∀ (n : Fin 4) (v : Word) (s : State), s.Awake → s.coreWrites n = true → s.paired = false → s.entryOpen = false → s.flt.queue.length < 32 → fieldOf v.toNat 25 24 ≠ 3 →
    let cls := max (s.fltClass 0xFF) (fieldOf v.toNat 25 24)
    cls < 2 ∨ s.mode = 1 → Completes (.fltSw (.core n) v) s fun t =>
      t.flt.fseq = (s.flt.fseq + 1) % 2 ^ 32 ∧ t.flag Reg.FLT_EVT cls = true ∧ t.getN Reg.FLT_Q_STAT = s.flt.queue.length + 1
        ∧ t.fld (Reg.FLT_CNT 63) 31 24 = min (s.fld (Reg.FLT_CNT 63) 31 24 + 1) 0xFF
        ∧ (∃ r, t.flt.queue = s.flt.queue ++ [r] ∧ r.cls = cls ∧ leAt r.bytes 0 4 = s.flt.fseq % 2 ^ 32 ∧ leAt r.bytes 4 1 = 0xFF
            ∧ leAt r.bytes 5 1 = cls ∧ leAt r.bytes 28 4 = v.toNat % 65536)
        ∧ t.mode = s.mode ∧ t.fltLatched 0xFF = (s.fltLatched 0xFF || decide (2 ≤ cls)) ∧ (2 ≤ cls → t.flag Reg.FLT_FIRST 31 = true))
    ∧ ∀ (s : State) (q : FltReq) (x : Nat × Nat × Nat), s.Awake → s.paired = false → s.kneRunning = false → 2 ≤ s.mode → fltInfo q.code = some x →
        q.code ≠ 0xFF → 2 ≤ s.fltClass q.code →
        (s.fltAct q).fltLatched q.code = true
          ∧ s.Entered (s.fltAct q) 1 (if s.fltClass q.code = 3 then (if q.code ≤ 2 then 4 else 3) else 2)

/-! ## Safety island -/

/-- Demands and checks of the safety island. Each demand turns A, B and G off and latches them: an SI terminal, the heartbeat, TEST_REQ, a discrepancy, safe
data that stay out, and in channel P's cycle a terminal that its filter finds low; a low that the filter has not passed is no demand. A waiting parameter set is adopted once all are OFF; the steps of the pre-energise check lead to ON or, with
the readback wrong, to a latched failure; a dark test starts a pulse, whose readback leaves the output ON or latches its failure. -/
def Obligations.IslandDemands : Prop :=
  ∀ (s : State) (t : Nat), s.island.up = true →
    let off := fun (x : Nat) (u : State) => u.island.state x = 0 ∧ u.island.flag Reg.SAF_LATCH x = true
    let allOff := fun (u : State) => (∀ x < 3, off x u ∧ bitAt u.island.hOn x = false) ∧ u.island.gen = false
    (∀ terms, terms % 256 ≠ 255 → Acts (.siDemand terms) s fun u => allOff u ∧ u.island.siLatch = 7 ∧ ∀ x < 3, bitAt u.island.peel x = true)
      ∧ (s.islNow.heartbeatLost = true → Acts .heartbeatLoss s fun u => allOff u ∧ ∀ x < 3, bitAt u.island.peel x = true)
      ∧ (s.islNow.testReqLong = true → Acts .testReqTimeout s fun u => allOff u ∧ ∀ x < 3, bitAt u.island.peel x = true)
      ∧ (∀ n < 4, s.island.discDue n = true → Acts (.discLatch n) s fun u =>
          allOff u ∧ u.island.flag Reg.SAF_LATCH (4 + n) = true ∧ u.island.flag Reg.SAF_DEMAND 9 = true)
      ∧ (20 ≤ s.island.fld Reg.SAF_SD_STAT 15 8 → Acts .safeDataTimeout s fun u =>
          allOff u ∧ u.island.flag Reg.SAF_LATCH 8 = true ∧ u.island.flag Reg.SAF_DEMAND 4 = true ∧ u.island.lastSeq = none)
      ∧ (∀ x, s.island.second.getLast? = some x → 20 ≤ s.island.since x.2.2.2.2 → bitAt s.island.down (1 - x.2.1) = false → s.island.oneCopy = false → Acts .secondCopyTimeout s fun u =>
          allOff u ∧ u.island.flag Reg.SAF_LATCH 8 = true ∧ u.island.lastSeq = none ∧ u.island.second = [])
      ∧ (∀ terms lows a b c d i v g k, Acts (.pCycle terms lows a b c d i v g k) s fun u =>
          (lows % 256 ≠ 0 → ∀ x < 3, off x u ∧ bitAt u.island.pOn x = false) ∧ u.island.flag Reg.SAF_DEMAND 0 = decide (lows % 256 ≠ 0)
            ∧ u.island.flag Reg.SAF_DEMAND 12 = decide (v % 65536 < 1600)
            ∧ u.island.get Reg.SAF_TIME = (s.island.get Reg.SAF_TIME + 1) % 2 ^ 32 ∧ u.island.fld Reg.SAF_IN 7 0 = terms % 256)
      ∧ (∀ b, s.island.wait = some b → s.island.allOff = true → Acts .spsAdopt s fun u =>
          u.island.held = some b ∧ u.island.wait = none ∧ u.island.lastSeq = none ∧ u.island.get Reg.SAF_SPS_ID = leAt b 60 4)
      ∧ (∀ x vhs vls g, x < 2 → x < s.island.states.length → s.islNow.stepOver x = true → let hs := rbClass (s.island.get Reg.SAF_VSUP) vhs
          let ls := rbClass (s.island.get Reg.SAF_VSUP) vls
          (s.island.steps[x]? = some (some (1, t)) → Acts (.preEnergiseStep x vhs vls g) s fun u => u.island.steps[x]? = some (some (2, t)))
            ∧ (s.island.steps[x]? = some (some (0, t)) → Acts (.preEnergiseStep x vhs vls g) s fun u =>
                if hs = 2 ∧ ls = 2 then u.island.steps[x]? = some (some (1, t)) ∧ bitAt u.island.pOn x = false
                else off x u ∧ u.island.flag Reg.SAF_LATCH (9 + x) = true)
            ∧ (s.island.steps[x]? = some (some (2, t)) → Acts (.preEnergiseStep x vhs vls g) s fun u =>
                if hs = 0 ∧ ls = 0 then u.island.state x = 2 ∧ u.island.flag Reg.SAF_LATCH x = false ∧ u.island.steps[x]? = some none
                else off x u ∧ u.island.flag Reg.SAF_LATCH (9 + x) = true))
      ∧ (s.island.state 0 = 2 ∨ s.island.state 1 = 2 → s.island.instant = false → s.island.fld Reg.SAF_TEST 15 0 = 0 → Acts .darkTestInstant s fun u =>
          u.island.instant = true ∧ ∃ k, u.island.pulse = some (k, s.island.get Reg.SAF_TIME) ∧ s.island.state (k / 2) = 2)
      ∧ ∀ k vhs vls, s.island.pulse = some (k, t) → s.islNow.pulseOver = true → k < 4 → k / 2 < s.island.states.length → Acts (.darkPulse vhs vls) s fun u =>
          u.island.pulse = none ∧
          (if (if k % 2 = 0 then rbClass (s.island.get Reg.SAF_VSUP) vhs = 0 else rbClass (s.island.get Reg.SAF_VSUP) vls = 2)
            then u.island.state (k / 2) = 2 ∧ u.island.fld (Reg.SAF_SW k) 31 30 = 1
            else off (k / 2) u ∧ u.island.flag Reg.SAF_LATCH (9 + k / 2) = true)

/-- The island's supply, its summary lines and its mirror: start-up leaves every output off and latched, the loss of SAFE_24V ends it, the main domain
raises the source of each line, a frame carries the island's registers and counts in SAF_MSEQ, and without a frame MIRROR_OK clears. -/
def Obligations.IslandMirror : Prop :=
  ∀ s : State,
    (s.island.up = false → Acts .islandStartup s fun u => u.island.up = true ∧ u.island.gen = false ∧ ∀ x < 3, u.island.state x = 0 ∧ u.island.flag Reg.SAF_LATCH x = true)
      ∧ (s.live = true → s.island.up = true → Acts .safe24Loss s fun u => u.island.up = false ∧ u.island.gen = false ∧ u.flag Reg.SAF_STAT 31 = false
          ∧ u.condition 0x02 = true)
      ∧ (s.live = true → s.island.up = true → Acts .islandSummaryLine s fun u => u.island.lines = s.island.lineLevels
          ∧ u.condition 0x00 = bitAt s.island.lineLevels 0 ∧ u.condition 0x01 = bitAt s.island.lineLevels 1 ∧ u.condition 0x03 = bitAt s.island.lineLevels 3
          ∧ (bitAt s.island.lineLevels 2 = true → u.condition 0x02 = true))
      ∧ (s.sys.phase ≠ .inReset → s.island.up = true → Acts .mirrorFrame s fun u => u.flag Reg.SAF_STAT 31 = true
          ∧ u.getN Reg.SAF_MSEQ = (s.getN Reg.SAF_MSEQ + 1) % 2 ^ 32 ∧ u.condition 0x02 = bitAt s.island.lines 2
          ∧ ∀ a ∈ [Reg.SAF_LATCH, Reg.SAF_DEMAND, Reg.SAF_OUT, Reg.SAF_IN, Reg.SAF_TIME], u.getN a = s.island.get a)
      ∧ (s.live = true → s.sys.mirrorTick + 625000 ≤ s.tickNo → Acts .mirrorTimeout s fun u => u.flag Reg.SAF_STAT 31 = false ∧ u.condition 0x02 = true)

/-! ## Recorder -/

/-- The recorder's controls and triggers. ARM takes the free segment that the rule picks, STOP ends a capture and closes a record in POST, every trigger source joins
the tick's triggers with its number and stamp, XTRIG is released, a closed segment is freed, CLR clears the counters. At its end the triggers of a tick act as one: in ARMED
the recorder goes to POST with the first source in the rule's order, in POST a trigger is counted as RETRIG, elsewhere as LOST.
That the triggers of a tick act at its end is the model's choice (log entry 133). -/
def Obligations.Recorder : Prop :=
  ∀ (src : Src) (n : Fin 4) (s : State), s.Awake → s.Sends src → s.coreWrites n = true →
    (∀ k < 8, s.recState = 0 → s.recPick = some k → Acts (.recArm (.core n)) s fun u =>
        u.recState = 1 ∧ u.recSeg = k ∧ u.segState k = 1 ∧ u.recd.j = 0 ∧ u.recd.trig = none)
      ∧ (s.recState = 0 → s.recPick = none → Acts (.recArm (.core n)) s fun u => u.recState = 3 ∧ u.flag Reg.REC_EVT 4 = true)
      ∧ (s.recState = 1 → Acts (.recStop (.core n)) s fun u => u.recState = 0 ∧ u.segState s.recSeg = 0)
      ∧ (∀ x, s.recState = 2 → s.recd.trig = some x → Acts (.recStop (.core n)) s fun u =>
          u.recState = 0 ∧ u.segState s.recSeg = 3 ∧ u.flag Reg.REC_EVT 0 = true ∧ u.flag Reg.REC_EVT 6 = true ∧ u.recd.trig = none)
      ∧ Completes (.recTrig (.core n)) s (fun t => s.Keeps t [] ∧ ∃ x, t.recd.todo = s.recd.todo ++ [x] ∧ x.src = 0 ∧ x.mode = s.mode ∧ (x.sec, x.ns, x.sub) = s.stamp 0)
      ∧ (∀ rising pos, pos < 32 → Acts (.trigInEdge rising pos) s fun u => u.flag Reg.REC_STAT 10 = rising ∧ 0x072 ∈ u.cores.evts
          ∧ (s.flag Reg.REC_TRIGCFG 0 = true → s.fld Reg.REC_TRIGCFG 2 1 = 2 ∨ s.fld Reg.REC_TRIGCFG 2 1 = (if rising then 0 else 1) →
            ∃ x, u.recd.todo = s.recd.todo ++ [x] ∧ x.src = 1 ∧ (x.sec, x.ns, x.sub) = s.stamp pos)
          ∧ (s.flag Reg.REC_TRIGCFG 0 = false → u.recd.todo = s.recd.todo))
      ∧ (∀ pos, pos < 32 → s.flag Reg.REC_STAT 9 = false → s.flag Reg.REC_TRIGCFG 3 = true → s.recd.xtFreed = none →
          Acts (.xtrigEdge true pos) s fun u => u.flag Reg.REC_STAT 8 = true ∧ 0x073 ∈ u.cores.evts
            ∧ ∃ x, u.recd.todo = s.recd.todo ++ [x] ∧ x.src = 2 ∧ (x.sec, x.ns, x.sub) = s.stamp pos)
      ∧ (s.xtDue = true → Completes .xtrigRelease s fun t => t.flag Reg.REC_STAT 9 = false ∧ t.flag Reg.REC_STAT 8 = s.recd.extLow
          ∧ t.recd.xtFreed = some s.tickNo ∧ s.Keeps t [Reg.REC_STAT])
      ∧ (∀ k : Fin 8, s.recState = 0 → 2 ≤ s.segState k → Completes (.recSegRel src (BitVec.ofNat 32 (2 ^ k.val))) s fun t => t.segState k = 0
          ∧ s.KeepsRegs t [Reg.REC_SEG_STAT k, Reg.REC_SEG_TSEC k, Reg.REC_SEG_TNS k, Reg.REC_SEG_FIRST k, Reg.REC_SEG_NFRM k])
      ∧ Completes (.recCntClr src) s (fun t => t.getN Reg.REC_CNT_TRIG = 0 ∧ t.getN Reg.REC_CNT_RETRIG = 0 ∧ t.getN Reg.REC_CNT_LOST = 0
          ∧ s.Keeps t [Reg.REC_CNT_TRIG, Reg.REC_CNT_RETRIG, Reg.REC_CNT_LOST])
      ∧ ∀ x, State.firstTrigger s.recd.todo = some x → s.recJudge.recd.todo = []
          ∧ (s.recState = 1 → s.recJudge.recState = 2 ∧ s.recJudge.recd.trig = some x ∧ s.recJudge.flag Reg.REC_EVT 1 = true
            ∧ s.recJudge.getN Reg.REC_CNT_TRIG = min (s.getN Reg.REC_CNT_TRIG + 1) 0xFFFFFFFF)
          ∧ (s.recState = 2 → s.recJudge.recState = 2 ∧ s.recJudge.recd.trig = s.recd.trig ∧ s.recJudge.flag Reg.REC_EVT 2 = true
            ∧ s.recJudge.getN Reg.REC_CNT_RETRIG = min (s.getN Reg.REC_CNT_RETRIG + 1) 0xFFFFFFFF)
          ∧ (s.recState ≠ 1 → s.recState ≠ 2 → s.recJudge.recState = s.recState ∧ s.recJudge.flag Reg.REC_EVT 3 = true
            ∧ s.recJudge.getN Reg.REC_CNT_LOST = min (s.getN Reg.REC_CNT_LOST + 1) 0xFFFFFFFF)

/-! ## Clocks -/

/-- Losses and returns of the clocks: what each event shows in CLK_STAT, counts, and raises or ends.
When the flag REF_LOSS clears is the model's choice (log entries 144 and 145), and that a lock lost without REFCLK comes back
by the same event (log entry 243). -/
def Obligations.ClockEvents : Prop :=
  ∀ s : State, s.Runs →
    (s.flag Reg.CLK_STAT 0 = false → Acts .refclkLoss s fun u => u.flag Reg.CLK_STAT 0 = true ∧ u.flag Reg.CLK_EVT 0 = true ∧ u.clk.sysHold = true
        ∧ u.getN Reg.CLK_CNT_REF = min (s.getN Reg.CLK_CNT_REF + 1) 0xFFFFFFFF ∧ u.condition 0x8C = true
        ∧ u.synHold = (s.synHold || s.flag Reg.CLK_SYN_CFG 0))
      ∧ (s.flag Reg.CLK_STAT 0 = true → s.fld Reg.CLK_MON_CFG 7 0 * 1000000 ≤ (s.tickNo - s.clk.lossTick) * 8 → Completes .refclkGood s fun t =>
          t.flag Reg.CLK_STAT 0 = false ∧ t.clk.relocking = true ∧ t.clk.goodTick = s.tickNo ∧ s.Keeps t [Reg.CLK_STAT])
      ∧ (s.clk.relocking = true ∨ (s.flag Reg.CLK_STAT 1 = true ∧ s.clk.sysHold = false) → Completes (.sysPllRelock true) s fun t => t.flag Reg.CLK_STAT 1 = false ∧ t.clk.sysHold = false
          ∧ t.condition 0x8C = false ∧ t.condition 0x8D = false ∧ s.Keeps t [Reg.CLK_STAT, Reg.FLT_ACTIVE 4])
      ∧ (s.clk.relocking = true → 1000000 ≤ (s.tickNo - s.clk.goodTick) * 8 → s.flag Reg.CLK_STAT 1 = false → Acts (.sysPllRelock false) s fun u =>
          u.flag Reg.CLK_STAT 1 = true ∧ u.flag Reg.CLK_EVT 1 = true ∧ u.condition 0x8D = true)
      ∧ (∀ derived, s.clk.sysHold = false ∨ (derived = true ∧ s.clk.relocking = false) → s.flag Reg.CLK_STAT 1 = false → Acts (.sysPllUnlock derived) s fun u => u.flag Reg.CLK_STAT 1 = true ∧ u.flag Reg.CLK_EVT 1 = true
          ∧ u.getN Reg.CLK_CNT_SYSUL = min (s.getN Reg.CLK_CNT_SYSUL + 1) 0xFFFFFFFF ∧ u.condition 0x8D = true)
      ∧ (s.synHold = false → s.flag Reg.CLK_SYN_CFG 0 = true → Acts .synLockLoss s fun u => u.synHold = true ∧ u.flag Reg.CLK_STAT 3 = false
          ∧ u.flag Reg.CLK_EVT 2 = true ∧ u.getN Reg.CLK_CNT_HOLD = min (s.getN Reg.CLK_CNT_HOLD + 1) 0xFFFFFFFF ∧ u.condition 0x8E = true
          ∧ u.synWord = s.synWord ∧ ∀ p < 4, s.riseRun p = true → s.riseRef p = false → (s.riseOf p).pausedAt = none → u.flag (Reg.CLK_RISEP_STAT p) 1 = true)
      ∧ (s.synHold = true → s.clk.reacq = false → s.flag Reg.CLK_STAT 0 = false → s.clk.sysHold = false →
          if s.synWord = s.synDue then Completes .synReacquire s fun t => t.synHold = false
            ∧ t.flag Reg.CLK_STAT 3 = true ∧ t.condition 0x8E = false ∧ (∀ p < 4, (t.riseOf p).pausedAt = none)
            ∧ s.Keeps t ([Reg.CLK_STAT, Reg.CLK_RISE_STAT, Reg.FLT_ACTIVE 4] ++ (List.range 4).map Reg.CLK_RISEP_STAT)
          else Completes .synReacquire s fun t => t.clk.reacq = true ∧ t.clk.slewing = true ∧ t.synHold = true ∧ s.Keeps t [])

/-- SYNC, output enables and Rise profiles. A SYNC event, from the pin or by software, is stamped and counted and aligns the outputs that the mask names; START begins a profile
from its first value, or is refused with its event; a segment's end begins the next or holds the last END; STOP leaves WORD. -/
def Obligations.SyncAndRise : Prop :=
  ∀ (src : Src) (n : Fin 4) (p : Fin 4) (s : State), s.Awake → s.Sends src → s.coreWrites n = true →
    let stat := Reg.CLK_RISEP_STAT p
    let synced := fun (u : State) (pos : Nat) => u.clk.syncAt = some (32 * s.tickNo + pos) ∧ u.flag Reg.CLK_SYNC_STAT 0 = true
      ∧ u.getN Reg.CLK_SYNC_NS = (s.stamp pos).2.1 ∧ u.fld Reg.CLK_CNT_SYNC 15 0 = min (s.fld Reg.CLK_CNT_SYNC 15 0 + 1) 0xFFFF
      ∧ ∀ k < 8, u.flag (Reg.CLK_OUTN_STAT k) 1 = s.flag Reg.CLK_SYNC_CFG (16 + k)
    let syncs := s.flag Reg.CLK_SYNC_CFG 3 = false ∧ s.clk.syncAt = none
    let others := (List.range 4).filter fun q => q != p.val && s.riseRun q
    (∀ rising pos, pos < 32 → syncs → s.fld Reg.CLK_SYNC_CFG 1 0 = 0 → s.flag Reg.CLK_SYNC_CFG 2 = !rising → Acts (.syncPinEdge rising pos) s fun u =>
        synced u pos ∧ 0x075 ∈ u.cores.evts)
      ∧ (syncs → Completes (.clkSyncSw (.core n)) s fun t => synced t 0
          ∧ s.Keeps t ([Reg.CLK_SYNC_STAT, Reg.CLK_SYNC_NS, Reg.CLK_SYNC_SEC, Reg.CLK_CNT_SYNC] ++ (List.range 8).map Reg.CLK_OUTN_STAT))
      ∧ Completes (.clkSyncArm (.core n)) s (fun t => t.flag Reg.CLK_SYNC_STAT 1 = true ∧ s.Keeps t [Reg.CLK_SYNC_STAT])
      ∧ (∀ v, Completes (.clkOutEn (.core n) v) s fun t => (∀ k < 8, t.flag Reg.CLK_OUT_EN k = v.getLsbD k) ∧ s.Keeps t [Reg.CLK_OUT_EN])
      ∧ (s.segCount p ≠ 0 → s.riseRef p = true → (∀ q ∈ others, ¬ (s.riseRef q = true ∧ s.refk q = s.refk p)) → Completes (.riseStart (.core n) p) s fun t =>
          t.flag stat 0 = true ∧ t.flag stat 1 = s.synHold ∧ t.riseSeg p = 0 ∧ t.get (Reg.CLK_RISEP_VAL p) = s.get (Reg.CLK_RISEP_V0 p) ∧ t.getN (Reg.CLK_RISEP_ELAPSED p) = 0)
      ∧ (s.segCount p ≠ 0 → s.riseRef p = false → (∀ q ∈ others, s.riseRef q = true) →
          State.synListOk ((List.range (s.segCount p)).map (s.seg p)) s.synWord (s.flag (Reg.CLK_RISEP_CFG p) 9) = true → Completes (.riseStart (.core n) p) s fun t =>
            t.flag stat 0 = true ∧ t.riseSeg p = 0 ∧ t.getN (Reg.CLK_RISEP_VAL p) = s.synWord ∧ t.synWord = s.synWord)
      ∧ (s.segCount p = 0 → Acts (.riseStart (.core n) p) s fun u => u.flag Reg.CLK_EVT 3 = true ∧ u.get stat = s.get stat)
      ∧ (s.riseRun p = true → Completes (.riseStop (.core n) p) s fun t => t.riseRun p = false ∧ t.synWord = s.synWord ∧ s.Keeps t [stat, Reg.CLK_RISE_STAT])
      ∧ (s.riseDue p = true → s.riseSeg p + 1 < s.segCount p → Completes (.riseSegmentEnd p) s fun t => t.riseSeg p = s.riseSeg p + 1 ∧ t.riseRun p = true
          ∧ (s.riseRef p = false → t.getN Reg.CLK_SYN_WORD = (s.seg p (s.riseSeg p)).2.toNat))
      ∧ (s.riseDue p = true → s.segCount p ≤ s.riseSeg p + 1 → s.flag (Reg.CLK_RISEP_CFG p) 9 = false → Completes (.riseSegmentEnd p) s fun t =>
          t.flag stat 2 = true ∧ t.get (Reg.CLK_RISEP_VAL p) = (s.seg p (s.riseSeg p)).2
            ∧ t.getN (Reg.CLK_RISEP_CNT p) = min (s.getN (Reg.CLK_RISEP_CNT p) + 1) 0xFFFFFFFF)
      ∧ Completes (.clkCntClr src) s fun t => t.getN Reg.CLK_CNT_REF = 0 ∧ t.getN Reg.CLK_CNT_SYSUL = 0 ∧ t.getN Reg.CLK_CNT_HOLD = 0 ∧ t.getN Reg.CLK_CNT_SYNC = 0
          ∧ (∀ q < 4, t.getN (Reg.CLK_RISEP_CNT q) = 0)
          ∧ s.Keeps t ([Reg.CLK_CNT_REF, Reg.CLK_CNT_SYSUL, Reg.CLK_CNT_HOLD, Reg.CLK_CNT_SYNC] ++ (List.range 4).map Reg.CLK_RISEP_CNT)

/-! ## Network time -/

/-- The time base. SET and STEP change the time in their tick and are shown; a read latches the seconds of its reader; a sample of the active source
moves the servo at the end of the tick unless the time has stepped in it, one of another is counted as rejected; without samples the servo holds; a comparator that matches shows it and either disarms or stays
armed; ARM, DISARM, POP and CLR. -/
def Obligations.NetworkTime : Prop :=
  ∀ (src : Src) (n : Fin 4) (s : State), s.Awake → s.Sends src → s.coreWrites n = true →
    let goal := (s.getN Reg.TIM_SET_SECH % 65536 * 2 ^ 32 + s.getN Reg.TIM_SET_SEC, s.getN Reg.TIM_SET_NS)
    let stepped := fun (u : State) => u.flag Reg.TIM_EVT 0 = true ∧ u.flag Reg.TIM_STAT 0 = true ∧ u.flag Reg.TIM_STAT 2 = false
      ∧ u.fld Reg.TIM_CNT_STEP 15 0 = min (s.fld Reg.TIM_CNT_STEP 15 0 + 1) 0xFFFF
    (s.timeLocked = false → s.getN Reg.TIM_SET_NS < 1000000000 → Acts (.timSet (.core n)) s fun u => (u.tim.sec, u.tim.ns) = goal ∧ stepped u)
      ∧ (s.timeLocked = false → let goal : Int := ((s.tim.sec * 1000000000 + s.tim.ns : Nat) : Int) + signed 32 (s.getN Reg.TIM_STEP_NS)
          0 ≤ goal → goal < 2 ^ 48 * 1000000000 → Acts (.timStep (.core n)) s fun u =>
            ((u.tim.sec * 1000000000 + u.tim.ns : Nat) : Int) = goal ∧ u.tim.ns < 1000000000 ∧ stepped u)
      ∧ (∀ (r : Fin 5) (x : Nat), s.tim.latched[r.val]? = some x → Completes (.timeRead r) s fun t => t.tim.latched[r.val]? = some s.tim.sec ∧ s.Keeps t [])
      ∧ (∀ v : Word, finite32 v.toNat = true → s.timSource = 1 → Completes (.ptpSample (.core n) v) s fun t =>
          t.tim.samples = s.tim.samples ++ [(Fl.of32 v.toNat, true)] ∧ s.Keeps t [])
      ∧ (∀ v : Word, s.tim.samples = [(Fl.of32 v.toNat, true)] → let u := s.servoTick
          (s.tim.stepTick = some s.tickNo → u.flag Reg.TIM_EVT 3 = true ∧ u.getN Reg.TIM_SRV_INTEG = s.getN Reg.TIM_SRV_INTEG)
            ∧ (s.tim.stepTick ≠ some s.tickNo → s.flag Reg.TIM_SRV_CFG 4 = false →
              let lim := Fl.ofNat (if s.timeLocked then s.fld Reg.TIM_SRV_CFG 24 16 * 1000 else 500000)
              let i := Fl.add (Fl.of32 (s.getN Reg.TIM_SRV_INTEG)) (Fl.mul (Fl.of32 (s.getN Reg.TIM_SRV_KI0)) (Fl.of32 v.toNat))
              u.getN Reg.TIM_SRV_INTEG = Fl.to32 (Fl.round32 (Fl.min2 (Fl.max2 i lim.neg) lim)) % 2 ^ 32 ∧ u.tim.sampleTick = s.tickNo
                ∧ u.getN Reg.TIM_SRV_LAST = Fl.to32 (Fl.of32 v.toNat) % 2 ^ 32 ∧ u.flag Reg.TIM_STAT 3 = false
                ∧ u.fld Reg.TIM_CNT_SAMPLE 15 0 = min (s.fld Reg.TIM_CNT_SAMPLE 15 0 + 1) 0xFFFF))
      ∧ (∀ v : Word, finite32 v.toNat = true → s.timSource ≠ 1 → Completes (.ptpSample (.core n) v) s fun t => t.tim = s.tim ∧ t.flag Reg.TIM_EVT 3 = true
          ∧ t.fld Reg.TIM_CNT_STEP 31 16 = min (s.fld Reg.TIM_CNT_STEP 31 16 + 1) 0xFFFF ∧ s.Keeps t [Reg.TIM_EVT, Reg.TIM_CNT_STEP])
      ∧ (s.servoDue = true → Acts .servoHoldover s fun u => u.flag Reg.TIM_STAT 3 = true ∧ u.flag Reg.TIM_EVT 2 = true ∧ u.flag Reg.TIM_STAT 2 = false
          ∧ u.getN Reg.TIM_SRV_INTEG = s.getN Reg.TIM_SRV_INTEG)
      ∧ (∀ k : Fin 8, (s.cmpDue k = true → Acts (.timeComparatorMatch k) s fun u => u.flag (Reg.TIM_CMP_STAT k) 1 = true ∧ 0x008 + k.val ∈ u.cores.evts
            ∧ u.getN (Reg.TIM_CMP_CNT k) = min (s.getN (Reg.TIM_CMP_CNT k) + 1) 0xFFFFFFFF ∧ u.flag (Reg.TIM_CMP_STAT k) 0 = decide (s.getN (Reg.TIM_CMP_PER k) ≠ 0))
          ∧ Completes (.timCmpArm (.core n) k) s (fun t => t.flag (Reg.TIM_CMP_STAT k) 0 = true ∧ s.Keeps t [Reg.TIM_CMP_STAT k])
          ∧ Completes (.timCmpDisarm (.core n) k) s (fun t => t.flag (Reg.TIM_CMP_STAT k) 0 = false ∧ s.Keeps t [Reg.TIM_CMP_STAT k]))
      ∧ (∀ (p : Fin 2) q, s.tim.txq[p.val]? = some q → q.length ≤ 4 →
          let next := q.drop 1 ++ ((s.tim.txLate.filter fun x => x.1 == p.val).take 1).map Prod.snd
          Completes (.timTxqPop (.core n) p) s fun t => t.tim.txq[p.val]? = some next ∧ t.fld (Reg.TIM_TXQ_STAT p) 2 0 = next.length ∧ s.Keeps t [Reg.TIM_TXQ_STAT p, Reg.TIM_TXQ_ID p, Reg.TIM_TXQ_SEC p, Reg.TIM_TXQ_NS p])
      ∧ Completes (.timCntClr src) s fun t => t.getN Reg.TIM_CNT_STEP = 0 ∧ t.getN Reg.TIM_CNT_SAMPLE = 0
          ∧ (∀ p < 2, t.fld (Reg.TIM_TXQ_STAT p) 31 16 = 0) ∧ ∀ k < 8, t.getN (Reg.TIM_CMP_CNT k) = 0 ∧ t.fld (Reg.TIM_CMP_STAT k) 31 16 = 0

/-! ## Ethernet and CAN -/

/-- The Ethernet ports. A frame that the software ring admits is stored with its length at the ring's head and HEAD advances; one that is too short, or whose FCS
is wrong, is only counted; the end of a frame on the line empties it, counts it, and completes a software descriptor; the link comes up, by synchronisation alone or
by auto-negotiation, and goes down; the ring controls; CLR. That one row tells of synchronisation and of auto-negotiation is the model's choice (log entry 230). -/
def Obligations.EthernetPorts : Prop :=
  ∀ (src : Src) (n : Fin 4) (p : Fin 2) (s : State), s.Awake → s.Sends src → s.coreWrites n = true →
    let count := fun (k : Nat) (u : State) => u.getN (Reg.ETH_CNT p k) = min (s.getN (Reg.ETH_CNT p k) + 1) 0xFFFFFFFF
    let bads := fun (n : Nat) (t : State) => t.getN (Reg.ETH_CNT p 3) = min (s.getN (Reg.ETH_CNT p 3) + n) 0xFFFFFFFF
    (∀ f ok bad pos, s.ethOn p = true → s.linkUp p = true → f.length < 60 ∨ 1518 < f.length → Completes (.ethFrameReceive p f ok bad pos) s fun t =>
        count 2 t ∧ bads bad t ∧ s.Keeps t [Reg.ETH_CNT p 2, Reg.ETH_CNT p 3])
      ∧ (∀ f bad pos, s.ethOn p = true → s.linkUp p = true → 60 ≤ f.length → f.length ≤ 1518 → Completes (.ethFrameReceive p f false bad pos) s fun t =>
        count 1 t ∧ bads bad t ∧ s.Keeps t [Reg.ETH_CNT p 1, Reg.ETH_CNT p 3])
      ∧ (∀ f pos, let d := s.descAt (Reg.ETH_RXR_BASE p) (s.fld (Reg.ETH_RXR_HEAD p) 9 0)
          let b := s.memN d 4
          s.ethOn p = true → s.linkUp p = true → 60 ≤ f.length → f.length ≤ 1518 → (ethHead f).etype ≠ 0x8808 → s.ethReply? p f = none → datagram? f = none →
          s.rxAdmits p (ethHead f).dst = true → s.flag (Reg.ETH_STAT p) 4 = true → s.fld (Reg.ETH_RXR_HEAD p) 9 0 ≠ s.fld (Reg.ETH_RXR_TAIL p) 9 0 →
          bitAt (s.memN (d + 8) 1) 7 = true → State.inShared d = true → State.inShared (d + 15) = true → State.inShared b = true → State.inShared (b + 1535) = true →
          d + 16 ≤ b ∨ b + 1536 ≤ d → Acts (.ethFrameReceive p f true 0 pos) s fun u =>
            count 0 u ∧ u.bytesAt b f.length = f ∧ u.memN (d + 4) 2 = f.length ∧ bitAt (u.memN (d + 8) 1) 7 = false ∧ u.flag (Reg.ETH_EVT p) 4 = true
              ∧ u.getN (Reg.ETH_RXR_HEAD p) = (s.getN (Reg.ETH_RXR_HEAD p) + 1) % max 1 (s.fld (Reg.ETH_RXR_CFG p) 10 0))
      ∧ (∀ f pos, s.ethOn p = true → (s.ethSt p).cur = some f → s.ethLeft p = true → Acts (.ethFrameSent p pos) s fun u => (u.ethSt p).cur = none ∧ count 8 u
          ∧ (f.kind = 0 → count 17 u) ∧ (f.kind = 1 → count 7 u) ∧ (f.kind = 2 → count 14 u)
          ∧ (f.kind = 3 → f.desc.isSome = true → u.flag (Reg.ETH_EVT p) 3 = true
              ∧ u.getN (Reg.ETH_TXR_HEAD p) = (s.getN (Reg.ETH_TXR_HEAD p) + 1) % max 1 (s.fld (Reg.ETH_TXR_CFG p) 10 0)))
      ∧ (∀ lp, s.ethOn p = true → s.linkUp p = false →
          (s.flag (Reg.ETH_CFG p) 2 = false → Acts (.ethLinkUp p lp) s fun u =>
              u.linkUp p = true ∧ u.flag (Reg.ETH_STAT p) 1 = true ∧ u.flag (Reg.ETH_EVT p) 1 = true)
            ∧ (∀ x, s.flag (Reg.ETH_CFG p) 2 = true → lp = some x → Acts (.ethLinkUp p lp) s fun u => u.linkUp p = bitAt x 5 ∧ u.flag (Reg.ETH_STAT p) 1 = true
              ∧ u.flag (Reg.ETH_STAT p) 2 = true ∧ u.getN (Reg.ETH_AN_LP p) = x % 65536 ∧ (bitAt x 5 = true → u.flag (Reg.ETH_EVT p) 1 = true))
            ∧ (s.flag (Reg.ETH_CFG p) 2 = true → lp = none → Completes (.ethLinkUp p lp) s fun t =>
              t.linkUp p = false ∧ t.flag (Reg.ETH_STAT p) 1 = true ∧ s.Keeps t [Reg.ETH_STAT p]))
      ∧ (s.linkUp p = false → s.flag (Reg.ETH_STAT p) 1 = true → Completes (.ethLinkDown p) s fun t =>
          t.fld (Reg.ETH_STAT p) 2 0 = 0 ∧ s.Keeps t [Reg.ETH_STAT p])
      ∧ (s.linkUp p = true → Acts (.ethLinkDown p) s fun u => u.linkUp p = false ∧ u.flag (Reg.ETH_EVT p) 0 = true ∧ (u.ethSt p).cur = none)
      ∧ Completes (.txStart (.core n) p) s (fun t => t.flag (Reg.ETH_STAT p) 3 = true ∧ t.getN (Reg.ETH_TXR_HEAD p) = 0 ∧ t.getN (Reg.ETH_TXR_TAIL p) = 0
          ∧ s.Keeps t [Reg.ETH_STAT p, Reg.ETH_TXR_HEAD p, Reg.ETH_TXR_TAIL p])
      ∧ Completes (.txStop (.core n) p) s (fun t => t.flag (Reg.ETH_STAT p) 3 = false ∧ s.Keeps t [Reg.ETH_STAT p])
      ∧ Completes (.rxStart (.core n) p) s (fun t => t.flag (Reg.ETH_STAT p) 4 = true ∧ t.getN (Reg.ETH_RXR_HEAD p) = 0 ∧ t.getN (Reg.ETH_RXR_TAIL p) = 0
          ∧ s.Keeps t [Reg.ETH_STAT p, Reg.ETH_RXR_HEAD p, Reg.ETH_RXR_TAIL p])
      ∧ Completes (.rxStop (.core n) p) s (fun t => t.flag (Reg.ETH_STAT p) 4 = false ∧ s.Keeps t [Reg.ETH_STAT p])
      ∧ Completes (.ethCntClr src p) s fun t => (∀ k < 18, t.getN (Reg.ETH_CNT p k) = 0) ∧ s.Keeps t ((List.range 18).map (Reg.ETH_CNT p))

/-- The CAN controllers. A received frame fills the lowest empty buffer that matches or is lost; the pending buffer that contends first goes on the bus, its end leaves it DONE, an
error counts and returns it to PENDING; requests, cancels, reads and the matrix move the buffers' states; bus-off ends by recovery; START, STOP, CLR.
Where the identifier of a received frame goes, that a word 0 written during the frame stands, and how the error counters' steps come with the row are the model's
choices (log entries 154, 229 and 156). -/
def Obligations.CanControllers : Prop :=
  ∀ (src : Src) (n : Fin 4) (c : Fin 2) (s : State), s.Awake → s.Sends src → s.coreWrites n = true →
    let count := fun (k : Nat) (u : State) => u.getN (Reg.CAN_CNT c k) = min (s.getN (Reg.CAN_CNT c k) + 1) 0xFFFFFFFF
    let shown := [0, 1].flatMap fun k => [Reg.CAN_TXPEND c k, Reg.CAN_RXFULL c k, Reg.CAN_RXLOCK c k]
    (∀ ide id fdf brs esi dlc data sof, let fits := fun b => s.bufTakes c b 0 (32 * s.tickNo - sof) ide id
        let frame := Instr.canFrameReceived c ide id fdf brs esi false dlc data sof
        s.canHears c fdf sof = true →
        (∀ b, (List.range 64).find? fits = some b → Acts frame s fun u => u.bufDir c b = 1 ∧ u.bufState c b = 1 ∧ count 0 u ∧ 0x040 + 4 * c.val ∈ u.cores.evts
            ∧ (s.bufWord c b 0 = (s.filterAt c b (32 * s.tickNo - sof)).1 → u.bufWord c b 0 % 2 ^ 29 = id % 2 ^ 29) ∧ u.bufWord c b 1 % 16 = dlc % 16
            ∧ u.fld (Reg.CAN_RXSEQ c) 15 0 = (s.fld (Reg.CAN_RXSEQ c) 15 0 + 1) % 65536
            ∧ (State.dlcLen dlc fdf ≤ data.length → u.bytesAt (State.canBuf c b + 20) (State.dlcLen dlc fdf) = data.take (State.dlcLen dlc fdf)))
          ∧ ((List.range 64).find? fits = none → Acts frame s fun u => count 1 u ∧ u.flag (Reg.CAN_EVT c) 0 = true))
      ∧ (∀ pos b x, pos < 32 → s.canMaySend c = true → s.canNext c = some b → s.can[c.val]? = some x → Acts (.canTxStart c pos) s fun u =>
          u.bufState c b = 4 ∧ (u.canSt c).onBus = some b ∧ (u.canSt c).sof = s.stamp pos)
      ∧ (∀ b < 64, s.canOnBus c = true → (s.canSt c).onBus = some b → s.frameRan c = true → s.canMode c ≠ 3 → Acts (.canFrameSent c) s fun u =>
          u.bufState c b = 5 ∧ (u.canSt c).onBus = none ∧ count 2 u ∧ u.flag (Reg.CAN_TXDONE c (b / 32)) (b % 32) = true)
      ∧ (∀ kind data dt dr, s.canOnBus c = true → s.canJoined c (32 * (s.tickNo + 1)) = true → 1 ≤ kind → kind ≤ 6 → s.isoSteps c kind dt dr = true → s.tec c ≤ 255 →
          let t := if s.canMode c = 1 ∨ s.canMode c = 2 then s.tec c else s.tec c + dt
          Acts (.canError c kind data dt dr) s fun u => u.fld (Reg.CAN_LEC c) 10 8 = kind ∧ count 6 u ∧ u.tec c = t ∧ u.busOff c = decide (255 < t))
      ∧ (∀ b data dt dr, b < 64 → s.canOnBus c = true → s.canJoined c (32 * (s.tickNo + 1)) = true → (s.canSt c).onBus = some b → Acts (.canError c 0 data dt dr) s fun u =>
          u.bufState c b = (if bitAt (s.bufWord c b 1) 11 then 6 else 3) ∧ (u.canSt c).onBus = none)
      ∧ (s.busOff c = true → (s.canSt c).boTick ≠ some s.tickNo → Completes (.canRecover (.core n) c) s fun t => t.fld (Reg.CAN_STAT c) 10 8 = 1
          ∧ s.Keeps t [Reg.CAN_STAT c])
      ∧ (s.recoverDue c = true → Completes (.canRecoveryDone c) s fun t => t.fld (Reg.CAN_STAT c) 10 8 = 0 ∧ t.busOff c = false ∧ t.tec c = 0
          ∧ t.canRec c = 0 ∧ t.flag (Reg.CAN_EVT c) 4 = true ∧ s.Keeps t [Reg.CAN_STAT c, Reg.CAN_ERR c, Reg.CAN_EVT c])
      ∧ (s.sys.recipeOk = true → Completes (.canStart (.core n) c) s fun t => t.canStopped c = false ∧ s.Keeps t [Reg.CAN_STAT c])
      ∧ Acts (.canStop (.core n) c) s (fun u => u.canStopped c = true ∧ u.fld (Reg.CAN_STAT c) 10 8 = 0
          ∧ ((s.canSt c).onBus = none → ∀ b < 64, s.bufDir c b = 1 → s.bufState c b = 2 → u.bufState c b = 0))
      ∧ (∀ (k : Fin 2) (mask : Word) (i : Nat), i < 32 → mask.getLsbD i = true → let b := 32 * k.val + i
          (s.bufDir c b = 2 → s.bufState c b ≠ 3 → s.bufState c b ≠ 4 → bitAt (s.bufWord c b 1) 5 = false ∨ s.flag (Reg.CAN_CFG c) 4 = true →
              (s.canSt c).cancTick ≠ s.tickNo → Acts (.canTxreq (.core n) c k mask) s fun u => u.bufState c b = 3)
            ∧ (s.bufDir c b = 2 → s.bufState c b = 3 → Acts (.canTxcan (.core n) c k mask) s fun u => u.bufState c b = 6)
            ∧ (s.bufDir c b = 2 → s.bufState c b = 4 → Acts (.canTxcan (.core n) c k mask) s fun u =>
                if 32 * s.tickNo < s.arbEnd c b then u.bufState c b = 6 else u.bufState c b = 4 ∧ bitAt (u.bufWord c b 1) 11 = true))
      ∧ (∀ b < 64, s.bufDir c b = 1 → (s.bufState c b = 1 → Completes (.canBufferLock c b) s fun t => t.bufState c b = 2 ∧ s.KeepsBut t shown (State.canBuf c b + 4) 4)
          ∧ (s.bufState c b = 1 ∨ s.bufState c b = 2 → Completes (.canBufferRelease c b) s fun t => t.bufState c b = 0
              ∧ s.KeepsBut t shown (State.canBuf c b + 4) 4))
      ∧ (s.columnDue c = true → (s.canSt c).matrix = [] → Acts (.ttColumnStart c) s fun u => u.fld (Reg.CAN_TT_STAT c) 5 0 = s.columnNow c
          ∧ ∀ b ∈ s.columnBufs c (s.columnNow c), s.bufDir c b = 2 → s.bufState c b ≠ 3 → s.bufState c b ≠ 4 →
              bitAt (s.bufWord c b 1) 5 = false ∨ s.flag (Reg.CAN_CFG c) 4 = true → (s.canSt c).cancTick ≠ s.tickNo → u.bufState c b = 3)
      ∧ Completes (.canCntClr src c) s fun t => (∀ k < 8, t.getN (Reg.CAN_CNT c k) = 0) ∧ s.Keeps t ((List.range 8).map (Reg.CAN_CNT c))

/-! ## Cores, interrupts, event counters, debug -/

/-- The cores and what serves them. Entry of an interrupt moves its source from pending to active, saves the context at its level and vectors the core; icuret begins
the exit; software interrupts become pending; WFI, wake, lockstep mismatch, debug halt and resume; SNAP and CLR of the event counters; scans of the JTAG port, whose
DMI accesses do nothing while debug access is closed, and with which a debugger writes, reads and, by the program buffer (here addi x8, x8, 1 and ebreak), adds one to
x8 of a halted core.
The layouts of the debug module's registers are presumed from the document that the spec names (log entry 163). -/
def Obligations.CoresAndDebug : Prop :=
  ∀ (src : Src) (n m : Fin 4) (x : CoreSt) (s : State), s.Awake → s.Sends src → s.coreWrites m = true → s.cores.core[n.val]? = some x →
    (∀ pc ms (mtvec : Word) priv i p, let at0 := s.entryCtx n pc ms priv
        s.coreFree n = true → priv = 0 ∨ priv = 3 → s.icuDeliver n (bitAt at0.2.1.toNat 3) = some (i, p) → i < 320 →
        Acts (.icuEntry n pc ms mtvec priv) s fun u => u.icuPending i = false ∧ u.icuActive i = true ∧ (u.coreSt n).level = some p
          ∧ (u.coreSt n).entry = some (s.tickNo, i) ∧ (u.coreSt n).pc = BitVec.ofNat 32 (mtvec.toNat / 4 * 4 + 4 * (16 + i)) ∧ (u.coreSt n).priv = 3
          ∧ (u.coreSt n).slots.head? = some (p, { src := i, pc := at0.1, mstatus := at0.2.1, priv := at0.2.2, level := x.level }))
      ∧ (s.coreRuns n = true → s.coreFree n = true → (x.level = none → Completes (.icuReturn n) s fun t => t.flag Reg.ICU_STAT 17 = true ∧ s.Keeps t [Reg.ICU_STAT])
          ∧ (∀ l, x.level = some l → Completes (.icuReturn n) s fun t => (t.coreSt n).exit = some s.tickNo ∧ s.Keeps t [Reg.ICU_TGT_STAT]))
      ∧ (∀ (mask : Word) (j : Nat), j < 8 → mask.getLsbD j = true → bitAt (s.icuCfg (56 + j)) 4 = true → (56 + j) ∉ s.cores.fired → s.icuActive (56 + j) = false →
          (∀ y ∈ s.cores.core, y.entry = none) → Completes (.icuSwi (.core m) mask) s fun t => t.icuPending (56 + j) = true ∧ s.Keeps t icuRegs)
      ∧ Completes (.icuClr src) s (fun t => t.getN Reg.ICU_LOST = 0 ∧ t.flag Reg.ICU_STAT 17 = false ∧ s.Keeps t [Reg.ICU_LOST, Reg.ICU_STAT])
      ∧ (∀ deep pc ms, s.coreRuns n = true → s.coreFree n = true → Completes (.coreWfi n deep pc ms) s fun t => (t.coreSt n).asleep = deep
          ∧ (t.coreSt n).waiting = true ∧ (t.coreSt n).pc = pc ∧ s.Keeps t [Reg.ICU_TGT_STAT])
      ∧ (s.wakeWaits n = true → Completes (.coreWake n) s fun t => (t.coreSt n).asleep = false ∧ (t.coreSt n).pc = x.pc ∧ s.Keeps t [Reg.ICU_TGT_STAT])
      ∧ (x.released = true → x.stopped = false → Acts (.lockstepMismatch n) s fun u => (u.coreSt n).stopped = true ∧ u.condition (0x83 + n) = true)
      ∧ (∀ cause pc, 1 ≤ cause → cause ≤ 4 → s.haltOk n cause = true → Acts (.debugHalt n cause pc) s fun u => (u.coreSt n).halted = true
          ∧ (u.coreSt n).haltCause = cause ∧ (u.coreSt n).pc = pc ∧ (s.flag Reg.PWM_CTRL n = true → u.flag Reg.PWM_STAT 4 = true))
      ∧ (x.halted = true → Acts (.debugResume n) s fun u => (u.coreSt n).halted = false ∧ (u.coreSt n).resumeAck = true ∧ (u.coreSt n).pc = x.pc)
      ∧ (∀ mask : Word, Completes (.evcSnap src mask) s (fun t => t.cores.evc = s.cores.evc ∧ t.getN Reg.EVC_SNAP_CYC = s.cycle ∧ ∀ k < 32, mask.getLsbD k = true →
            t.getN (Reg.EVC_SNAP_LO k) = s.evcBefore k % 2 ^ 32 ∧ t.getN (Reg.EVC_SNAP_HI k) = s.evcBefore k / 2 ^ 32 % 2 ^ 32)
          ∧ Completes (.evcClr src mask) s fun t => ∀ k < 32, if mask.getLsbD k = true then t.cores.evc.getD k 0 = 0 ∧ t.getN (Reg.EVC_LIVE k) = 0
            else t.cores.evc.getD k 0 = s.cores.evc.getD k 0 ∧ t.get (Reg.EVC_LIVE k) = s.get (Reg.EVC_LIVE k))
      ∧ (∀ scan addr v, s.debugOpen = false → Completes (.dmiAccess scan addr v) s fun t => s.Keeps t [] ∧ t.cores.core = s.cores.core
          ∧ t.cores.dm.data0 = s.dm.data0 ∧ t.cores.dm.active = s.dm.active ∧ t.cores.dm.req = s.dm.req
          ∧ (scan = .dmi 2 → t.cores.dm.out = s.dm.out) ∧ (scan = .dmi 1 → t.cores.dm.out = if addr = 0x11 then 2 else 0))
      ∧ (∀ scan addr v, (scan = .reg 0x01 ∨ scan = .reg 0x10 ∨ scan = .reg 0x1F) → Completes (.dmiAccess scan addr v) s fun t => s.Keeps t []
          ∧ t.cores.core = s.cores.core ∧ (scan = .reg 0x01 → t.dm.cap = 0x30144001) ∧ (scan = .reg 0x10 → t.dm.cap = 0x71) ∧ (scan = .reg 0x1F → t.dm.cap = 0))
      ∧ (∀ addr v, s.debugOpen = true → s.debugScope = true → s.dm.active = true → s.dm.hartsel = n.val → s.debugNames n = true → x.halted = true → s.dm.cmderr = 0 →
          addr = 0x17 → let run := Instr.dmiAccess (.dmi 2) addr v
          (v = 0x00231008 → Completes run s fun t => (t.coreSt n).x.lookup 8 = some s.dm.data0 ∧ t.dm.cmderr = 0 ∧ s.Keeps t [])
            ∧ (∀ w, x.x.lookup 8 = some w → (v = 0x00221008 → Completes run s fun t => t.dm.data0 = w ∧ t.cores.core = s.cores.core ∧ s.Keeps t [])
              ∧ (v = 0x00240000 → s.dm.progbuf0 = 0x00140413 → s.dm.progbuf1 = 0x00100073 → Completes run s fun t =>
                (t.coreSt n).x.lookup 8 = some (w + 1) ∧ t.dm.cmderr = 0 ∧ s.Keeps t [])))
      ∧ ∀ v, s.debugOpen = true → s.dm.active = true → bitAt s.dm.autoexec.toNat 0 = false →
          Completes (.dmiAccess (.dmi 2) 0x04 v) s (fun t => t.cores.dm.data0 = v ∧ s.Keeps t [])
            ∧ Completes (.dmiAccess (.dmi 1) 0x04 v) s fun t => t.cores.dm.out = s.dm.data0 ∧ t.cores.dm.data0 = s.dm.data0 ∧ s.Keeps t []
end

