-- ==== Sys2Proof/Laws/Assoc.lean ====
section
/-!
SUPPORT. Sparse data by key: what a read gives after a write, and that a write keeps the canonical form.
-/
namespace Sys2Proof.Machine
variable {α : Type}

@[simp] theorem Assoc.get_del_same (d : α) (l : List (Nat × α)) (a : Nat) : Assoc.get d (Assoc.del l a) a = d := by
  induction l with
  | nil => rfl
  | cons x l ih =>
    obtain ⟨k, v⟩ := x
    by_cases h : k = a <;> simp [Assoc.del, Assoc.get, h, ih]

theorem Assoc.get_del_ne (d : α) (l : List (Nat × α)) (a b : Nat) (h : b ≠ a) : Assoc.get d (Assoc.del l a) b = Assoc.get d l b := by
  induction l with
  | nil => rfl
  | cons x l ih =>
    obtain ⟨k, v⟩ := x
    by_cases h1 : k = a
    · subst h1; simp [Assoc.del, Assoc.get, ih, h.symm]
    · simp [Assoc.del, Assoc.get, ih, h1]

@[simp] theorem Assoc.get_ins_same (d : α) (l : List (Nat × α)) (a : Nat) (v : α) : Assoc.get d (Assoc.ins l a v) a = v := by
  induction l with
  | nil => simp [Assoc.ins, Assoc.get]
  | cons x l ih =>
    obtain ⟨k, w⟩ := x
    by_cases h : k = a
    · simp [Assoc.ins, Assoc.get, h]
    · by_cases h2 : a < k <;> simp [Assoc.ins, Assoc.get, h, h2, ih]

theorem Assoc.get_ins_ne (d : α) (l : List (Nat × α)) (a b : Nat) (v : α) (h : b ≠ a) :
    Assoc.get d (Assoc.ins l a v) b = Assoc.get d l b := by
  induction l with
  | nil => simp [Assoc.ins, Assoc.get, h.symm]
  | cons x l ih =>
    obtain ⟨k, w⟩ := x
    by_cases h1 : k = a
    · subst h1; simp [Assoc.ins, Assoc.get, h.symm]
    · by_cases h2 : a < k <;> simp [Assoc.ins, Assoc.get, h1, h2, ih, h.symm]

/-- A read after a write to the same key gives the value written. -/
@[simp] theorem Assoc.get_set_same [DecidableEq α] (d : α) (l : List (Nat × α)) (a : Nat) (v : α) : Assoc.get d (Assoc.set d l a v) a = v := by
  by_cases h : v = d <;> simp [Assoc.set, h]

/-- A write leaves every other key as it was. -/
theorem Assoc.get_set_ne [DecidableEq α] (d e : α) (l : List (Nat × α)) (a b : Nat) (v : α) (h : b ≠ a) :
    Assoc.get e (Assoc.set d l a v) b = Assoc.get e l b := by
  by_cases h2 : v = d <;> simp [Assoc.set, h2, Assoc.get_del_ne, Assoc.get_ins_ne, h]

/-! ## The canonical form -/

/-- Every key of the list lies above b. -/
def Assoc.above (b : Nat) (l : List (Nat × α)) : Prop := ∀ x ∈ l, b < x.1

/-- The canonical form of a list with a head: its value is no default, its key lies below the others, and the rest is canonical. -/
theorem Assoc.wf_cons [DecidableEq α] (d : Nat → α) (k : Nat) (v : α) (l : List (Nat × α)) :
    Assoc.wf d ((k, v) :: l) = true ↔ v ≠ d k ∧ Assoc.above k l ∧ Assoc.wf d l = true := by
  induction l generalizing k v with
  | nil => simp [Assoc.wf, Assoc.above]
  | cons x l ih =>
    obtain ⟨k2, v2⟩ := x
    simp only [Assoc.wf, Bool.and_eq_true, decide_eq_true_eq]
    constructor
    · rintro ⟨⟨h1, h2⟩, h3⟩
      refine ⟨h1, ?_, h3⟩
      intro y hy
      rcases List.mem_cons.1 hy with rfl | hy
      · exact h2
      · exact Nat.lt_trans h2 (((ih k2 v2).1 h3).2.1 y hy)
    · rintro ⟨h1, h2, h3⟩
      exact ⟨⟨h1, h2 _ (List.mem_cons_self ..)⟩, h3⟩

theorem Assoc.mem_del (l : List (Nat × α)) (a : Nat) (x : Nat × α) (h : x ∈ Assoc.del l a) : x ∈ l := by
  induction l with
  | nil => exact h
  | cons y l ih =>
    obtain ⟨k, v⟩ := y
    by_cases h1 : k = a
    · simp only [Assoc.del, h1, if_true] at h; exact List.mem_cons_of_mem _ (ih h)
    · simp only [Assoc.del, h1, if_false] at h
      rcases List.mem_cons.1 h with rfl | h
      · exact List.mem_cons_self ..
      · exact List.mem_cons_of_mem _ (ih h)

theorem Assoc.mem_ins (l : List (Nat × α)) (a : Nat) (v : α) (x : Nat × α) (h : x ∈ Assoc.ins l a v) : x = (a, v) ∨ x ∈ l := by
  induction l with
  | nil => exact Or.inl (by simpa [Assoc.ins] using h)
  | cons y l ih =>
    obtain ⟨k, w⟩ := y
    simp only [Assoc.ins] at h
    split at h
    · rcases List.mem_cons.1 h with h | h
      · exact Or.inl h
      · exact Or.inr (List.mem_cons_of_mem _ h)
    · split at h
      · rcases List.mem_cons.1 h with h | h
        · exact Or.inl h
        · exact Or.inr h
      · rcases List.mem_cons.1 h with h | h
        · exact Or.inr (h ▸ List.mem_cons_self ..)
        · exact (ih h).imp id (List.mem_cons_of_mem _)

theorem Assoc.wf_del [DecidableEq α] (d : Nat → α) (l : List (Nat × α)) (a : Nat) (h : Assoc.wf d l = true) : Assoc.wf d (Assoc.del l a) = true := by
  induction l with
  | nil => rfl
  | cons y l ih =>
    obtain ⟨k, v⟩ := y
    rw [Assoc.wf_cons] at h
    by_cases h1 : k = a
    · simpa [Assoc.del, h1] using ih h.2.2
    · simp only [Assoc.del, h1, if_false]
      exact (Assoc.wf_cons ..).2 ⟨h.1, fun x hx => h.2.1 x (Assoc.mem_del _ _ _ hx), ih h.2.2⟩

theorem Assoc.wf_ins [DecidableEq α] (d : Nat → α) (l : List (Nat × α)) (a : Nat) (v : α) (hv : v ≠ d a) (h : Assoc.wf d l = true) :
    Assoc.wf d (Assoc.ins l a v) = true := by
  induction l with
  | nil => simpa [Assoc.ins, Assoc.wf] using hv
  | cons y l ih =>
    obtain ⟨k, w⟩ := y
    have hc := (Assoc.wf_cons ..).1 h
    simp only [Assoc.ins]
    split
    · subst_vars; exact (Assoc.wf_cons ..).2 ⟨hv, hc.2⟩
    · split
      · refine (Assoc.wf_cons ..).2 ⟨hv, ?_, h⟩
        intro x hx
        rcases List.mem_cons.1 hx with rfl | hx
        · assumption
        · exact Nat.lt_trans (by assumption) (hc.2.1 x hx)
      · refine (Assoc.wf_cons ..).2 ⟨hc.1, ?_, ih hc.2.2⟩
        intro x hx
        rcases Assoc.mem_ins _ _ _ _ hx with rfl | hx
        · show k < a
          omega
        · exact hc.2.1 x hx

/-- A write keeps the canonical form. -/
theorem Assoc.wf_set [DecidableEq α] (d : Nat → α) (l : List (Nat × α)) (a : Nat) (v : α) (h : Assoc.wf d l = true) :
    Assoc.wf d (Assoc.set (d a) l a v) = true := by
  unfold Assoc.set
  split
  · exact Assoc.wf_del d l a h
  · exact Assoc.wf_ins d l a v (by assumption) h

/-- Leaving entries out keeps the canonical form. -/
theorem Assoc.wf_filter [DecidableEq α] (d : Nat → α) (l : List (Nat × α)) (p : Nat × α → Bool) (h : Assoc.wf d l = true) :
    Assoc.wf d (l.filter p) = true := by
  induction l with
  | nil => rfl
  | cons y l ih =>
    obtain ⟨k, v⟩ := y
    have hc := (Assoc.wf_cons ..).1 h
    simp only [List.filter]
    split
    · exact (Assoc.wf_cons ..).2 ⟨hc.1, fun x hx => hc.2.1 x (List.mem_filter.1 hx).1, ih hc.2.2⟩
    · exact ih hc.2.2

end Sys2Proof.Machine
end

