-- ==== Sys2Proof/Laws/State.lean ====
section
/-!
SUPPORT. Reads after writes of registers and memory bytes, and what the named operations of Machine/Ops.lean leave as it was.
-/
namespace Sys2Proof.Machine
namespace State

/-! ## Registers -/

@[simp] theorem resetVal_put (s : State) (a : Nat) (v : Word) (b : Nat) : (s.put a v).resetVal b = s.resetVal b := rfl

/-- A register reads as it was written. -/
@[simp] theorem get_put_same (s : State) (a : Nat) (v : Word) : (s.put a v).get a = v := by
  simp [get, put, resetVal]

/-- A write leaves every other register as it was. -/
theorem get_put_ne (s : State) (a b : Nat) (v : Word) (h : b ≠ a) : (s.put a v).get b = s.get b := by
  simp only [get, put, resetVal]
  exact Assoc.get_set_ne _ _ _ _ _ _ h

@[simp] theorem getN_putN_same (s : State) (a n : Nat) : (s.putN a n).getN a = n % 2 ^ 32 := by
  simp [getN, putN]

theorem getN_putN_ne (s : State) (a b n : Nat) (h : b ≠ a) : (s.putN a n).getN b = s.getN b := by
  simp only [getN, putN]; rw [get_put_ne _ _ _ _ h]

theorem get_putN_ne (s : State) (a b n : Nat) (h : b ≠ a) : (s.putN a n).get b = s.get b := get_put_ne _ _ _ _ h

theorem get_setFld_ne (s : State) (a b hi lo n : Nat) (h : b ≠ a) : (s.setFld a hi lo n).get b = s.get b := get_put_ne _ _ _ _ h

theorem getN_setFld_ne (s : State) (a b hi lo n : Nat) (h : b ≠ a) : (s.setFld a hi lo n).getN b = s.getN b := by
  simp only [getN]; rw [get_setFld_ne _ _ _ _ _ _ h]

theorem get_setFlag_ne (s : State) (a b i : Nat) (v : Bool) (h : b ≠ a) : (s.setFlag a i v).get b = s.get b := get_put_ne _ _ _ _ h

theorem getN_setFlag_ne (s : State) (a b i : Nat) (v : Bool) (h : b ≠ a) : (s.setFlag a i v).getN b = s.getN b := getN_setFld_ne _ _ _ _ _ _ h

theorem get_inc_ne (s : State) (a b : Nat) (h : b ≠ a) : (s.inc a).get b = s.get b := get_put_ne _ _ _ _ h

theorem get_incFld_ne (s : State) (a b hi lo : Nat) (h : b ≠ a) : (s.incFld a hi lo).get b = s.get b := get_put_ne _ _ _ _ h

theorem get_addFld_ne (s : State) (a b hi lo n : Nat) (h : b ≠ a) : (s.addFld a hi lo n).get b = s.get b := get_put_ne _ _ _ _ h

theorem get_stick_ne (s : State) (a b i : Nat) (h : b ≠ a) : (s.stick a i).get b = s.get b := get_setFlag_ne s a b i true h

/-- The value of an active register after a write of it, and of the others. -/
@[simp] theorem act_putAct_same (s : State) (a : Nat) (v : Word) : (s.putAct a v).act a = v := by
  simp [act, putAct, resetVal]

theorem act_putAct_ne (s : State) (a b : Nat) (v : Word) (h : b ≠ a) : (s.putAct a v).act b = s.act b := by
  simp only [act, putAct, resetVal]
  exact Assoc.get_set_ne _ _ _ _ _ _ h

/-! ## What register writes leave alone -/

@[simp] theorem put_pending (s : State) (a : Nat) (v : Word) : (s.put a v).pending = s.pending := rfl
@[simp] theorem put_freeCtr (s : State) (a : Nat) (v : Word) : (s.put a v).freeCtr = s.freeCtr := rfl
@[simp] theorem put_tickNo (s : State) (a : Nat) (v : Word) : (s.put a v).tickNo = s.tickNo := rfl
@[simp] theorem put_variant (s : State) (a : Nat) (v : Word) : (s.put a v).variant = s.variant := rfl
@[simp] theorem put_fuses (s : State) (a : Nat) (v : Word) : (s.put a v).fuses = s.fuses := rfl
@[simp] theorem put_active (s : State) (a : Nat) (v : Word) : (s.put a v).active = s.active := rfl
@[simp] theorem put_mem (s : State) (a : Nat) (v : Word) : (s.put a v).mem = s.mem := rfl
@[simp] theorem put_eccBad (s : State) (a : Nat) (v : Word) : (s.put a v).eccBad = s.eccBad := rfl
@[simp] theorem put_sys (s : State) (a : Nat) (v : Word) : (s.put a v).sys = s.sys := rfl
@[simp] theorem put_tru (s : State) (a : Nat) (v : Word) : (s.put a v).tru = s.tru := rfl
@[simp] theorem put_log (s : State) (a : Nat) (v : Word) : (s.put a v).log = s.log := rfl
@[simp] theorem put_flt (s : State) (a : Nat) (v : Word) : (s.put a v).flt = s.flt := rfl
@[simp] theorem put_lanes (s : State) (a : Nat) (v : Word) : (s.put a v).lanes = s.lanes := rfl
@[simp] theorem put_mby (s : State) (a : Nat) (v : Word) : (s.put a v).mby = s.mby := rfl
@[simp] theorem put_kne (s : State) (a : Nat) (v : Word) : (s.put a v).kne = s.kne := rfl
@[simp] theorem put_mod (s : State) (a : Nat) (v : Word) : (s.put a v).mod = s.mod := rfl
@[simp] theorem put_ptn (s : State) (a : Nat) (v : Word) : (s.put a v).ptn = s.ptn := rfl
@[simp] theorem put_pwm (s : State) (a : Nat) (v : Word) : (s.put a v).pwm = s.pwm := rfl
@[simp] theorem put_gdr (s : State) (a : Nat) (v : Word) : (s.put a v).gdr = s.gdr := rfl
@[simp] theorem put_adc (s : State) (a : Nat) (v : Word) : (s.put a v).adc = s.adc := rfl
@[simp] theorem put_hk (s : State) (a : Nat) (v : Word) : (s.put a v).hk = s.hk := rfl
@[simp] theorem put_island (s : State) (a : Nat) (v : Word) : (s.put a v).island = s.island := rfl
@[simp] theorem put_recd (s : State) (a : Nat) (v : Word) : (s.put a v).recd = s.recd := rfl
@[simp] theorem put_clk (s : State) (a : Nat) (v : Word) : (s.put a v).clk = s.clk := rfl
@[simp] theorem put_tim (s : State) (a : Nat) (v : Word) : (s.put a v).tim = s.tim := rfl
@[simp] theorem put_eth (s : State) (a : Nat) (v : Word) : (s.put a v).eth = s.eth := rfl
@[simp] theorem put_uz (s : State) (a : Nat) (v : Word) : (s.put a v).uz = s.uz := rfl
@[simp] theorem put_can (s : State) (a : Nat) (v : Word) : (s.put a v).can = s.can := rfl
@[simp] theorem put_cores (s : State) (a : Nat) (v : Word) : (s.put a v).cores = s.cores := rfl
@[simp] theorem putN_pending (s : State) (a n : Nat) : (s.putN a n).pending = s.pending := rfl
@[simp] theorem putN_freeCtr (s : State) (a n : Nat) : (s.putN a n).freeCtr = s.freeCtr := rfl
@[simp] theorem putN_tickNo (s : State) (a n : Nat) : (s.putN a n).tickNo = s.tickNo := rfl
@[simp] theorem putN_variant (s : State) (a n : Nat) : (s.putN a n).variant = s.variant := rfl
@[simp] theorem putN_fuses (s : State) (a n : Nat) : (s.putN a n).fuses = s.fuses := rfl
@[simp] theorem putN_active (s : State) (a n : Nat) : (s.putN a n).active = s.active := rfl
@[simp] theorem putN_mem (s : State) (a n : Nat) : (s.putN a n).mem = s.mem := rfl
@[simp] theorem putN_eccBad (s : State) (a n : Nat) : (s.putN a n).eccBad = s.eccBad := rfl
@[simp] theorem putN_sys (s : State) (a n : Nat) : (s.putN a n).sys = s.sys := rfl
@[simp] theorem putN_tru (s : State) (a n : Nat) : (s.putN a n).tru = s.tru := rfl
@[simp] theorem putN_log (s : State) (a n : Nat) : (s.putN a n).log = s.log := rfl
@[simp] theorem putN_flt (s : State) (a n : Nat) : (s.putN a n).flt = s.flt := rfl
@[simp] theorem putN_lanes (s : State) (a n : Nat) : (s.putN a n).lanes = s.lanes := rfl
@[simp] theorem putN_mby (s : State) (a n : Nat) : (s.putN a n).mby = s.mby := rfl
@[simp] theorem putN_kne (s : State) (a n : Nat) : (s.putN a n).kne = s.kne := rfl
@[simp] theorem putN_mod (s : State) (a n : Nat) : (s.putN a n).mod = s.mod := rfl
@[simp] theorem putN_ptn (s : State) (a n : Nat) : (s.putN a n).ptn = s.ptn := rfl
@[simp] theorem putN_pwm (s : State) (a n : Nat) : (s.putN a n).pwm = s.pwm := rfl
@[simp] theorem putN_gdr (s : State) (a n : Nat) : (s.putN a n).gdr = s.gdr := rfl
@[simp] theorem putN_adc (s : State) (a n : Nat) : (s.putN a n).adc = s.adc := rfl
@[simp] theorem putN_hk (s : State) (a n : Nat) : (s.putN a n).hk = s.hk := rfl
@[simp] theorem putN_island (s : State) (a n : Nat) : (s.putN a n).island = s.island := rfl
@[simp] theorem putN_recd (s : State) (a n : Nat) : (s.putN a n).recd = s.recd := rfl
@[simp] theorem putN_clk (s : State) (a n : Nat) : (s.putN a n).clk = s.clk := rfl
@[simp] theorem putN_tim (s : State) (a n : Nat) : (s.putN a n).tim = s.tim := rfl
@[simp] theorem putN_eth (s : State) (a n : Nat) : (s.putN a n).eth = s.eth := rfl
@[simp] theorem putN_uz (s : State) (a n : Nat) : (s.putN a n).uz = s.uz := rfl
@[simp] theorem putN_can (s : State) (a n : Nat) : (s.putN a n).can = s.can := rfl
@[simp] theorem putN_cores (s : State) (a n : Nat) : (s.putN a n).cores = s.cores := rfl
@[simp] theorem setFld_pending (s : State) (a hi lo n : Nat) : (s.setFld a hi lo n).pending = s.pending := rfl
@[simp] theorem setFld_freeCtr (s : State) (a hi lo n : Nat) : (s.setFld a hi lo n).freeCtr = s.freeCtr := rfl
@[simp] theorem setFld_tickNo (s : State) (a hi lo n : Nat) : (s.setFld a hi lo n).tickNo = s.tickNo := rfl
@[simp] theorem setFld_variant (s : State) (a hi lo n : Nat) : (s.setFld a hi lo n).variant = s.variant := rfl
@[simp] theorem setFld_fuses (s : State) (a hi lo n : Nat) : (s.setFld a hi lo n).fuses = s.fuses := rfl
@[simp] theorem setFld_active (s : State) (a hi lo n : Nat) : (s.setFld a hi lo n).active = s.active := rfl
@[simp] theorem setFld_mem (s : State) (a hi lo n : Nat) : (s.setFld a hi lo n).mem = s.mem := rfl
@[simp] theorem setFld_eccBad (s : State) (a hi lo n : Nat) : (s.setFld a hi lo n).eccBad = s.eccBad := rfl
@[simp] theorem setFld_sys (s : State) (a hi lo n : Nat) : (s.setFld a hi lo n).sys = s.sys := rfl
@[simp] theorem setFld_tru (s : State) (a hi lo n : Nat) : (s.setFld a hi lo n).tru = s.tru := rfl
@[simp] theorem setFld_log (s : State) (a hi lo n : Nat) : (s.setFld a hi lo n).log = s.log := rfl
@[simp] theorem setFld_flt (s : State) (a hi lo n : Nat) : (s.setFld a hi lo n).flt = s.flt := rfl
@[simp] theorem setFld_lanes (s : State) (a hi lo n : Nat) : (s.setFld a hi lo n).lanes = s.lanes := rfl
@[simp] theorem setFld_mby (s : State) (a hi lo n : Nat) : (s.setFld a hi lo n).mby = s.mby := rfl
@[simp] theorem setFld_kne (s : State) (a hi lo n : Nat) : (s.setFld a hi lo n).kne = s.kne := rfl
@[simp] theorem setFld_mod (s : State) (a hi lo n : Nat) : (s.setFld a hi lo n).mod = s.mod := rfl
@[simp] theorem setFld_ptn (s : State) (a hi lo n : Nat) : (s.setFld a hi lo n).ptn = s.ptn := rfl
@[simp] theorem setFld_pwm (s : State) (a hi lo n : Nat) : (s.setFld a hi lo n).pwm = s.pwm := rfl
@[simp] theorem setFld_gdr (s : State) (a hi lo n : Nat) : (s.setFld a hi lo n).gdr = s.gdr := rfl
@[simp] theorem setFld_adc (s : State) (a hi lo n : Nat) : (s.setFld a hi lo n).adc = s.adc := rfl
@[simp] theorem setFld_hk (s : State) (a hi lo n : Nat) : (s.setFld a hi lo n).hk = s.hk := rfl
@[simp] theorem setFld_island (s : State) (a hi lo n : Nat) : (s.setFld a hi lo n).island = s.island := rfl
@[simp] theorem setFld_recd (s : State) (a hi lo n : Nat) : (s.setFld a hi lo n).recd = s.recd := rfl
@[simp] theorem setFld_clk (s : State) (a hi lo n : Nat) : (s.setFld a hi lo n).clk = s.clk := rfl
@[simp] theorem setFld_tim (s : State) (a hi lo n : Nat) : (s.setFld a hi lo n).tim = s.tim := rfl
@[simp] theorem setFld_eth (s : State) (a hi lo n : Nat) : (s.setFld a hi lo n).eth = s.eth := rfl
@[simp] theorem setFld_uz (s : State) (a hi lo n : Nat) : (s.setFld a hi lo n).uz = s.uz := rfl
@[simp] theorem setFld_can (s : State) (a hi lo n : Nat) : (s.setFld a hi lo n).can = s.can := rfl
@[simp] theorem setFld_cores (s : State) (a hi lo n : Nat) : (s.setFld a hi lo n).cores = s.cores := rfl
@[simp] theorem setFlag_pending (s : State) (a i : Nat) (b : Bool) : (s.setFlag a i b).pending = s.pending := rfl
@[simp] theorem setFlag_freeCtr (s : State) (a i : Nat) (b : Bool) : (s.setFlag a i b).freeCtr = s.freeCtr := rfl
@[simp] theorem setFlag_tickNo (s : State) (a i : Nat) (b : Bool) : (s.setFlag a i b).tickNo = s.tickNo := rfl
@[simp] theorem setFlag_variant (s : State) (a i : Nat) (b : Bool) : (s.setFlag a i b).variant = s.variant := rfl
@[simp] theorem setFlag_fuses (s : State) (a i : Nat) (b : Bool) : (s.setFlag a i b).fuses = s.fuses := rfl
@[simp] theorem setFlag_active (s : State) (a i : Nat) (b : Bool) : (s.setFlag a i b).active = s.active := rfl
@[simp] theorem setFlag_mem (s : State) (a i : Nat) (b : Bool) : (s.setFlag a i b).mem = s.mem := rfl
@[simp] theorem setFlag_eccBad (s : State) (a i : Nat) (b : Bool) : (s.setFlag a i b).eccBad = s.eccBad := rfl
@[simp] theorem setFlag_sys (s : State) (a i : Nat) (b : Bool) : (s.setFlag a i b).sys = s.sys := rfl
@[simp] theorem setFlag_tru (s : State) (a i : Nat) (b : Bool) : (s.setFlag a i b).tru = s.tru := rfl
@[simp] theorem setFlag_log (s : State) (a i : Nat) (b : Bool) : (s.setFlag a i b).log = s.log := rfl
@[simp] theorem setFlag_flt (s : State) (a i : Nat) (b : Bool) : (s.setFlag a i b).flt = s.flt := rfl
@[simp] theorem setFlag_lanes (s : State) (a i : Nat) (b : Bool) : (s.setFlag a i b).lanes = s.lanes := rfl
@[simp] theorem setFlag_mby (s : State) (a i : Nat) (b : Bool) : (s.setFlag a i b).mby = s.mby := rfl
@[simp] theorem setFlag_kne (s : State) (a i : Nat) (b : Bool) : (s.setFlag a i b).kne = s.kne := rfl
@[simp] theorem setFlag_mod (s : State) (a i : Nat) (b : Bool) : (s.setFlag a i b).mod = s.mod := rfl
@[simp] theorem setFlag_ptn (s : State) (a i : Nat) (b : Bool) : (s.setFlag a i b).ptn = s.ptn := rfl
@[simp] theorem setFlag_pwm (s : State) (a i : Nat) (b : Bool) : (s.setFlag a i b).pwm = s.pwm := rfl
@[simp] theorem setFlag_gdr (s : State) (a i : Nat) (b : Bool) : (s.setFlag a i b).gdr = s.gdr := rfl
@[simp] theorem setFlag_adc (s : State) (a i : Nat) (b : Bool) : (s.setFlag a i b).adc = s.adc := rfl
@[simp] theorem setFlag_hk (s : State) (a i : Nat) (b : Bool) : (s.setFlag a i b).hk = s.hk := rfl
@[simp] theorem setFlag_island (s : State) (a i : Nat) (b : Bool) : (s.setFlag a i b).island = s.island := rfl
@[simp] theorem setFlag_recd (s : State) (a i : Nat) (b : Bool) : (s.setFlag a i b).recd = s.recd := rfl
@[simp] theorem setFlag_clk (s : State) (a i : Nat) (b : Bool) : (s.setFlag a i b).clk = s.clk := rfl
@[simp] theorem setFlag_tim (s : State) (a i : Nat) (b : Bool) : (s.setFlag a i b).tim = s.tim := rfl
@[simp] theorem setFlag_eth (s : State) (a i : Nat) (b : Bool) : (s.setFlag a i b).eth = s.eth := rfl
@[simp] theorem setFlag_uz (s : State) (a i : Nat) (b : Bool) : (s.setFlag a i b).uz = s.uz := rfl
@[simp] theorem setFlag_can (s : State) (a i : Nat) (b : Bool) : (s.setFlag a i b).can = s.can := rfl
@[simp] theorem setFlag_cores (s : State) (a i : Nat) (b : Bool) : (s.setFlag a i b).cores = s.cores := rfl
@[simp] theorem inc_pending (s : State) (a : Nat) : (s.inc a).pending = s.pending := rfl
@[simp] theorem inc_freeCtr (s : State) (a : Nat) : (s.inc a).freeCtr = s.freeCtr := rfl
@[simp] theorem inc_tickNo (s : State) (a : Nat) : (s.inc a).tickNo = s.tickNo := rfl
@[simp] theorem inc_variant (s : State) (a : Nat) : (s.inc a).variant = s.variant := rfl
@[simp] theorem inc_fuses (s : State) (a : Nat) : (s.inc a).fuses = s.fuses := rfl
@[simp] theorem inc_active (s : State) (a : Nat) : (s.inc a).active = s.active := rfl
@[simp] theorem inc_mem (s : State) (a : Nat) : (s.inc a).mem = s.mem := rfl
@[simp] theorem inc_eccBad (s : State) (a : Nat) : (s.inc a).eccBad = s.eccBad := rfl
@[simp] theorem inc_sys (s : State) (a : Nat) : (s.inc a).sys = s.sys := rfl
@[simp] theorem inc_tru (s : State) (a : Nat) : (s.inc a).tru = s.tru := rfl
@[simp] theorem inc_log (s : State) (a : Nat) : (s.inc a).log = s.log := rfl
@[simp] theorem inc_flt (s : State) (a : Nat) : (s.inc a).flt = s.flt := rfl
@[simp] theorem inc_lanes (s : State) (a : Nat) : (s.inc a).lanes = s.lanes := rfl
@[simp] theorem inc_mby (s : State) (a : Nat) : (s.inc a).mby = s.mby := rfl
@[simp] theorem inc_kne (s : State) (a : Nat) : (s.inc a).kne = s.kne := rfl
@[simp] theorem inc_mod (s : State) (a : Nat) : (s.inc a).mod = s.mod := rfl
@[simp] theorem inc_ptn (s : State) (a : Nat) : (s.inc a).ptn = s.ptn := rfl
@[simp] theorem inc_pwm (s : State) (a : Nat) : (s.inc a).pwm = s.pwm := rfl
@[simp] theorem inc_gdr (s : State) (a : Nat) : (s.inc a).gdr = s.gdr := rfl
@[simp] theorem inc_adc (s : State) (a : Nat) : (s.inc a).adc = s.adc := rfl
@[simp] theorem inc_hk (s : State) (a : Nat) : (s.inc a).hk = s.hk := rfl
@[simp] theorem inc_island (s : State) (a : Nat) : (s.inc a).island = s.island := rfl
@[simp] theorem inc_recd (s : State) (a : Nat) : (s.inc a).recd = s.recd := rfl
@[simp] theorem inc_clk (s : State) (a : Nat) : (s.inc a).clk = s.clk := rfl
@[simp] theorem inc_tim (s : State) (a : Nat) : (s.inc a).tim = s.tim := rfl
@[simp] theorem inc_eth (s : State) (a : Nat) : (s.inc a).eth = s.eth := rfl
@[simp] theorem inc_uz (s : State) (a : Nat) : (s.inc a).uz = s.uz := rfl
@[simp] theorem inc_can (s : State) (a : Nat) : (s.inc a).can = s.can := rfl
@[simp] theorem inc_cores (s : State) (a : Nat) : (s.inc a).cores = s.cores := rfl
@[simp] theorem incFld_pending (s : State) (a hi lo : Nat) : (s.incFld a hi lo).pending = s.pending := rfl
@[simp] theorem incFld_freeCtr (s : State) (a hi lo : Nat) : (s.incFld a hi lo).freeCtr = s.freeCtr := rfl
@[simp] theorem incFld_tickNo (s : State) (a hi lo : Nat) : (s.incFld a hi lo).tickNo = s.tickNo := rfl
@[simp] theorem incFld_variant (s : State) (a hi lo : Nat) : (s.incFld a hi lo).variant = s.variant := rfl
@[simp] theorem incFld_fuses (s : State) (a hi lo : Nat) : (s.incFld a hi lo).fuses = s.fuses := rfl
@[simp] theorem incFld_active (s : State) (a hi lo : Nat) : (s.incFld a hi lo).active = s.active := rfl
@[simp] theorem incFld_mem (s : State) (a hi lo : Nat) : (s.incFld a hi lo).mem = s.mem := rfl
@[simp] theorem incFld_eccBad (s : State) (a hi lo : Nat) : (s.incFld a hi lo).eccBad = s.eccBad := rfl
@[simp] theorem incFld_sys (s : State) (a hi lo : Nat) : (s.incFld a hi lo).sys = s.sys := rfl
@[simp] theorem incFld_tru (s : State) (a hi lo : Nat) : (s.incFld a hi lo).tru = s.tru := rfl
@[simp] theorem incFld_log (s : State) (a hi lo : Nat) : (s.incFld a hi lo).log = s.log := rfl
@[simp] theorem incFld_flt (s : State) (a hi lo : Nat) : (s.incFld a hi lo).flt = s.flt := rfl
@[simp] theorem incFld_lanes (s : State) (a hi lo : Nat) : (s.incFld a hi lo).lanes = s.lanes := rfl
@[simp] theorem incFld_mby (s : State) (a hi lo : Nat) : (s.incFld a hi lo).mby = s.mby := rfl
@[simp] theorem incFld_kne (s : State) (a hi lo : Nat) : (s.incFld a hi lo).kne = s.kne := rfl
@[simp] theorem incFld_mod (s : State) (a hi lo : Nat) : (s.incFld a hi lo).mod = s.mod := rfl
@[simp] theorem incFld_ptn (s : State) (a hi lo : Nat) : (s.incFld a hi lo).ptn = s.ptn := rfl
@[simp] theorem incFld_pwm (s : State) (a hi lo : Nat) : (s.incFld a hi lo).pwm = s.pwm := rfl
@[simp] theorem incFld_gdr (s : State) (a hi lo : Nat) : (s.incFld a hi lo).gdr = s.gdr := rfl
@[simp] theorem incFld_adc (s : State) (a hi lo : Nat) : (s.incFld a hi lo).adc = s.adc := rfl
@[simp] theorem incFld_hk (s : State) (a hi lo : Nat) : (s.incFld a hi lo).hk = s.hk := rfl
@[simp] theorem incFld_island (s : State) (a hi lo : Nat) : (s.incFld a hi lo).island = s.island := rfl
@[simp] theorem incFld_recd (s : State) (a hi lo : Nat) : (s.incFld a hi lo).recd = s.recd := rfl
@[simp] theorem incFld_clk (s : State) (a hi lo : Nat) : (s.incFld a hi lo).clk = s.clk := rfl
@[simp] theorem incFld_tim (s : State) (a hi lo : Nat) : (s.incFld a hi lo).tim = s.tim := rfl
@[simp] theorem incFld_eth (s : State) (a hi lo : Nat) : (s.incFld a hi lo).eth = s.eth := rfl
@[simp] theorem incFld_uz (s : State) (a hi lo : Nat) : (s.incFld a hi lo).uz = s.uz := rfl
@[simp] theorem incFld_can (s : State) (a hi lo : Nat) : (s.incFld a hi lo).can = s.can := rfl
@[simp] theorem incFld_cores (s : State) (a hi lo : Nat) : (s.incFld a hi lo).cores = s.cores := rfl
@[simp] theorem addFld_pending (s : State) (a hi lo n : Nat) : (s.addFld a hi lo n).pending = s.pending := rfl
@[simp] theorem addFld_freeCtr (s : State) (a hi lo n : Nat) : (s.addFld a hi lo n).freeCtr = s.freeCtr := rfl
@[simp] theorem addFld_tickNo (s : State) (a hi lo n : Nat) : (s.addFld a hi lo n).tickNo = s.tickNo := rfl
@[simp] theorem addFld_variant (s : State) (a hi lo n : Nat) : (s.addFld a hi lo n).variant = s.variant := rfl
@[simp] theorem addFld_fuses (s : State) (a hi lo n : Nat) : (s.addFld a hi lo n).fuses = s.fuses := rfl
@[simp] theorem addFld_active (s : State) (a hi lo n : Nat) : (s.addFld a hi lo n).active = s.active := rfl
@[simp] theorem addFld_mem (s : State) (a hi lo n : Nat) : (s.addFld a hi lo n).mem = s.mem := rfl
@[simp] theorem addFld_eccBad (s : State) (a hi lo n : Nat) : (s.addFld a hi lo n).eccBad = s.eccBad := rfl
@[simp] theorem addFld_sys (s : State) (a hi lo n : Nat) : (s.addFld a hi lo n).sys = s.sys := rfl
@[simp] theorem addFld_tru (s : State) (a hi lo n : Nat) : (s.addFld a hi lo n).tru = s.tru := rfl
@[simp] theorem addFld_log (s : State) (a hi lo n : Nat) : (s.addFld a hi lo n).log = s.log := rfl
@[simp] theorem addFld_flt (s : State) (a hi lo n : Nat) : (s.addFld a hi lo n).flt = s.flt := rfl
@[simp] theorem addFld_lanes (s : State) (a hi lo n : Nat) : (s.addFld a hi lo n).lanes = s.lanes := rfl
@[simp] theorem addFld_mby (s : State) (a hi lo n : Nat) : (s.addFld a hi lo n).mby = s.mby := rfl
@[simp] theorem addFld_kne (s : State) (a hi lo n : Nat) : (s.addFld a hi lo n).kne = s.kne := rfl
@[simp] theorem addFld_mod (s : State) (a hi lo n : Nat) : (s.addFld a hi lo n).mod = s.mod := rfl
@[simp] theorem addFld_ptn (s : State) (a hi lo n : Nat) : (s.addFld a hi lo n).ptn = s.ptn := rfl
@[simp] theorem addFld_pwm (s : State) (a hi lo n : Nat) : (s.addFld a hi lo n).pwm = s.pwm := rfl
@[simp] theorem addFld_gdr (s : State) (a hi lo n : Nat) : (s.addFld a hi lo n).gdr = s.gdr := rfl
@[simp] theorem addFld_adc (s : State) (a hi lo n : Nat) : (s.addFld a hi lo n).adc = s.adc := rfl
@[simp] theorem addFld_hk (s : State) (a hi lo n : Nat) : (s.addFld a hi lo n).hk = s.hk := rfl
@[simp] theorem addFld_island (s : State) (a hi lo n : Nat) : (s.addFld a hi lo n).island = s.island := rfl
@[simp] theorem addFld_recd (s : State) (a hi lo n : Nat) : (s.addFld a hi lo n).recd = s.recd := rfl
@[simp] theorem addFld_clk (s : State) (a hi lo n : Nat) : (s.addFld a hi lo n).clk = s.clk := rfl
@[simp] theorem addFld_tim (s : State) (a hi lo n : Nat) : (s.addFld a hi lo n).tim = s.tim := rfl
@[simp] theorem addFld_eth (s : State) (a hi lo n : Nat) : (s.addFld a hi lo n).eth = s.eth := rfl
@[simp] theorem addFld_uz (s : State) (a hi lo n : Nat) : (s.addFld a hi lo n).uz = s.uz := rfl
@[simp] theorem addFld_can (s : State) (a hi lo n : Nat) : (s.addFld a hi lo n).can = s.can := rfl
@[simp] theorem addFld_cores (s : State) (a hi lo n : Nat) : (s.addFld a hi lo n).cores = s.cores := rfl
@[simp] theorem stick_pending (s : State) (a i : Nat) : (s.stick a i).pending = s.pending := rfl
@[simp] theorem setByte_pending (s : State) (a : Nat) (b : Byte) : (s.setByte a b).pending = s.pending := rfl
@[simp] theorem putAct_pending (s : State) (a : Nat) (v : Word) : (s.putAct a v).pending = s.pending := rfl
@[simp] theorem setCore_pending (s : State) (n : Nat) (g : CoreSt → CoreSt) : (s.setCore n g).pending = s.pending := rfl
@[simp] theorem raise_pending (s : State) (q : FltReq) : (s.raise q).pending = s.pending := rfl
@[simp] theorem mark_pending (s : State) (c : Nat) : (s.mark c).pending = s.pending := by unfold State.mark; split <;> rfl
@[simp] theorem pulse_pending (s : State) (c i v : Nat) : (s.pulse c i v).pending = s.pending := by
  unfold State.pulse; split
  · rfl
  · exact mark_pending s c
@[simp] theorem stick_freeCtr (s : State) (a i : Nat) : (s.stick a i).freeCtr = s.freeCtr := rfl
@[simp] theorem setByte_freeCtr (s : State) (a : Nat) (b : Byte) : (s.setByte a b).freeCtr = s.freeCtr := rfl
@[simp] theorem putAct_freeCtr (s : State) (a : Nat) (v : Word) : (s.putAct a v).freeCtr = s.freeCtr := rfl
@[simp] theorem setCore_freeCtr (s : State) (n : Nat) (g : CoreSt → CoreSt) : (s.setCore n g).freeCtr = s.freeCtr := rfl
@[simp] theorem raise_freeCtr (s : State) (q : FltReq) : (s.raise q).freeCtr = s.freeCtr := rfl
@[simp] theorem mark_freeCtr (s : State) (c : Nat) : (s.mark c).freeCtr = s.freeCtr := by unfold State.mark; split <;> rfl
@[simp] theorem pulse_freeCtr (s : State) (c i v : Nat) : (s.pulse c i v).freeCtr = s.freeCtr := by
  unfold State.pulse; split
  · rfl
  · exact mark_freeCtr s c
@[simp] theorem stick_tickNo (s : State) (a i : Nat) : (s.stick a i).tickNo = s.tickNo := rfl
@[simp] theorem setByte_tickNo (s : State) (a : Nat) (b : Byte) : (s.setByte a b).tickNo = s.tickNo := rfl
@[simp] theorem putAct_tickNo (s : State) (a : Nat) (v : Word) : (s.putAct a v).tickNo = s.tickNo := rfl
@[simp] theorem setCore_tickNo (s : State) (n : Nat) (g : CoreSt → CoreSt) : (s.setCore n g).tickNo = s.tickNo := rfl
@[simp] theorem raise_tickNo (s : State) (q : FltReq) : (s.raise q).tickNo = s.tickNo := rfl
@[simp] theorem mark_tickNo (s : State) (c : Nat) : (s.mark c).tickNo = s.tickNo := by unfold State.mark; split <;> rfl
@[simp] theorem pulse_tickNo (s : State) (c i v : Nat) : (s.pulse c i v).tickNo = s.tickNo := by
  unfold State.pulse; split
  · rfl
  · exact mark_tickNo s c
@[simp] theorem stick_variant (s : State) (a i : Nat) : (s.stick a i).variant = s.variant := rfl
@[simp] theorem setByte_variant (s : State) (a : Nat) (b : Byte) : (s.setByte a b).variant = s.variant := rfl
@[simp] theorem putAct_variant (s : State) (a : Nat) (v : Word) : (s.putAct a v).variant = s.variant := rfl
@[simp] theorem setCore_variant (s : State) (n : Nat) (g : CoreSt → CoreSt) : (s.setCore n g).variant = s.variant := rfl
@[simp] theorem raise_variant (s : State) (q : FltReq) : (s.raise q).variant = s.variant := rfl
@[simp] theorem mark_variant (s : State) (c : Nat) : (s.mark c).variant = s.variant := by unfold State.mark; split <;> rfl
@[simp] theorem pulse_variant (s : State) (c i v : Nat) : (s.pulse c i v).variant = s.variant := by
  unfold State.pulse; split
  · rfl
  · exact mark_variant s c
@[simp] theorem stick_fuses (s : State) (a i : Nat) : (s.stick a i).fuses = s.fuses := rfl
@[simp] theorem setByte_fuses (s : State) (a : Nat) (b : Byte) : (s.setByte a b).fuses = s.fuses := rfl
@[simp] theorem putAct_fuses (s : State) (a : Nat) (v : Word) : (s.putAct a v).fuses = s.fuses := rfl
@[simp] theorem setCore_fuses (s : State) (n : Nat) (g : CoreSt → CoreSt) : (s.setCore n g).fuses = s.fuses := rfl
@[simp] theorem raise_fuses (s : State) (q : FltReq) : (s.raise q).fuses = s.fuses := rfl
@[simp] theorem mark_fuses (s : State) (c : Nat) : (s.mark c).fuses = s.fuses := by unfold State.mark; split <;> rfl
@[simp] theorem pulse_fuses (s : State) (c i v : Nat) : (s.pulse c i v).fuses = s.fuses := by
  unfold State.pulse; split
  · rfl
  · exact mark_fuses s c
@[simp] theorem stick_active (s : State) (a i : Nat) : (s.stick a i).active = s.active := rfl
@[simp] theorem setByte_active (s : State) (a : Nat) (b : Byte) : (s.setByte a b).active = s.active := rfl
@[simp] theorem setCore_active (s : State) (n : Nat) (g : CoreSt → CoreSt) : (s.setCore n g).active = s.active := rfl
@[simp] theorem raise_active (s : State) (q : FltReq) : (s.raise q).active = s.active := rfl
@[simp] theorem mark_active (s : State) (c : Nat) : (s.mark c).active = s.active := by unfold State.mark; split <;> rfl
@[simp] theorem pulse_active (s : State) (c i v : Nat) : (s.pulse c i v).active = s.active := by
  unfold State.pulse; split
  · rfl
  · exact mark_active s c
@[simp] theorem stick_mem (s : State) (a i : Nat) : (s.stick a i).mem = s.mem := rfl
@[simp] theorem putAct_mem (s : State) (a : Nat) (v : Word) : (s.putAct a v).mem = s.mem := rfl
@[simp] theorem setCore_mem (s : State) (n : Nat) (g : CoreSt → CoreSt) : (s.setCore n g).mem = s.mem := rfl
@[simp] theorem raise_mem (s : State) (q : FltReq) : (s.raise q).mem = s.mem := rfl
@[simp] theorem mark_mem (s : State) (c : Nat) : (s.mark c).mem = s.mem := by unfold State.mark; split <;> rfl
@[simp] theorem pulse_mem (s : State) (c i v : Nat) : (s.pulse c i v).mem = s.mem := by
  unfold State.pulse; split
  · rfl
  · exact mark_mem s c
@[simp] theorem stick_eccBad (s : State) (a i : Nat) : (s.stick a i).eccBad = s.eccBad := rfl
@[simp] theorem setByte_eccBad (s : State) (a : Nat) (b : Byte) : (s.setByte a b).eccBad = s.eccBad := rfl
@[simp] theorem putAct_eccBad (s : State) (a : Nat) (v : Word) : (s.putAct a v).eccBad = s.eccBad := rfl
@[simp] theorem setCore_eccBad (s : State) (n : Nat) (g : CoreSt → CoreSt) : (s.setCore n g).eccBad = s.eccBad := rfl
@[simp] theorem raise_eccBad (s : State) (q : FltReq) : (s.raise q).eccBad = s.eccBad := rfl
@[simp] theorem mark_eccBad (s : State) (c : Nat) : (s.mark c).eccBad = s.eccBad := by unfold State.mark; split <;> rfl
@[simp] theorem pulse_eccBad (s : State) (c i v : Nat) : (s.pulse c i v).eccBad = s.eccBad := by
  unfold State.pulse; split
  · rfl
  · exact mark_eccBad s c
@[simp] theorem setByte_sys (s : State) (a : Nat) (b : Byte) : (s.setByte a b).sys = s.sys := rfl
@[simp] theorem putAct_sys (s : State) (a : Nat) (v : Word) : (s.putAct a v).sys = s.sys := rfl
@[simp] theorem setCore_sys (s : State) (n : Nat) (g : CoreSt → CoreSt) : (s.setCore n g).sys = s.sys := rfl
@[simp] theorem raise_sys (s : State) (q : FltReq) : (s.raise q).sys = s.sys := rfl
@[simp] theorem mark_sys (s : State) (c : Nat) : (s.mark c).sys = s.sys := by unfold State.mark; split <;> rfl
@[simp] theorem pulse_sys (s : State) (c i v : Nat) : (s.pulse c i v).sys = s.sys := by
  unfold State.pulse; split
  · rfl
  · exact mark_sys s c
@[simp] theorem stick_tru (s : State) (a i : Nat) : (s.stick a i).tru = s.tru := rfl
@[simp] theorem setByte_tru (s : State) (a : Nat) (b : Byte) : (s.setByte a b).tru = s.tru := rfl
@[simp] theorem putAct_tru (s : State) (a : Nat) (v : Word) : (s.putAct a v).tru = s.tru := rfl
@[simp] theorem setCore_tru (s : State) (n : Nat) (g : CoreSt → CoreSt) : (s.setCore n g).tru = s.tru := rfl
@[simp] theorem raise_tru (s : State) (q : FltReq) : (s.raise q).tru = s.tru := rfl
@[simp] theorem mark_tru (s : State) (c : Nat) : (s.mark c).tru = s.tru := by unfold State.mark; split <;> rfl
@[simp] theorem pulse_tru (s : State) (c i v : Nat) : (s.pulse c i v).tru = s.tru := by
  unfold State.pulse; split
  · rfl
  · exact mark_tru s c
@[simp] theorem stick_log (s : State) (a i : Nat) : (s.stick a i).log = s.log := rfl
@[simp] theorem setByte_log (s : State) (a : Nat) (b : Byte) : (s.setByte a b).log = s.log := rfl
@[simp] theorem putAct_log (s : State) (a : Nat) (v : Word) : (s.putAct a v).log = s.log := rfl
@[simp] theorem setCore_log (s : State) (n : Nat) (g : CoreSt → CoreSt) : (s.setCore n g).log = s.log := rfl
@[simp] theorem raise_log (s : State) (q : FltReq) : (s.raise q).log = s.log := rfl
@[simp] theorem mark_log (s : State) (c : Nat) : (s.mark c).log = s.log := by unfold State.mark; split <;> rfl
@[simp] theorem pulse_log (s : State) (c i v : Nat) : (s.pulse c i v).log = s.log := by
  unfold State.pulse; split
  · rfl
  · exact mark_log s c
@[simp] theorem stick_flt (s : State) (a i : Nat) : (s.stick a i).flt = s.flt := rfl
@[simp] theorem setByte_flt (s : State) (a : Nat) (b : Byte) : (s.setByte a b).flt = s.flt := rfl
@[simp] theorem putAct_flt (s : State) (a : Nat) (v : Word) : (s.putAct a v).flt = s.flt := rfl
@[simp] theorem setCore_flt (s : State) (n : Nat) (g : CoreSt → CoreSt) : (s.setCore n g).flt = s.flt := rfl
@[simp] theorem stick_lanes (s : State) (a i : Nat) : (s.stick a i).lanes = s.lanes := rfl
@[simp] theorem setByte_lanes (s : State) (a : Nat) (b : Byte) : (s.setByte a b).lanes = s.lanes := rfl
@[simp] theorem putAct_lanes (s : State) (a : Nat) (v : Word) : (s.putAct a v).lanes = s.lanes := rfl
@[simp] theorem setCore_lanes (s : State) (n : Nat) (g : CoreSt → CoreSt) : (s.setCore n g).lanes = s.lanes := rfl
@[simp] theorem raise_lanes (s : State) (q : FltReq) : (s.raise q).lanes = s.lanes := rfl
@[simp] theorem mark_lanes (s : State) (c : Nat) : (s.mark c).lanes = s.lanes := by unfold State.mark; split <;> rfl
@[simp] theorem pulse_lanes (s : State) (c i v : Nat) : (s.pulse c i v).lanes = s.lanes := by
  unfold State.pulse; split
  · rfl
  · exact mark_lanes s c
@[simp] theorem stick_mby (s : State) (a i : Nat) : (s.stick a i).mby = s.mby := rfl
@[simp] theorem setByte_mby (s : State) (a : Nat) (b : Byte) : (s.setByte a b).mby = s.mby := rfl
@[simp] theorem putAct_mby (s : State) (a : Nat) (v : Word) : (s.putAct a v).mby = s.mby := rfl
@[simp] theorem setCore_mby (s : State) (n : Nat) (g : CoreSt → CoreSt) : (s.setCore n g).mby = s.mby := rfl
@[simp] theorem raise_mby (s : State) (q : FltReq) : (s.raise q).mby = s.mby := rfl
@[simp] theorem mark_mby (s : State) (c : Nat) : (s.mark c).mby = s.mby := by unfold State.mark; split <;> rfl
@[simp] theorem pulse_mby (s : State) (c i v : Nat) : (s.pulse c i v).mby = s.mby := by
  unfold State.pulse; split
  · rfl
  · exact mark_mby s c
@[simp] theorem stick_kne (s : State) (a i : Nat) : (s.stick a i).kne = s.kne := rfl
@[simp] theorem setByte_kne (s : State) (a : Nat) (b : Byte) : (s.setByte a b).kne = s.kne := rfl
@[simp] theorem putAct_kne (s : State) (a : Nat) (v : Word) : (s.putAct a v).kne = s.kne := rfl
@[simp] theorem setCore_kne (s : State) (n : Nat) (g : CoreSt → CoreSt) : (s.setCore n g).kne = s.kne := rfl
@[simp] theorem raise_kne (s : State) (q : FltReq) : (s.raise q).kne = s.kne := rfl
@[simp] theorem mark_kne (s : State) (c : Nat) : (s.mark c).kne = s.kne := by unfold State.mark; split <;> rfl
@[simp] theorem pulse_kne (s : State) (c i v : Nat) : (s.pulse c i v).kne = s.kne := by
  unfold State.pulse; split
  · rfl
  · exact mark_kne s c
@[simp] theorem stick_mod (s : State) (a i : Nat) : (s.stick a i).mod = s.mod := rfl
@[simp] theorem setByte_mod (s : State) (a : Nat) (b : Byte) : (s.setByte a b).mod = s.mod := rfl
@[simp] theorem putAct_mod (s : State) (a : Nat) (v : Word) : (s.putAct a v).mod = s.mod := rfl
@[simp] theorem setCore_mod (s : State) (n : Nat) (g : CoreSt → CoreSt) : (s.setCore n g).mod = s.mod := rfl
@[simp] theorem raise_mod (s : State) (q : FltReq) : (s.raise q).mod = s.mod := rfl
@[simp] theorem mark_mod (s : State) (c : Nat) : (s.mark c).mod = s.mod := by unfold State.mark; split <;> rfl
@[simp] theorem pulse_mod (s : State) (c i v : Nat) : (s.pulse c i v).mod = s.mod := by
  unfold State.pulse; split
  · rfl
  · exact mark_mod s c
@[simp] theorem stick_ptn (s : State) (a i : Nat) : (s.stick a i).ptn = s.ptn := rfl
@[simp] theorem setByte_ptn (s : State) (a : Nat) (b : Byte) : (s.setByte a b).ptn = s.ptn := rfl
@[simp] theorem putAct_ptn (s : State) (a : Nat) (v : Word) : (s.putAct a v).ptn = s.ptn := rfl
@[simp] theorem setCore_ptn (s : State) (n : Nat) (g : CoreSt → CoreSt) : (s.setCore n g).ptn = s.ptn := rfl
@[simp] theorem raise_ptn (s : State) (q : FltReq) : (s.raise q).ptn = s.ptn := rfl
@[simp] theorem mark_ptn (s : State) (c : Nat) : (s.mark c).ptn = s.ptn := by unfold State.mark; split <;> rfl
@[simp] theorem pulse_ptn (s : State) (c i v : Nat) : (s.pulse c i v).ptn = s.ptn := by
  unfold State.pulse; split
  · rfl
  · exact mark_ptn s c
@[simp] theorem stick_pwm (s : State) (a i : Nat) : (s.stick a i).pwm = s.pwm := rfl
@[simp] theorem setByte_pwm (s : State) (a : Nat) (b : Byte) : (s.setByte a b).pwm = s.pwm := rfl
@[simp] theorem putAct_pwm (s : State) (a : Nat) (v : Word) : (s.putAct a v).pwm = s.pwm := rfl
@[simp] theorem setCore_pwm (s : State) (n : Nat) (g : CoreSt → CoreSt) : (s.setCore n g).pwm = s.pwm := rfl
@[simp] theorem raise_pwm (s : State) (q : FltReq) : (s.raise q).pwm = s.pwm := rfl
@[simp] theorem mark_pwm (s : State) (c : Nat) : (s.mark c).pwm = s.pwm := by unfold State.mark; split <;> rfl
@[simp] theorem pulse_pwm (s : State) (c i v : Nat) : (s.pulse c i v).pwm = s.pwm := by
  unfold State.pulse; split
  · rfl
  · exact mark_pwm s c
@[simp] theorem stick_gdr (s : State) (a i : Nat) : (s.stick a i).gdr = s.gdr := rfl
@[simp] theorem setByte_gdr (s : State) (a : Nat) (b : Byte) : (s.setByte a b).gdr = s.gdr := rfl
@[simp] theorem putAct_gdr (s : State) (a : Nat) (v : Word) : (s.putAct a v).gdr = s.gdr := rfl
@[simp] theorem setCore_gdr (s : State) (n : Nat) (g : CoreSt → CoreSt) : (s.setCore n g).gdr = s.gdr := rfl
@[simp] theorem raise_gdr (s : State) (q : FltReq) : (s.raise q).gdr = s.gdr := rfl
@[simp] theorem mark_gdr (s : State) (c : Nat) : (s.mark c).gdr = s.gdr := by unfold State.mark; split <;> rfl
@[simp] theorem pulse_gdr (s : State) (c i v : Nat) : (s.pulse c i v).gdr = s.gdr := by
  unfold State.pulse; split
  · rfl
  · exact mark_gdr s c
@[simp] theorem stick_adc (s : State) (a i : Nat) : (s.stick a i).adc = s.adc := rfl
@[simp] theorem setByte_adc (s : State) (a : Nat) (b : Byte) : (s.setByte a b).adc = s.adc := rfl
@[simp] theorem putAct_adc (s : State) (a : Nat) (v : Word) : (s.putAct a v).adc = s.adc := rfl
@[simp] theorem setCore_adc (s : State) (n : Nat) (g : CoreSt → CoreSt) : (s.setCore n g).adc = s.adc := rfl
@[simp] theorem raise_adc (s : State) (q : FltReq) : (s.raise q).adc = s.adc := rfl
@[simp] theorem mark_adc (s : State) (c : Nat) : (s.mark c).adc = s.adc := by unfold State.mark; split <;> rfl
@[simp] theorem pulse_adc (s : State) (c i v : Nat) : (s.pulse c i v).adc = s.adc := by
  unfold State.pulse; split
  · rfl
  · exact mark_adc s c
@[simp] theorem stick_hk (s : State) (a i : Nat) : (s.stick a i).hk = s.hk := rfl
@[simp] theorem setByte_hk (s : State) (a : Nat) (b : Byte) : (s.setByte a b).hk = s.hk := rfl
@[simp] theorem putAct_hk (s : State) (a : Nat) (v : Word) : (s.putAct a v).hk = s.hk := rfl
@[simp] theorem setCore_hk (s : State) (n : Nat) (g : CoreSt → CoreSt) : (s.setCore n g).hk = s.hk := rfl
@[simp] theorem raise_hk (s : State) (q : FltReq) : (s.raise q).hk = s.hk := rfl
@[simp] theorem mark_hk (s : State) (c : Nat) : (s.mark c).hk = s.hk := by unfold State.mark; split <;> rfl
@[simp] theorem pulse_hk (s : State) (c i v : Nat) : (s.pulse c i v).hk = s.hk := by
  unfold State.pulse; split
  · rfl
  · exact mark_hk s c
@[simp] theorem stick_island (s : State) (a i : Nat) : (s.stick a i).island = s.island := rfl
@[simp] theorem setByte_island (s : State) (a : Nat) (b : Byte) : (s.setByte a b).island = s.island := rfl
@[simp] theorem putAct_island (s : State) (a : Nat) (v : Word) : (s.putAct a v).island = s.island := rfl
@[simp] theorem setCore_island (s : State) (n : Nat) (g : CoreSt → CoreSt) : (s.setCore n g).island = s.island := rfl
@[simp] theorem raise_island (s : State) (q : FltReq) : (s.raise q).island = s.island := rfl
@[simp] theorem mark_island (s : State) (c : Nat) : (s.mark c).island = s.island := by unfold State.mark; split <;> rfl
@[simp] theorem pulse_island (s : State) (c i v : Nat) : (s.pulse c i v).island = s.island := by
  unfold State.pulse; split
  · rfl
  · exact mark_island s c
@[simp] theorem stick_recd (s : State) (a i : Nat) : (s.stick a i).recd = s.recd := rfl
@[simp] theorem setByte_recd (s : State) (a : Nat) (b : Byte) : (s.setByte a b).recd = s.recd := rfl
@[simp] theorem putAct_recd (s : State) (a : Nat) (v : Word) : (s.putAct a v).recd = s.recd := rfl
@[simp] theorem setCore_recd (s : State) (n : Nat) (g : CoreSt → CoreSt) : (s.setCore n g).recd = s.recd := rfl
@[simp] theorem raise_recd (s : State) (q : FltReq) : (s.raise q).recd = s.recd := rfl
@[simp] theorem mark_recd (s : State) (c : Nat) : (s.mark c).recd = s.recd := by unfold State.mark; split <;> rfl
@[simp] theorem pulse_recd (s : State) (c i v : Nat) : (s.pulse c i v).recd = s.recd := by
  unfold State.pulse; split
  · rfl
  · exact mark_recd s c
@[simp] theorem stick_clk (s : State) (a i : Nat) : (s.stick a i).clk = s.clk := rfl
@[simp] theorem setByte_clk (s : State) (a : Nat) (b : Byte) : (s.setByte a b).clk = s.clk := rfl
@[simp] theorem putAct_clk (s : State) (a : Nat) (v : Word) : (s.putAct a v).clk = s.clk := rfl
@[simp] theorem setCore_clk (s : State) (n : Nat) (g : CoreSt → CoreSt) : (s.setCore n g).clk = s.clk := rfl
@[simp] theorem raise_clk (s : State) (q : FltReq) : (s.raise q).clk = s.clk := rfl
@[simp] theorem mark_clk (s : State) (c : Nat) : (s.mark c).clk = s.clk := by unfold State.mark; split <;> rfl
@[simp] theorem pulse_clk (s : State) (c i v : Nat) : (s.pulse c i v).clk = s.clk := by
  unfold State.pulse; split
  · rfl
  · exact mark_clk s c
@[simp] theorem stick_tim (s : State) (a i : Nat) : (s.stick a i).tim = s.tim := rfl
@[simp] theorem setByte_tim (s : State) (a : Nat) (b : Byte) : (s.setByte a b).tim = s.tim := rfl
@[simp] theorem putAct_tim (s : State) (a : Nat) (v : Word) : (s.putAct a v).tim = s.tim := rfl
@[simp] theorem setCore_tim (s : State) (n : Nat) (g : CoreSt → CoreSt) : (s.setCore n g).tim = s.tim := rfl
@[simp] theorem raise_tim (s : State) (q : FltReq) : (s.raise q).tim = s.tim := rfl
@[simp] theorem mark_tim (s : State) (c : Nat) : (s.mark c).tim = s.tim := by unfold State.mark; split <;> rfl
@[simp] theorem pulse_tim (s : State) (c i v : Nat) : (s.pulse c i v).tim = s.tim := by
  unfold State.pulse; split
  · rfl
  · exact mark_tim s c
@[simp] theorem stick_eth (s : State) (a i : Nat) : (s.stick a i).eth = s.eth := rfl
@[simp] theorem setByte_eth (s : State) (a : Nat) (b : Byte) : (s.setByte a b).eth = s.eth := rfl
@[simp] theorem putAct_eth (s : State) (a : Nat) (v : Word) : (s.putAct a v).eth = s.eth := rfl
@[simp] theorem setCore_eth (s : State) (n : Nat) (g : CoreSt → CoreSt) : (s.setCore n g).eth = s.eth := rfl
@[simp] theorem raise_eth (s : State) (q : FltReq) : (s.raise q).eth = s.eth := rfl
@[simp] theorem mark_eth (s : State) (c : Nat) : (s.mark c).eth = s.eth := by unfold State.mark; split <;> rfl
@[simp] theorem pulse_eth (s : State) (c i v : Nat) : (s.pulse c i v).eth = s.eth := by
  unfold State.pulse; split
  · rfl
  · exact mark_eth s c
@[simp] theorem stick_uz (s : State) (a i : Nat) : (s.stick a i).uz = s.uz := rfl
@[simp] theorem setByte_uz (s : State) (a : Nat) (b : Byte) : (s.setByte a b).uz = s.uz := rfl
@[simp] theorem putAct_uz (s : State) (a : Nat) (v : Word) : (s.putAct a v).uz = s.uz := rfl
@[simp] theorem setCore_uz (s : State) (n : Nat) (g : CoreSt → CoreSt) : (s.setCore n g).uz = s.uz := rfl
@[simp] theorem raise_uz (s : State) (q : FltReq) : (s.raise q).uz = s.uz := rfl
@[simp] theorem mark_uz (s : State) (c : Nat) : (s.mark c).uz = s.uz := by unfold State.mark; split <;> rfl
@[simp] theorem pulse_uz (s : State) (c i v : Nat) : (s.pulse c i v).uz = s.uz := by
  unfold State.pulse; split
  · rfl
  · exact mark_uz s c
@[simp] theorem stick_can (s : State) (a i : Nat) : (s.stick a i).can = s.can := rfl
@[simp] theorem setByte_can (s : State) (a : Nat) (b : Byte) : (s.setByte a b).can = s.can := rfl
@[simp] theorem putAct_can (s : State) (a : Nat) (v : Word) : (s.putAct a v).can = s.can := rfl
@[simp] theorem setCore_can (s : State) (n : Nat) (g : CoreSt → CoreSt) : (s.setCore n g).can = s.can := rfl
@[simp] theorem raise_can (s : State) (q : FltReq) : (s.raise q).can = s.can := rfl
@[simp] theorem mark_can (s : State) (c : Nat) : (s.mark c).can = s.can := by unfold State.mark; split <;> rfl
@[simp] theorem pulse_can (s : State) (c i v : Nat) : (s.pulse c i v).can = s.can := by
  unfold State.pulse; split
  · rfl
  · exact mark_can s c
@[simp] theorem stick_cores (s : State) (a i : Nat) : (s.stick a i).cores = s.cores := rfl
@[simp] theorem setByte_cores (s : State) (a : Nat) (b : Byte) : (s.setByte a b).cores = s.cores := rfl
@[simp] theorem putAct_cores (s : State) (a : Nat) (v : Word) : (s.putAct a v).cores = s.cores := rfl
@[simp] theorem raise_cores (s : State) (q : FltReq) : (s.raise q).cores = s.cores := rfl
@[simp] theorem mark_cores (s : State) (c : Nat) : (s.mark c).cores = s.cores := by unfold State.mark; split <;> rfl
@[simp] theorem pulse_cores (s : State) (c i v : Nat) : (s.pulse c i v).cores = s.cores := by
  unfold State.pulse; split
  · rfl
  · exact mark_cores s c
@[simp] theorem setByte_get (s : State) (a : Nat) (b : Byte) (r : Nat) : (s.setByte a b).get r = s.get r := rfl
@[simp] theorem putAct_get (s : State) (a : Nat) (v : Word) (r : Nat) : (s.putAct a v).get r = s.get r := rfl
@[simp] theorem setCore_get (s : State) (n : Nat) (g : CoreSt → CoreSt) (r : Nat) : (s.setCore n g).get r = s.get r := rfl
@[simp] theorem raise_get (s : State) (q : FltReq) (r : Nat) : (s.raise q).get r = s.get r := rfl

/-! ## Memory -/

@[simp] theorem byteAt_setByte_same (s : State) (a : Nat) (b : Byte) : (s.setByte a b).byteAt a = b := by
  simp [byteAt, setByte]

theorem byteAt_setByte_ne (s : State) (a c : Nat) (b : Byte) (h : c ≠ a) : (s.setByte a b).byteAt c = s.byteAt c := by
  simp only [byteAt, setByte]
  exact Assoc.get_set_ne _ _ _ _ _ _ h

/-- Bytes outside the range written keep their value. -/
theorem byteAt_setBytes_out (s : State) (a c : Nat) (bs : List Byte) (h : c < a ∨ a + bs.length ≤ c) :
    (s.setBytes a bs).byteAt c = s.byteAt c := by
  induction bs generalizing s a with
  | nil => rfl
  | cons b bs ih =>
    simp only [List.length_cons] at h
    rw [setBytes, ih _ _ (by omega), byteAt_setByte_ne _ _ _ _ (by omega)]

/-- Bytes inside it read as written. -/
theorem byteAt_setBytes_in (s : State) (a : Nat) (bs : List Byte) (i : Nat) (h : i < bs.length) :
    (s.setBytes a bs).byteAt (a + i) = bs[i] := by
  induction bs generalizing s a i with
  | nil => simp at h
  | cons b bs ih =>
    cases i with
    | zero =>
      rw [setBytes, byteAt_setBytes_out _ _ _ _ (by omega)]
      simp
    | succ i =>
      have : a + (i + 1) = a + 1 + i := by omega
      rw [setBytes, this, ih _ _ _ (by simpa using h)]
      simp

theorem wf_setByte (s : State) (a : Nat) (b : Byte) (h : Memory.wf s.mem = true) : Memory.wf (s.setByte a b).mem = true :=
  Assoc.wf_set (fun _ => 0) _ _ _ h

/-- Every memory operation keeps the canonical form. -/
theorem wf_setBytes (s : State) (a : Nat) (bs : List Byte) (h : Memory.wf s.mem = true) : Memory.wf (s.setBytes a bs).mem = true := by
  induction bs generalizing s a with
  | nil => exact h
  | cons b bs ih => exact ih _ _ (wf_setByte _ _ _ h)

theorem wf_zeroRange (s : State) (a n : Nat) (h : Memory.wf s.mem = true) : Memory.wf (s.zeroRange a n).mem = true :=
  Assoc.wf_filter _ _ _ h

theorem wf_copyRange (s : State) (src dst n : Nat) (h : Memory.wf s.mem = true) : Memory.wf (s.copyRange src dst n).mem = true := by
  unfold copyRange
  generalize s.mem.filter (fun c => decide (src ≤ c.1) && decide (c.1 < src + n)) = cells
  have h2 := wf_zeroRange s dst n h
  generalize s.zeroRange dst n = t at h2 ⊢
  induction cells generalizing t with
  | nil => exact h2
  | cons c cells ih => exact wf_setByte _ _ _ (ih _ h2)

/-- The memory of the state after reset has the canonical form. -/
theorem wf_reset : Memory.wf State.reset.mem = true := rfl

end State
end Sys2Proof.Machine
end

