-- ==== Sys2Proof/Laws/Event.lean ====
section
/-!
SUPPORT. What an event can do: it answers a next state, runs its effect where the module's state admits it, and ends with the fault manager's
actions, which are none where nothing was raised.
-/
namespace Sys2Proof.Machine

/-- An event that the state admits answers the state after its effect. -/
theorem event_ok {ok : State → Bool} {f : State → State} {s : State} (h : ok s = true) : event ok f s = .next (s.ended (f s)) := by
  simp [event, h]

/-- An event that the state does not admit changes nothing. -/
theorem event_not {ok : State → Bool} {f : State → State} {s : State} (h : ok s = false) : event ok f s = .next s := by
  simp [event, h]

/-- Every event answers a next state. -/
theorem event_next (ok : State → Bool) (f : State → State) (s : State) : ∃ t, event ok f s = .next t := ⟨_, rfl⟩

namespace State

/-- Where no raise waits the fault manager does nothing. -/
theorem drain_nil (k : Nat) (s : State) (h : s.flt.todo = []) : drain k s = s := by
  cases k with
  | zero => rfl
  | succ k => simp [drain, h, firstReq]

theorem get_putBytes_out (s : State) (a k : Nat) (bs : List Byte) (b : Nat) (h : b < a ∨ a + 4 * k ≤ b) : (s.putBytes a k bs).get b = s.get b := by
  induction k generalizing s a bs with
  | zero => rfl
  | succ k ih => rw [putBytes, ih _ _ _ (by omega), get_putN_ne _ _ _ _ (by omega)]

/-- Word j of a byte string written to k registers. -/
theorem getN_putBytes_in (s : State) (a k : Nat) (bs : List Byte) (j : Nat) (h : j < k) :
    (s.putBytes a k bs).getN (a + 4 * j) = leNat ((bs.drop (4 * j)).take 4) % 2 ^ 32 := by
  induction k generalizing s a bs j with
  | zero => omega
  | succ k ih =>
    rw [putBytes]
    cases j with
    | zero =>
      simp only [getN]
      rw [get_putBytes_out _ _ _ _ _ (Or.inl (by omega))]
      simp [putN]
    | succ j =>
      have := ih (s.putN a (leNat (bs.take 4))) (a + 4) (bs.drop 4) j (by omega)
      rw [show a + 4 * (j + 1) = a + 4 + 4 * j by omega, this, List.drop_drop, show 4 + 4 * j = 4 * (j + 1) by omega]

theorem get_qShow (s : State) (a : Nat) (h : ¬ queueReg a) : s.qShow.get a = s.get a := by
  simp only [queueReg, not_or, not_and, Nat.not_lt] at h
  unfold qShow
  have h2 : a < Reg.FLT_Q_HEAD 0 ∨ Reg.FLT_Q_HEAD 0 + 4 * 8 ≤ a := by
    have := h.2
    simp only [Reg.FLT_Q_HEAD] at this ⊢
    omega
  dsimp only
  split <;> rw [get_putBytes_out _ _ _ _ _ h2, get_putN_ne _ _ _ _ h.1]

theorem get_closeEvent (s : State) (a : Nat) (h : ¬ queueReg a) : s.closeEvent.get a = s.get a := by
  unfold closeEvent
  rw [get_qShow _ _ h]
  rfl

theorem get_sendPartner (s : State) (k : Nat) (f : List Byte) (a : Nat) : (s.sendPartner k f).get a = s.get a := by
  unfold sendPartner; split <;> rfl

theorem get_sendStatus (s : State) (a : Nat) : s.sendStatus.get a = s.get a := by
  unfold sendStatus sendBoth
  split
  · rw [get_sendPartner, get_sendPartner]
  · rfl

/-- The state before the event is closed, where its effect u raised nothing. -/
theorem ended_get (s u : State) (h : u.flt.todo = []) (a : Nat) (ha : ¬ queueReg a) : (s.ended u).get a = u.get a := by
  have e : (s.ended u).get a = (finish s u).get a := rfl
  rw [e]
  unfold finish
  rw [drain_nil _ _ h]
  dsimp only
  rw [get_closeEvent _ _ ha]
  split
  · split <;> rfl
  · split
    · show (sendStatus u).get a = u.get a
      exact get_sendStatus u a
    · exact get_sendStatus u a

theorem ended_getN (s u : State) (h : u.flt.todo = []) (a : Nat) (ha : ¬ queueReg a) : (s.ended u).getN a = u.getN a := by
  simp only [getN]; rw [ended_get s u h a ha]

@[simp] theorem ended_pending (s u : State) : (s.ended u).pending = s.pending := rfl

theorem sendPartner_eq (s : State) (k : Nat) (f : List Byte) : ∃ p, s.sendPartner k f = { s with ptn := p } := by
  unfold sendPartner
  split
  · exact ⟨_, rfl⟩
  · exact ⟨s.ptn, rfl⟩

theorem sendBoth_eq (s : State) (f : List Byte) : ∃ p, s.sendBoth f = { s with ptn := p } := by
  unfold sendBoth
  obtain ⟨p, hp⟩ := sendPartner_eq s 0 f
  obtain ⟨q, hq⟩ := sendPartner_eq (s.sendPartner 0 f) 1 f
  exact ⟨q, by rw [hq, hp]⟩

theorem sendStatus_eq (s : State) : ∃ p, s.sendStatus = { s with ptn := p } := by
  unfold sendStatus
  split
  · exact sendBoth_eq _ _
  · exact ⟨s.ptn, rfl⟩

theorem qShow_eq (s : State) : ∃ r, s.qShow = { s with regs := r } := by
  have h : ∀ (k : Nat) (s : State) (a : Nat) (bs : List Byte), ∃ r, s.putBytes a k bs = { s with regs := r } := by
    intro k
    induction k with
    | zero => exact fun s a bs => ⟨s.regs, rfl⟩
    | succ k ih =>
      intro s a bs
      obtain ⟨r, hr⟩ := ih (s.putN a (leNat (bs.take 4))) (a + 4) (bs.drop 4)
      exact ⟨r, by rw [putBytes, hr]; rfl⟩
  unfold qShow
  dsimp only
  split
  · obtain ⟨r, hr⟩ := h 8 (s.putN Reg.FLT_Q_STAT s.flt.queue.length) (Reg.FLT_Q_HEAD 0) (List.replicate 32 0)
    exact ⟨r, by rw [hr]; rfl⟩
  · obtain ⟨r, hr⟩ := h 8 (s.putN Reg.FLT_Q_STAT s.flt.queue.length) (Reg.FLT_Q_HEAD 0) _
    exact ⟨r, by rw [hr]; rfl⟩

/-- Where the effect u raised nothing, the end of the event changes only the queue's registers, the same-tick index, and what waits on the
partner lanes. -/
theorem ended_eq (s u : State) (h : u.flt.todo = []) :
    ∃ r q y p, s.ended u = { u with pending := s.pending, regs := r, ptn := p, sys := { u.sys with tickIdx := y }, flt := q } := by
  have hc : ∀ v : State, ∃ r q, v.closeEvent = { v with regs := r, flt := q } := by
    intro v
    unfold closeEvent
    obtain ⟨r, hr⟩ := qShow_eq { v with flt := { v.flt with todo := [], queue := v.flt.queue.take 32 } }
    exact ⟨r, _, by rw [hr]⟩
  obtain ⟨p, hp⟩ := sendStatus_eq u
  unfold ended finish
  rw [drain_nil _ _ h]
  dsimp only
  split
  · split
    · obtain ⟨r, q, hr⟩ := hc { u with sys := { u.sys with tickIdx := u.sys.tickIdx + 1 } }
      exact ⟨r, q, _, u.ptn, by rw [hr]⟩
    · obtain ⟨r, q, hr⟩ := hc u
      exact ⟨r, q, u.sys.tickIdx, u.ptn, by rw [hr]⟩
  · rw [hp]
    split
    · obtain ⟨r, q, hr⟩ := hc { u with ptn := p, sys := { u.sys with tickIdx := u.sys.tickIdx + 1 } }
      exact ⟨r, q, _, p, by rw [hr]⟩
    · obtain ⟨r, q, hr⟩ := hc { u with ptn := p }
      exact ⟨r, q, u.sys.tickIdx, p, by rw [hr]⟩

theorem get_putBytes_ne (s : State) (a k : Nat) (bs : List Byte) (b : Nat) (h : ∀ j < k, b ≠ a + 4 * j) : (s.putBytes a k bs).get b = s.get b := by
  induction k generalizing s a bs with
  | zero => rfl
  | succ k ih =>
    rw [putBytes, ih _ _ _ (fun j hj => by have := h (j + 1) (by omega); omega), get_putN_ne _ _ _ _ (by simpa using h 0 (by omega))]

theorem get_eq_of_getN {s t : State} {a : Nat} (h : s.getN a = t.getN a) : s.get a = t.get a := BitVec.eq_of_toNat_eq h

/-- The registers of the queue already show it: closing an event changes no register. -/
theorem get_closeEvent_ok (v : State) (hl : v.flt.queue.length ≤ 32) (hs : v.getN Reg.FLT_Q_STAT = v.flt.queue.length)
    (hh : ∀ k < 8, v.getN (Reg.FLT_Q_HEAD k) = v.headWord k) (a : Nat) : v.closeEvent.get a = v.get a := by
  have ht : v.flt.queue.take 32 = v.flt.queue := List.take_of_length_le hl
  have hf : ∀ w : State, w.flt.queue = v.flt.queue → w.regs = v.regs → w.variant = v.variant → w.qShow.get a = v.get a := by
    intro w hw hr hvar
    have hg : ∀ b, w.get b = v.get b := fun b => by simp only [State.get, resetVal, hr, hvar]
    have key : ∀ bs : List Byte, (∀ j < 8, leNat ((bs.drop (4 * j)).take 4) % 2 ^ 32 = v.headWord j) →
        ((w.putN Reg.FLT_Q_STAT v.flt.queue.length).putBytes (Reg.FLT_Q_HEAD 0) 8 bs).get a = v.get a := by
      intro bs hb
      by_cases h : ∃ j < 8, a = Reg.FLT_Q_HEAD 0 + 4 * j
      · obtain ⟨j, hj, rfl⟩ := h
        apply get_eq_of_getN
        rw [getN_putBytes_in _ _ _ _ _ hj, hb j hj, ← hh j hj]
        simp only [Reg.FLT_Q_HEAD]; congr 1; omega
      · rw [get_putBytes_ne _ _ _ _ _ (fun j hj e => h ⟨j, hj, e⟩)]
        by_cases e : a = Reg.FLT_Q_STAT
        · subst e
          apply get_eq_of_getN
          rw [getN_putN_same, hs]; omega
        · rw [get_putN_ne _ _ _ _ e, hg]
    have hlt : ∀ j < 8, v.headWord j < 2 ^ 32 := fun j hj => by rw [← hh j hj]; exact (v.get _).isLt
    unfold qShow
    rw [hw]
    dsimp only
    have hw' : (w.putN Reg.FLT_Q_STAT v.flt.queue.length).flt.queue = v.flt.queue := hw
    rw [hw']
    cases hq : v.flt.queue with
    | nil =>
      have := key (List.replicate 32 0) (fun j hj => by
        have h1 : ((List.replicate 32 (0 : Byte)).drop (4 * j)).take 4 = List.replicate 4 0 := by
          rw [List.drop_replicate, List.take_replicate]; congr 1; omega
        have h2 : v.headWord j = 0 := by simp only [headWord, hq]
        rw [h1, h2]; rfl)
      rw [hq] at this
      exact this
    | cons r rest =>
      have := key r.bytes (fun j hj => by
        have h2 : v.headWord j = leNat ((r.bytes.drop (4 * j)).take 4) := by simp only [headWord, hq, leAt, slice]
        rw [← h2]
        exact Nat.mod_eq_of_lt (hlt j hj))
      rw [hq] at this
      exact this
  unfold closeEvent
  exact hf _ (by simp [ht]) rfl rfl

/-- Where the effect u neither raised anything nor changed the fault queue, every register is as u has it. -/
theorem ended_get_all (s u : State) (hs : s.FltOk) (hu : u.flt = s.flt) (hq : ∀ a, queueReg a → u.get a = s.get a) (a : Nat) :
    (s.ended u).get a = u.get a := by
  have h := hs.1
  rw [← hu] at h
  have e : (s.ended u).get a = (finish s u).get a := rfl
  have hh : ∀ v : State, v.regs = u.regs → v.variant = u.variant → v.flt = u.flt → v.closeEvent.get a = u.get a := by
    intro v hr hv hf
    have hg : ∀ b, v.get b = u.get b := fun b => by simp only [State.get, resetVal, hr, hv]
    have hgN : ∀ b, v.getN b = u.getN b := fun b => by simp only [State.getN, hg]
    have hqN : ∀ b, queueReg b → v.getN b = s.getN b := fun b hb => by simp only [State.getN, hg, hq b hb]
    have hqv : v.flt.queue = s.flt.queue := by rw [hf, hu]
    rw [get_closeEvent_ok v (hqv ▸ hs.2.1) (by rw [hqN _ (Or.inl rfl), hqv]; exact hs.2.2.1)
      (fun k hk => by
        rw [hqN _ (Or.inr (by simp only [Reg.FLT_Q_HEAD]; omega)), hs.2.2.2 k hk]
        simp only [headWord, hqv]), hg]
  rw [e]
  unfold finish
  rw [drain_nil _ _ h]
  obtain ⟨p, hp⟩ := sendStatus_eq u
  dsimp only
  split
  · split <;> exact hh _ rfl rfl rfl
  · rw [hp]; split <;> exact hh _ rfl rfl rfl

theorem leNat_lt (bs : List Byte) : leNat bs < 256 ^ bs.length := by
  induction bs with
  | nil => simp [leNat]
  | cons b bs ih =>
    have h1 := b.isLt
    simp only [leNat, List.length_cons, Nat.pow_succ]
    omega

theorem leAt4_lt (bs : List Byte) (k : Nat) : leAt bs k 4 < 2 ^ 32 := by
  have h := leNat_lt (slice bs k 4)
  have h2 : (slice bs k 4).length ≤ 4 := by simp [slice] <;> omega
  exact Nat.lt_of_lt_of_le h (Nat.pow_le_pow_right (by omega) h2)

/-- The end of an event leaves what FltOk says. -/
theorem closeEvent_ok (s : State) : s.closeEvent.FltOk := by
  have key : ∀ w : State, w.flt.queue.length ≤ 32 → w.flt.todo = [] → w.qShow.FltOk := by
    intro w hl ht
    have h1 : ∀ bs : List Byte, ((w.putN Reg.FLT_Q_STAT w.flt.queue.length).putBytes (Reg.FLT_Q_HEAD 0) 8 bs).getN Reg.FLT_Q_STAT = w.flt.queue.length := by
      intro bs
      simp only [getN]
      rw [get_putBytes_out _ _ _ _ _ (Or.inl (by decide))]
      simp only [putN, get_put_same]
      simp; omega
    have h2 : ∀ (bs : List Byte) (k : Nat), k < 8 →
        ((w.putN Reg.FLT_Q_STAT w.flt.queue.length).putBytes (Reg.FLT_Q_HEAD 0) 8 bs).getN (Reg.FLT_Q_HEAD k) = leAt bs (4 * k) 4 := by
      intro bs k hk
      have h := getN_putBytes_in (w.putN Reg.FLT_Q_STAT w.flt.queue.length) (Reg.FLT_Q_HEAD 0) 8 bs k hk
      have e : Reg.FLT_Q_HEAD k = Reg.FLT_Q_HEAD 0 + 4 * k := by simp only [Reg.FLT_Q_HEAD]; omega
      rw [e, h]
      exact Nat.mod_eq_of_lt (leAt4_lt bs (4 * k))
    obtain ⟨r, hr⟩ := qShow_eq w
    have hq : w.qShow.flt = w.flt := by rw [hr]
    have hw' : (w.putN Reg.FLT_Q_STAT w.flt.queue.length).flt.queue = w.flt.queue := rfl
    refine ⟨by rw [hq]; exact ht, by rw [hq]; exact hl, ?_, ?_⟩
    · rw [hq]
      unfold qShow
      dsimp only
      rw [hw']
      split <;> exact h1 _
    · intro k hk
      simp only [headWord, hq]
      unfold qShow
      dsimp only
      rw [hw']
      cases hl : w.flt.queue with
      | nil =>
        have := h2 (List.replicate 32 0) k hk
        rw [hl] at this
        rw [this]
        have h3 : ((List.replicate 32 (0 : Byte)).drop (4 * k)).take 4 = List.replicate 4 0 := by
          rw [List.drop_replicate, List.take_replicate]; congr 1; omega
        simp only [leAt, slice, h3]; rfl
      | cons q rest =>
        have := h2 q.bytes k hk
        rw [hl] at this
        exact this
  exact key _ (by simp <;> omega) rfl

/-- What the end of an event leaves of the fault queue. -/
theorem ended_ok (s u : State) : (s.ended u).FltOk := closeEvent_ok _

end State

end Sys2Proof.Machine
end

