-- ==== Sys2Proof/Laws/Exec.lean ====
section
/-!
SUPPORT. Every meaning is an event: it answers the state at the end of an event, or leaves the state as it was where the state excludes it.
-/
namespace Sys2Proof.Machine

/-- The outcome is the end of an event with some effect, or the state unchanged. -/
def EventLike (s : State) (o : Host.Outcome State Fault Refusal) : Prop := (∃ u, o = .next (s.ended u)) ∨ o = .next s

theorem event_like (ok : State → Bool) (f : State → State) (s : State) : EventLike s (event ok f s) := by
  unfold event
  split
  · exact Or.inl ⟨_, rfl⟩
  · exact Or.inr rfl

theorem execRegisterWrite_like (src : Src) (addr : Nat) (width : Nat) (v : Word) (s : State) : EventLike s (execRegisterWrite src addr width v s) := by
  unfold execRegisterWrite; exact event_like _ _ _
theorem execTruCmtGo_like (k : Nat) (s : State) : EventLike s (execTruCmtGo k s) := by
  unfold execTruCmtGo; exact event_like _ _ _
theorem execTruStgClr_like (k : Nat) (s : State) : EventLike s (execTruStgClr k s) := by
  unfold execTruStgClr; exact event_like _ _ _
theorem execUzopexReassemblyTimeout_like (k : Nat) (s : State) : EventLike s (execUzopexReassemblyTimeout k s) := by
  unfold execUzopexReassemblyTimeout; exact event_like _ _ _
theorem execCommit_like (s : State) : EventLike s (execCommit s) := by
  unfold execCommit signedEvent; exact event_like _ _ _
theorem execVerifyPending_like (s : State) : EventLike s (execVerifyPending s) := by
  unfold execVerifyPending signedEvent; exact event_like _ _ _
theorem execPromote_like (s : State) : EventLike s (execPromote s) := by
  unfold execPromote signedEvent; exact event_like _ _ _
theorem execPromoteCopyStep_like (s : State) : EventLike s (execPromoteCopyStep s) := by
  unfold execPromoteCopyStep; exact event_like _ _ _
theorem execClearPending_like (s : State) : EventLike s (execClearPending s) := by
  unfold execClearPending signedEvent; exact event_like _ _ _
theorem execBankCommit_like (s : State) : EventLike s (execBankCommit s) := by
  unfold execBankCommit signedEvent; exact event_like _ _ _
theorem execBankDigestDone_like (s : State) : EventLike s (execBankDigestDone s) := by
  unfold execBankDigestDone; exact event_like _ _ _
theorem execGrant_like (s : State) : EventLike s (execGrant s) := by
  unfold execGrant signedEvent; exact event_like _ _ _
theorem execRevoke_like (s : State) : EventLike s (execRevoke s) := by
  unfold execRevoke signedEvent; exact event_like _ _ _
theorem execSessionExpiry_like (slot : Nat) (s : State) : EventLike s (execSessionExpiry slot s) := by
  unfold execSessionExpiry; exact event_like _ _ _
theorem execDebugUnlock_like (s : State) : EventLike s (execDebugUnlock s) := by
  unfold execDebugUnlock signedEvent; exact event_like _ _ _
theorem execDebugExpiry_like (s : State) : EventLike s (execDebugExpiry s) := by
  unfold execDebugExpiry; exact event_like _ _ _
theorem execTruDbgLock_like (s : State) : EventLike s (execTruDbgLock s) := by
  unfold execTruDbgLock; exact event_like _ _ _
theorem execProvision_like (s : State) : EventLike s (execProvision s) := by
  unfold execProvision signedEvent; exact event_like _ _ _
theorem execLogAttGo_like (s : State) : EventLike s (execLogAttGo s) := by
  unfold execLogAttGo; exact event_like _ _ _
theorem execAttestationDone_like (s : State) : EventLike s (execAttestationDone s) := by
  unfold execAttestationDone; exact event_like _ _ _
theorem execMramNoResult_like (s : State) : EventLike s (execMramNoResult s) := by
  unfold execMramNoResult; exact event_like _ _ _
theorem execModeRequest_like (target : Nat) (s : State) : EventLike s (execModeRequest target s) := by
  unfold execModeRequest; exact event_like _ _ _
theorem execResetRequest_like (key : Nat) (s : State) : EventLike s (execResetRequest key s) := by
  unfold execResetRequest; exact event_like _ _ _
theorem execRideThroughLimit_like (s : State) : EventLike s (execRideThroughLimit s) := by
  unfold execRideThroughLimit; exact event_like _ _ _
theorem execBuildUpLimit_like (s : State) : EventLike s (execBuildUpLimit s) := by
  unfold execBuildUpLimit; exact event_like _ _ _
theorem execGridRecovered_like (s : State) : EventLike s (execGridRecovered s) := by
  unfold execGridRecovered; exact event_like _ _ _
theorem execPowerOnReset_like (s : State) : EventLike s (execPowerOnReset s) := by
  unfold execPowerOnReset; exact event_like _ _ _
theorem execSupplyMonitorReset_like (rail : Nat) (s : State) : EventLike s (execSupplyMonitorReset rail s) := by
  unfold execSupplyMonitorReset; exact event_like _ _ _
theorem execRailReturn_like (s : State) : EventLike s (execRailReturn s) := by
  unfold execRailReturn; exact event_like _ _ _
theorem execNresetLow_like (s : State) : EventLike s (execNresetLow s) := by
  unfold execNresetLow; exact event_like _ _ _
theorem execNresetDebounced_like (s : State) : EventLike s (execNresetDebounced s) := by
  unfold execNresetDebounced; exact event_like _ _ _
theorem execNresetGlitch_like (s : State) : EventLike s (execNresetGlitch s) := by
  unfold execNresetGlitch; exact event_like _ _ _
theorem execNresetRelease_like (s : State) : EventLike s (execNresetRelease s) := by
  unfold execNresetRelease; exact event_like _ _ _
theorem execWatchdogKick_like (n : Nat) (key : Nat) (s : State) : EventLike s (execWatchdogKick n key s) := by
  unfold execWatchdogKick; exact event_like _ _ _
theorem execWatchdogTimeout_like (n : Nat) (s : State) : EventLike s (execWatchdogTimeout n s) := by
  unfold execWatchdogTimeout; exact event_like _ _ _
theorem execBootStart_like (headB : Bool) (mramT : Int) (s : State) : EventLike s (execBootStart headB mramT s) := by
  unfold execBootStart; exact event_like _ _ _
theorem execBootEnd_like (s : State) : EventLike s (execBootEnd s) := by
  unfold execBootEnd; exact event_like _ _ _
theorem execRetentionSaveDone_like (s : State) : EventLike s (execRetentionSaveDone s) := by
  unfold execRetentionSaveDone; exact event_like _ _ _
theorem execWakeEvent_like (source : Nat) (s : State) : EventLike s (execWakeEvent source s) := by
  unfold execWakeEvent; exact event_like _ _ _
theorem execWakeComplete_like (s : State) : EventLike s (execWakeComplete s) := by
  unfold execWakeComplete; exact event_like _ _ _
theorem execCycleBoundary_like (s : State) : EventLike s (execCycleBoundary s) := by
  unfold execCycleBoundary; exact event_like _ _ _
theorem execTelemetryDeadline_like (s : State) : EventLike s (execTelemetryDeadline s) := by
  unfold execTelemetryDeadline; exact event_like _ _ _
theorem execLaneCdrLocked_like (n : Nat) (s : State) : EventLike s (execLaneCdrLocked n s) := by
  unfold execLaneCdrLocked; exact event_like _ _ _
theorem execLaneAligned_like (n : Nat) (bits : List Bool) (s : State) : EventLike s (execLaneAligned n bits s) := by
  unfold execLaneAligned; exact event_like _ _ _
theorem execLossOfSync_like (n : Nat) (bits : List Bool) (s : State) : EventLike s (execLossOfSync n bits s) := by
  unfold execLossOfSync; exact event_like _ _ _
theorem execLossOfSignal_like (n : Nat) (sig : Nat) (s : State) : EventLike s (execLossOfSignal n sig s) := by
  unfold execLossOfSignal; exact event_like _ _ _
theorem execElasticBufferOverflow_like (n : Nat) (inFrame : Bool) (slip : Int) (s : State) : EventLike s (execElasticBufferOverflow n inFrame slip s) := by
  unfold execElasticBufferOverflow; exact event_like _ _ _
theorem execPrbsLock_like (n : Nat) (bits : List Bool) (s : State) : EventLike s (execPrbsLock n bits s) := by
  unfold execPrbsLock; exact event_like _ _ _
theorem execPrbsLockLoss_like (n : Nat) (bits : List Bool) (s : State) : EventLike s (execPrbsLockLoss n bits s) := by
  unfold execPrbsLockLoss; exact event_like _ _ _
theorem execLnkSnap_like (n : Nat) (s : State) : EventLike s (execLnkSnap n s) := by
  unfold execLnkSnap; exact event_like _ _ _
theorem execLnkClrPrbs_like (n : Nat) (s : State) : EventLike s (execLnkClrPrbs n s) := by
  unfold execLnkClrPrbs; exact event_like _ _ _
theorem execLnkClrCode_like (n : Nat) (s : State) : EventLike s (execLnkClrCode n s) := by
  unfold execLnkClrCode; exact event_like _ _ _
theorem execLnkSnapAll_like (s : State) : EventLike s (execLnkSnapAll s) := by
  unfold execLnkSnapAll; exact event_like _ _ _
theorem execLnkInj_like (src : Src) (n : Nat) (s : State) : EventLike s (execLnkInj src n s) := by
  unfold execLnkInj; exact event_like _ _ _
theorem execAuxSourceChange_like (k : Nat) (s : State) : EventLike s (execAuxSourceChange k s) := by
  unfold execAuxSourceChange; exact event_like _ _ _
theorem execPeerBeaconReceive_like (n : Nat) (groups : List Nat) (stamp : Nat) (s : State) : EventLike s (execPeerBeaconReceive n groups stamp s) := by
  unfold execPeerBeaconReceive; exact event_like _ _ _
theorem execTelemetryRecordReceive_like (n : Nat) (groups : List Nat) (ns : Nat) (s : State) : EventLike s (execTelemetryRecordReceive n groups ns s) := by
  unfold execTelemetryRecordReceive; exact event_like _ _ _
theorem execLnkMbyClr_like (n : Nat) (s : State) : EventLike s (execLnkMbyClr n s) := by
  unfold execLnkMbyClr; exact event_like _ _ _
theorem execLnkTlmSnap_like (n : Nat) (pos : Nat) (s : State) : EventLike s (execLnkTlmSnap n pos s) := by
  unfold execLnkTlmSnap; exact event_like _ _ _
theorem execCorrectionEnd_like (s : State) : EventLike s (execCorrectionEnd s) := by
  unfold execCorrectionEnd; exact event_like _ _ _
theorem execPredictionEnd_like (s : State) : EventLike s (execPredictionEnd s) := by
  unfold execPredictionEnd; exact event_like _ _ _
theorem execModulatorDone_like (s : State) : EventLike s (execModulatorDone s) := by
  unfold execModulatorDone; exact event_like _ _ _
theorem execModCntClr_like (s : State) : EventLike s (execModCntClr s) := by
  unfold execModCntClr; exact event_like _ _ _
theorem execStateSegmentReceive_like (lane : Nat) (groups : List Nat) (s : State) : EventLike s (execStateSegmentReceive lane groups s) := by
  unfold execStateSegmentReceive; exact event_like _ _ _
theorem execCopyMissed_like (s : State) : EventLike s (execCopyMissed s) := by
  unfold execCopyMissed; exact event_like _ _ _
theorem execStatusReceive_like (lane : Nat) (groups : List Nat) (s : State) : EventLike s (execStatusReceive lane groups s) := by
  unfold execStatusReceive; exact event_like _ _ _
theorem execRelayReceive_like (lane : Nat) (groups : List Nat) (ns : Nat) (s : State) : EventLike s (execRelayReceive lane groups ns s) := by
  unfold execRelayReceive; exact event_like _ _ _
theorem execSampleSend_like (s : State) : EventLike s (execSampleSend s) := by
  unfold execSampleSend; exact event_like _ _ _
theorem execSampleReceive_like (lane : Nat) (groups : List Nat) (s : State) : EventLike s (execSampleReceive lane groups s) := by
  unfold execSampleReceive; exact event_like _ _ _
theorem execHelloReceive_like (lane : Nat) (groups : List Nat) (s : State) : EventLike s (execHelloReceive lane groups s) := by
  unfold execHelloReceive; exact event_like _ _ _
theorem execBulkSend_like (lane : Nat) (kind : Nat) (off : Nat) (len : Nat) (s : State) : EventLike s (execBulkSend lane kind off len s) := by
  unfold execBulkSend; exact event_like _ _ _
theorem execBulkReceive_like (lane : Nat) (groups : List Nat) (s : State) : EventLike s (execBulkReceive lane groups s) := by
  unfold execBulkReceive; exact event_like _ _ _
theorem execGvCheckDone_like (pass : Bool) (s : State) : EventLike s (execGvCheckDone pass s) := by
  unfold execGvCheckDone; exact event_like _ _ _
theorem execPtnCtrlYield_like (s : State) : EventLike s (execPtnCtrlYield s) := by
  unfold execPtnCtrlYield; exact event_like _ _ _
theorem execPtnCtrlPreset_like (s : State) : EventLike s (execPtnCtrlPreset s) := by
  unfold execPtnCtrlPreset; exact event_like _ _ _
theorem execPtnCntClr_like (src : Src) (s : State) : EventLike s (execPtnCntClr src s) := by
  unfold execPtnCntClr; exact event_like _ _ _
theorem execPwmPeriodBoundary_like (g : Nat) (s : State) : EventLike s (execPwmPeriodBoundary g s) := by
  unfold execPwmPeriodBoundary; exact event_like _ _ _
theorem execPwmStart_like (src : Src) (g : Fin 2) (s : State) : EventLike s (execPwmStart src g s) := by
  unfold execPwmStart; exact event_like _ _ _
theorem execPwmStop_like (src : Src) (g : Fin 2) (s : State) : EventLike s (execPwmStop src g s) := by
  unfold execPwmStop; exact event_like _ _ _
theorem execPwmArm_like (src : Src) (g : Fin 2) (s : State) : EventLike s (execPwmArm src g s) := by
  unfold execPwmArm; exact event_like _ _ _
theorem execSynEdge_like (n : Nat) (pos : Nat) (s : State) : EventLike s (execSynEdge n pos s) := by
  unfold execSynEdge; exact event_like _ _ _
theorem execSynLost_like (s : State) : EventLike s (execSynLost s) := by
  unfold execSynLost; exact event_like _ _ _
theorem execMaskSwEvent_like (src : Src) (g : Fin 2) (s : State) : EventLike s (execMaskSwEvent src g s) := by
  unfold execMaskSwEvent; exact event_like _ _ _
theorem execCommInEdge_like (rising : Bool) (s : State) : EventLike s (execCommInEdge rising s) := by
  unfold execCommInEdge; exact event_like _ _ _
theorem execPwmClockStop_like (s : State) : EventLike s (execPwmClockStop s) := by
  unfold execPwmClockStop; exact event_like _ _ _
theorem execPwmCntClr_like (src : Src) (s : State) : EventLike s (execPwmCntClr src s) := by
  unfold execPwmCntClr; exact event_like _ _ _
theorem execDeadTimeElapsed_like (h : Fin 6) (hi : Bool) (s : State) : EventLike s (execDeadTimeElapsed h hi s) := by
  unfold execDeadTimeElapsed; exact event_like _ _ _
theorem execGateEdgeMeasured_like (h : Fin 6) (hi : Bool) (on : Bool) (t : Option Nat) (s : State) : EventLike s (execGateEdgeMeasured h hi on t s) := by
  unfold execGateEdgeMeasured; exact event_like _ _ _
theorem execDesatTrip_like (h : Fin 6) (hi : Bool) (ns : Nat) (s : State) : EventLike s (execDesatTrip h hi ns s) := by
  unfold execDesatTrip; exact event_like _ _ _
theorem execGcmTrip_like (h : Fin 6) (hi : Bool) (s : State) : EventLike s (execGcmTrip h hi s) := by
  unfold execGcmTrip; exact event_like _ _ _
theorem execGovTrip_like (h : Fin 6) (hi : Bool) (s : State) : EventLike s (execGovTrip h hi s) := by
  unfold execGovTrip; exact event_like _ _ _
theorem execUvloTrip_like (h : Fin 6) (hi : Bool) (s : State) : EventLike s (execUvloTrip h hi s) := by
  unfold execUvloTrip; exact event_like _ _ _
theorem execSegLinkLoss_like (h : Fin 6) (s : State) : EventLike s (execSegLinkLoss h s) := by
  unfold execSegLinkLoss; exact event_like _ _ _
theorem execGatePowerLimit_like (pw : List Nat) (s : State) : EventLike s (execGatePowerLimit pw s) := by
  unfold execGatePowerLimit; exact event_like _ _ _
theorem execSoftTurnOffEnd_like (h : Fin 6) (hi : Bool) (above : Bool) (s : State) : EventLike s (execSoftTurnOffEnd h hi above s) := by
  unfold execSoftTurnOffEnd; exact event_like _ _ _
theorem execGdrDirsw_like (src : Src) (h : Fin 6) (v : Word) (s : State) : EventLike s (execGdrDirsw src h v s) := by
  unfold execGdrDirsw; exact event_like _ _ _
theorem execGdrClr_like (mask : Nat) (s : State) : EventLike s (execGdrClr mask s) := by
  unfold execGdrClr; exact event_like _ _ _
theorem execGdrCntClr_like (src : Src) (s : State) : EventLike s (execGdrCntClr src s) := by
  unfold execGdrCntClr; exact event_like _ _ _
theorem execGdrSnap_like (src : Src) (s : State) : EventLike s (execGdrSnap src s) := by
  unfold execGdrSnap; exact event_like _ _ _
theorem execAdcOutput_like (c : Fin 16) (odd : Bool) (code : Int) (overload : Bool) (off : Nat) (s : State) : EventLike s (execAdcOutput c odd code overload off s) := by
  unfold execAdcOutput; exact event_like _ _ _
theorem execAdcResync_like (src : Src) (mask : Word) (s : State) : EventLike s (execAdcResync src mask s) := by
  unfold execAdcResync; exact event_like _ _ _
theorem execAdcSegmentLoss_like (c : Fin 16) (s : State) : EventLike s (execAdcSegmentLoss c s) := by
  unfold execAdcSegmentLoss; exact event_like _ _ _
theorem execAdcSegmentReturn_like (c : Fin 16) (s : State) : EventLike s (execAdcSegmentReturn c s) := by
  unfold execAdcSegmentReturn; exact event_like _ _ _
theorem execAdcChSnap_like (src : Src) (c : Fin 16) (s : State) : EventLike s (execAdcChSnap src c s) := by
  unfold execAdcChSnap; exact event_like _ _ _
theorem execAdcSnapAll_like (src : Src) (s : State) : EventLike s (execAdcSnapAll src s) := by
  unfold execAdcSnapAll; exact event_like _ _ _
theorem execAdcCntClr_like (src : Src) (s : State) : EventLike s (execAdcCntClr src s) := by
  unfold execAdcCntClr; exact event_like _ _ _
theorem execMeterSnap_like (src : Src) (s : State) : EventLike s (execMeterSnap src s) := by
  unfold execMeterSnap; exact event_like _ _ _
theorem execMeterClear_like (src : Src) (s : State) : EventLike s (execMeterClear src s) := by
  unfold execMeterClear; exact event_like _ _ _
theorem execHkEntryDone_like (xs ys : List Nat) (s : State) : EventLike s (execHkEntryDone xs ys s) := by
  unfold execHkEntryDone; exact event_like _ _ _
theorem execHkpUrg_like (src : Src) (kind : Nat) (index : Nat) (s : State) : EventLike s (execHkpUrg src kind index s) := by
  unfold execHkpUrg; exact event_like _ _ _
theorem execHkUrgentDone_like (xs ys : List Nat) (s : State) : EventLike s (execHkUrgentDone xs ys s) := by
  unfold execHkUrgentDone; exact event_like _ _ _
theorem execFltQPop_like (src : Src) (s : State) : EventLike s (execFltQPop src s) := by
  unfold execFltQPop; exact event_like _ _ _
theorem execFltClr_like (v : Nat) (s : State) : EventLike s (execFltClr v s) := by
  unfold execFltClr; exact event_like _ _ _
theorem execFltSw_like (src : Src) (v : Word) (s : State) : EventLike s (execFltSw src v s) := by
  unfold execFltSw; exact event_like _ _ _
theorem execFltSrcSel_like (src : Src) (code : Word) (s : State) : EventLike s (execFltSrcSel src code s) := by
  unfold execFltSrcSel; exact event_like _ _ _
theorem execFltCntClr_like (src : Src) (s : State) : EventLike s (execFltCntClr src s) := by
  unfold execFltCntClr; exact event_like _ _ _
theorem execDieShutdown_like (s : State) : EventLike s (execDieShutdown s) := by
  unfold execDieShutdown; exact event_like _ _ _
theorem execSiDemand_like (terms : Nat) (s : State) : EventLike s (execSiDemand terms s) := by
  unfold execSiDemand; exact event_like _ _ _
theorem execPCycle_like (terms : Nat) (lows : Nat) (vhsA : Nat) (vlsA : Nat) (vhsB : Nat) (vlsB : Nat) (iload : Nat) (vsup : Nat) (genRb : Bool) (diag : Nat) (s : State) : EventLike s (execPCycle terms lows vhsA vlsA vhsB vlsB iload vsup genRb diag s) := by
  unfold execPCycle; exact event_like _ _ _
theorem execHeartbeatLoss_like (s : State) : EventLike s (execHeartbeatLoss s) := by
  unfold execHeartbeatLoss; exact event_like _ _ _
theorem execTestReqTimeout_like (s : State) : EventLike s (execTestReqTimeout s) := by
  unfold execTestReqTimeout; exact event_like _ _ _
theorem execDiscLatch_like (n : Nat) (s : State) : EventLike s (execDiscLatch n s) := by
  unfold execDiscLatch; exact event_like _ _ _
theorem execSafeDataTimeout_like (s : State) : EventLike s (execSafeDataTimeout s) := by
  unfold execSafeDataTimeout; exact event_like _ _ _
theorem execSecondCopyTimeout_like (s : State) : EventLike s (execSecondCopyTimeout s) := by
  unfold execSecondCopyTimeout; exact event_like _ _ _
theorem execSpsAdopt_like (s : State) : EventLike s (execSpsAdopt s) := by
  unfold execSpsAdopt; exact event_like _ _ _
theorem execPreEnergiseStep_like (x : Nat) (vhs : Nat) (vls : Nat) (genRb : Bool) (s : State) : EventLike s (execPreEnergiseStep x vhs vls genRb s) := by
  unfold execPreEnergiseStep; exact event_like _ _ _
theorem execDarkTestInstant_like (s : State) : EventLike s (execDarkTestInstant s) := by
  unfold execDarkTestInstant; exact event_like _ _ _
theorem execDarkPulse_like (vhs : Nat) (vls : Nat) (s : State) : EventLike s (execDarkPulse vhs vls s) := by
  unfold execDarkPulse; exact event_like _ _ _
theorem execIslandStartup_like (s : State) : EventLike s (execIslandStartup s) := by
  unfold execIslandStartup; exact event_like _ _ _
theorem execSafe24Loss_like (s : State) : EventLike s (execSafe24Loss s) := by
  unfold execSafe24Loss; exact event_like _ _ _
theorem execIslandSummaryLine_like (s : State) : EventLike s (execIslandSummaryLine s) := by
  unfold execIslandSummaryLine; exact event_like _ _ _
theorem execMirrorFrame_like (s : State) : EventLike s (execMirrorFrame s) := by
  unfold execMirrorFrame; exact event_like _ _ _
theorem execMirrorTimeout_like (s : State) : EventLike s (execMirrorTimeout s) := by
  unfold execMirrorTimeout; exact event_like _ _ _
theorem execRecArm_like (src : Src) (s : State) : EventLike s (execRecArm src s) := by
  unfold execRecArm; exact event_like _ _ _
theorem execRecStop_like (src : Src) (s : State) : EventLike s (execRecStop src s) := by
  unfold execRecStop; exact event_like _ _ _
theorem execRecTrig_like (src : Src) (s : State) : EventLike s (execRecTrig src s) := by
  unfold execRecTrig; exact event_like _ _ _
theorem execTrigInEdge_like (rising : Bool) (pos : Nat) (s : State) : EventLike s (execTrigInEdge rising pos s) := by
  unfold execTrigInEdge; exact event_like _ _ _
theorem execXtrigEdge_like (fall : Bool) (pos : Nat) (s : State) : EventLike s (execXtrigEdge fall pos s) := by
  unfold execXtrigEdge; exact event_like _ _ _
theorem execXtrigRelease_like (s : State) : EventLike s (execXtrigRelease s) := by
  unfold execXtrigRelease; exact event_like _ _ _
theorem execRecSegRel_like (src : Src) (mask : Word) (s : State) : EventLike s (execRecSegRel src mask s) := by
  unfold execRecSegRel; exact event_like _ _ _
theorem execRecCntClr_like (src : Src) (s : State) : EventLike s (execRecCntClr src s) := by
  unfold execRecCntClr; exact event_like _ _ _
theorem execRefclkLoss_like (s : State) : EventLike s (execRefclkLoss s) := by
  unfold execRefclkLoss; exact event_like _ _ _
theorem execRefclkGood_like (s : State) : EventLike s (execRefclkGood s) := by
  unfold execRefclkGood; exact event_like _ _ _
theorem execSysPllRelock_like (ok : Bool) (s : State) : EventLike s (execSysPllRelock ok s) := by
  unfold execSysPllRelock; exact event_like _ _ _
theorem execSysPllUnlock_like (derived : Bool) (s : State) : EventLike s (execSysPllUnlock derived s) := by
  unfold execSysPllUnlock; exact event_like _ _ _
theorem execSynLockLoss_like (s : State) : EventLike s (execSynLockLoss s) := by
  unfold execSynLockLoss; exact event_like _ _ _
theorem execSynReacquire_like (s : State) : EventLike s (execSynReacquire s) := by
  unfold execSynReacquire; exact event_like _ _ _
theorem execSyncPinEdge_like (rising : Bool) (pos : Nat) (s : State) : EventLike s (execSyncPinEdge rising pos s) := by
  unfold execSyncPinEdge; exact event_like _ _ _
theorem execClkSyncSw_like (src : Src) (s : State) : EventLike s (execClkSyncSw src s) := by
  unfold execClkSyncSw; exact event_like _ _ _
theorem execClkSyncArm_like (src : Src) (s : State) : EventLike s (execClkSyncArm src s) := by
  unfold execClkSyncArm; exact event_like _ _ _
theorem execClkOutEn_like (src : Src) (v : Word) (s : State) : EventLike s (execClkOutEn src v s) := by
  unfold execClkOutEn; exact event_like _ _ _
theorem execRiseStart_like (src : Src) (p : Fin 4) (s : State) : EventLike s (execRiseStart src p s) := by
  unfold execRiseStart; exact event_like _ _ _
theorem execRiseStop_like (src : Src) (p : Fin 4) (s : State) : EventLike s (execRiseStop src p s) := by
  unfold execRiseStop; exact event_like _ _ _
theorem execRiseSegmentEnd_like (p : Fin 4) (s : State) : EventLike s (execRiseSegmentEnd p s) := by
  unfold execRiseSegmentEnd; exact event_like _ _ _
theorem execClkCntClr_like (src : Src) (s : State) : EventLike s (execClkCntClr src s) := by
  unfold execClkCntClr; exact event_like _ _ _
theorem execTimSet_like (src : Src) (s : State) : EventLike s (execTimSet src s) := by
  unfold execTimSet; exact event_like _ _ _
theorem execTimStep_like (src : Src) (s : State) : EventLike s (execTimStep src s) := by
  unfold execTimStep; exact event_like _ _ _
theorem execTimeRead_like (reader : Fin 5) (s : State) : EventLike s (execTimeRead reader s) := by
  unfold execTimeRead; exact event_like _ _ _
theorem execPtpSample_like (src : Src) (v : Word) (s : State) : EventLike s (execPtpSample src v s) := by
  unfold execPtpSample; exact event_like _ _ _
theorem execServoHoldover_like (s : State) : EventLike s (execServoHoldover s) := by
  unfold execServoHoldover; exact event_like _ _ _
theorem execTimeComparatorMatch_like (k : Fin 8) (s : State) : EventLike s (execTimeComparatorMatch k s) := by
  unfold execTimeComparatorMatch; exact event_like _ _ _
theorem execTimCmpArm_like (src : Src) (k : Fin 8) (s : State) : EventLike s (execTimCmpArm src k s) := by
  unfold execTimCmpArm; exact event_like _ _ _
theorem execTimCmpDisarm_like (src : Src) (k : Fin 8) (s : State) : EventLike s (execTimCmpDisarm src k s) := by
  unfold execTimCmpDisarm; exact event_like _ _ _
theorem execTimTxqPop_like (src : Src) (p : Fin 2) (s : State) : EventLike s (execTimTxqPop src p s) := by
  unfold execTimTxqPop; exact event_like _ _ _
theorem execTimCntClr_like (src : Src) (s : State) : EventLike s (execTimCntClr src s) := by
  unfold execTimCntClr; exact event_like _ _ _
theorem execEthFrameReceive_like (p : Fin 2) (frame : List Byte) (fcsOk : Bool) (bad : Nat) (pos : Nat) (s : State) : EventLike s (execEthFrameReceive p frame fcsOk bad pos s) := by
  unfold execEthFrameReceive; exact event_like _ _ _
theorem execEthFrameSent_like (p : Fin 2) (pos : Nat) (s : State) : EventLike s (execEthFrameSent p pos s) := by
  unfold execEthFrameSent; exact event_like _ _ _
theorem execEthLinkUp_like (p : Fin 2) (lp : Option Nat) (s : State) : EventLike s (execEthLinkUp p lp s) := by
  unfold execEthLinkUp; exact event_like _ _ _
theorem execEthLinkDown_like (p : Fin 2) (s : State) : EventLike s (execEthLinkDown p s) := by
  unfold execEthLinkDown; exact event_like _ _ _
theorem execTxStart_like (src : Src) (p : Fin 2) (s : State) : EventLike s (execTxStart src p s) := by
  unfold execTxStart; exact event_like _ _ _
theorem execTxStop_like (src : Src) (p : Fin 2) (s : State) : EventLike s (execTxStop src p s) := by
  unfold execTxStop; exact event_like _ _ _
theorem execRxStart_like (src : Src) (p : Fin 2) (s : State) : EventLike s (execRxStart src p s) := by
  unfold execRxStart; exact event_like _ _ _
theorem execRxStop_like (src : Src) (p : Fin 2) (s : State) : EventLike s (execRxStop src p s) := by
  unfold execRxStop; exact event_like _ _ _
theorem execEthCntClr_like (src : Src) (p : Fin 2) (s : State) : EventLike s (execEthCntClr src p s) := by
  unfold execEthCntClr; exact event_like _ _ _
theorem execCanFrameReceived_like (c : Fin 2) (ide : Bool) (id : Nat) (fdf : Bool) (brs : Bool) (esi : Bool) (rtr : Bool) (dlc : Nat) (data : List Byte) (sof : Nat) (s : State) : EventLike s (execCanFrameReceived c ide id fdf brs esi rtr dlc data sof s) := by
  unfold execCanFrameReceived; exact event_like _ _ _
theorem execCanFrameSent_like (c : Fin 2) (s : State) : EventLike s (execCanFrameSent c s) := by
  unfold execCanFrameSent; exact event_like _ _ _
theorem execCanError_like (c : Fin 2) (kind : Nat) (data : Bool) (dt : Nat) (dr : Nat) (s : State) : EventLike s (execCanError c kind data dt dr s) := by
  unfold execCanError; exact event_like _ _ _
theorem execCanRecover_like (src : Src) (c : Fin 2) (s : State) : EventLike s (execCanRecover src c s) := by
  unfold execCanRecover; exact event_like _ _ _
theorem execCanRecoveryDone_like (c : Fin 2) (s : State) : EventLike s (execCanRecoveryDone c s) := by
  unfold execCanRecoveryDone; exact event_like _ _ _
theorem execCanStart_like (src : Src) (c : Fin 2) (s : State) : EventLike s (execCanStart src c s) := by
  unfold execCanStart; exact event_like _ _ _
theorem execCanStop_like (src : Src) (c : Fin 2) (s : State) : EventLike s (execCanStop src c s) := by
  unfold execCanStop; exact event_like _ _ _
theorem execCanTxreq_like (src : Src) (c : Fin 2) (k : Fin 2) (mask : Word) (s : State) : EventLike s (execCanTxreq src c k mask s) := by
  unfold execCanTxreq; exact event_like _ _ _
theorem execCanTxcan_like (src : Src) (c : Fin 2) (k : Fin 2) (mask : Word) (s : State) : EventLike s (execCanTxcan src c k mask s) := by
  unfold execCanTxcan; exact event_like _ _ _
theorem execCanBufferLock_like (c : Fin 2) (b : Nat) (s : State) : EventLike s (execCanBufferLock c b s) := by
  unfold execCanBufferLock; exact event_like _ _ _
theorem execCanBufferRelease_like (c : Fin 2) (b : Nat) (s : State) : EventLike s (execCanBufferRelease c b s) := by
  unfold execCanBufferRelease; exact event_like _ _ _
theorem execTtColumnStart_like (c : Fin 2) (s : State) : EventLike s (execTtColumnStart c s) := by
  unfold execTtColumnStart; exact event_like _ _ _
theorem execCanCntClr_like (src : Src) (c : Fin 2) (s : State) : EventLike s (execCanCntClr src c s) := by
  unfold execCanCntClr; exact event_like _ _ _
theorem execIcuEntry_like (n : Fin 4) (pc : Word) (mstatus : Word) (mtvec : Word) (priv : Nat) (s : State) : EventLike s (execIcuEntry n pc mstatus mtvec priv s) := by
  unfold execIcuEntry; exact event_like _ _ _
theorem execIcuReturn_like (n : Fin 4) (s : State) : EventLike s (execIcuReturn n s) := by
  unfold execIcuReturn; exact event_like _ _ _
theorem execIcuSwi_like (src : Src) (mask : Word) (s : State) : EventLike s (execIcuSwi src mask s) := by
  unfold execIcuSwi; exact event_like _ _ _
theorem execIcuClr_like (src : Src) (s : State) : EventLike s (execIcuClr src s) := by
  unfold execIcuClr; exact event_like _ _ _
theorem execCoreWfi_like (n : Fin 4) (deep : Bool) (pc : Word) (mstatus : Word) (s : State) : EventLike s (execCoreWfi n deep pc mstatus s) := by
  unfold execCoreWfi; exact event_like _ _ _
theorem execCoreWake_like (n : Fin 4) (s : State) : EventLike s (execCoreWake n s) := by
  unfold execCoreWake; exact event_like _ _ _
theorem execLockstepMismatch_like (n : Fin 4) (s : State) : EventLike s (execLockstepMismatch n s) := by
  unfold execLockstepMismatch; exact event_like _ _ _
theorem execDebugHalt_like (n : Fin 4) (cause : Nat) (pc : Word) (s : State) : EventLike s (execDebugHalt n cause pc s) := by
  unfold execDebugHalt; exact event_like _ _ _
theorem execDebugResume_like (n : Fin 4) (s : State) : EventLike s (execDebugResume n s) := by
  unfold execDebugResume; exact event_like _ _ _
theorem execEvcSnap_like (src : Src) (mask : Word) (s : State) : EventLike s (execEvcSnap src mask s) := by
  unfold execEvcSnap; exact event_like _ _ _
theorem execEvcClr_like (src : Src) (mask : Word) (s : State) : EventLike s (execEvcClr src mask s) := by
  unfold execEvcClr; exact event_like _ _ _
theorem execSysMramClr_like (src : Src) (s : State) : EventLike s (execSysMramClr src s) := by
  unfold execSysMramClr; exact event_like _ _ _
theorem execSysTextClr_like (src : Src) (s : State) : EventLike s (execSysTextClr src s) := by
  unfold execSysTextClr; exact event_like _ _ _
theorem execLaneCodeError_like (n : Nat) (group : Nat) (s : State) : EventLike s (execLaneCodeError n group s) := by
  unfold execLaneCodeError; exact event_like _ _ _
theorem execVerifyPendingDone_like (s : State) : EventLike s (execVerifyPendingDone s) := by
  unfold execVerifyPendingDone; exact event_like _ _ _
theorem execBootMramWindowEntry_like (mramT : Int) (s : State) : EventLike s (execBootMramWindowEntry mramT s) := by
  unfold execBootMramWindowEntry; exact event_like _ _ _
theorem execGvReleaseTimeout_like (s : State) : EventLike s (execGvReleaseTimeout s) := by
  unfold execGvReleaseTimeout; exact event_like _ _ _
theorem execPwmCompareEdge_like (h : Fin 6) (u : Nat) (s : State) : EventLike s (execPwmCompareEdge h u s) := by
  unfold execPwmCompareEdge; exact event_like _ _ _
theorem execJ3InputChange_like (h : Fin 6) (pulse : Bool) (en : Bool) (s : State) : EventLike s (execJ3InputChange h pulse en s) := by
  unfold execJ3InputChange; exact event_like _ _ _
theorem execInterlockRelease_like (h : Fin 6) (hi : Bool) (s : State) : EventLike s (execInterlockRelease h hi s) := by
  unfold execInterlockRelease; exact event_like _ _ _
theorem execSegLinkReturn_like (h : Fin 6) (s : State) : EventLike s (execSegLinkReturn h s) := by
  unfold execSegLinkReturn; exact event_like _ _ _
theorem execGateRailReturn_like (h : Fin 6) (hi : Bool) (s : State) : EventLike s (execGateRailReturn h hi s) := by
  unfold execGateRailReturn; exact event_like _ _ _
theorem execPwmClockReturn_like (s : State) : EventLike s (execPwmClockReturn s) := by
  unfold execPwmClockReturn; exact event_like _ _ _
theorem execEccReadError_like (addr : Nat) (double : Bool) (core : Option Nat) (s : State) : EventLike s (execEccReadError addr double core s) := by
  unfold execEccReadError; exact event_like _ _ _
theorem execCanTxStart_like (c : Fin 2) (pos : Nat) (s : State) : EventLike s (execCanTxStart c pos s) := by
  unfold execCanTxStart; exact event_like _ _ _
theorem execDmiAccess_like (scan : JtagScan) (addr : Nat) (v : Word) (s : State) : EventLike s (execDmiAccess scan addr v s) := by
  unfold execDmiAccess; exact event_like _ _ _

/-- Every command is an event. -/
theorem exec_like (c : Instr) (s : State) : EventLike s (exec c s) := by
  cases c <;> simp only [exec]
  · exact execRegisterWrite_like _ _ _ _ _
  · exact execTruCmtGo_like _ _
  · exact execTruStgClr_like _ _
  · exact execUzopexReassemblyTimeout_like _ _
  · exact execCommit_like _
  · exact execVerifyPending_like _
  · exact execPromote_like _
  · exact execPromoteCopyStep_like _
  · exact execClearPending_like _
  · exact execBankCommit_like _
  · exact execBankDigestDone_like _
  · exact execGrant_like _
  · exact execRevoke_like _
  · exact execSessionExpiry_like _ _
  · exact execDebugUnlock_like _
  · exact execDebugExpiry_like _
  · exact execTruDbgLock_like _
  · exact execProvision_like _
  · exact execLogAttGo_like _
  · exact execAttestationDone_like _
  · exact execMramNoResult_like _
  · exact execModeRequest_like _ _
  · exact execResetRequest_like _ _
  · exact execRideThroughLimit_like _
  · exact execBuildUpLimit_like _
  · exact execGridRecovered_like _
  · exact execPowerOnReset_like _
  · exact execSupplyMonitorReset_like _ _
  · exact execRailReturn_like _
  · exact execNresetLow_like _
  · exact execNresetDebounced_like _
  · exact execNresetGlitch_like _
  · exact execNresetRelease_like _
  · exact execWatchdogKick_like _ _ _
  · exact execWatchdogTimeout_like _ _
  · exact execBootStart_like _ _ _
  · exact execBootEnd_like _
  · exact execRetentionSaveDone_like _
  · exact execWakeEvent_like _ _
  · exact execWakeComplete_like _
  · exact execCycleBoundary_like _
  · exact execTelemetryDeadline_like _
  · exact execLaneCdrLocked_like _ _
  · exact execLaneAligned_like _ _ _
  · exact execLossOfSync_like _ _ _
  · exact execLossOfSignal_like _ _ _
  · exact execElasticBufferOverflow_like _ _ _ _
  · exact execPrbsLock_like _ _ _
  · exact execPrbsLockLoss_like _ _ _
  · exact execLnkSnap_like _ _
  · exact execLnkClrPrbs_like _ _
  · exact execLnkClrCode_like _ _
  · exact execLnkSnapAll_like _
  · exact execLnkInj_like _ _ _
  · exact execAuxSourceChange_like _ _
  · exact execPeerBeaconReceive_like _ _ _ _
  · exact execTelemetryRecordReceive_like _ _ _ _
  · exact execLnkMbyClr_like _ _
  · exact execLnkTlmSnap_like _ _ _
  · exact execCorrectionEnd_like _
  · exact execPredictionEnd_like _
  · exact execModulatorDone_like _
  · exact execModCntClr_like _
  · exact execStateSegmentReceive_like _ _ _
  · exact execCopyMissed_like _
  · exact execStatusReceive_like _ _ _
  · exact execRelayReceive_like _ _ _ _
  · exact execSampleSend_like _
  · exact execSampleReceive_like _ _ _
  · exact execHelloReceive_like _ _ _
  · exact execBulkSend_like _ _ _ _ _
  · exact execBulkReceive_like _ _ _
  · exact execGvCheckDone_like _ _
  · exact execPtnCtrlYield_like _
  · exact execPtnCtrlPreset_like _
  · exact execPtnCntClr_like _ _
  · exact execPwmPeriodBoundary_like _ _
  · exact execPwmStart_like _ _ _
  · exact execPwmStop_like _ _ _
  · exact execPwmArm_like _ _ _
  · exact execSynEdge_like _ _ _
  · exact execSynLost_like _
  · exact execMaskSwEvent_like _ _ _
  · exact execCommInEdge_like _ _
  · exact execPwmClockStop_like _
  · exact execPwmCntClr_like _ _
  · exact execDeadTimeElapsed_like _ _ _
  · exact execGateEdgeMeasured_like _ _ _ _ _
  · exact execDesatTrip_like _ _ _ _
  · exact execGcmTrip_like _ _ _
  · exact execGovTrip_like _ _ _
  · exact execUvloTrip_like _ _ _
  · exact execSegLinkLoss_like _ _
  · exact execGatePowerLimit_like _ _
  · exact execSoftTurnOffEnd_like _ _ _ _
  · exact execGdrDirsw_like _ _ _ _
  · exact execGdrClr_like _ _
  · exact execGdrCntClr_like _ _
  · exact execGdrSnap_like _ _
  · exact execAdcOutput_like _ _ _ _ _ _
  · exact execAdcResync_like _ _ _
  · exact execAdcSegmentLoss_like _ _
  · exact execAdcSegmentReturn_like _ _
  · exact execAdcChSnap_like _ _ _
  · exact execAdcSnapAll_like _ _
  · exact execAdcCntClr_like _ _
  · exact execMeterSnap_like _ _
  · exact execMeterClear_like _ _
  · exact execHkEntryDone_like _ _ _
  · exact execHkpUrg_like _ _ _ _
  · exact execHkUrgentDone_like _ _ _
  · exact execFltQPop_like _ _
  · exact execFltClr_like _ _
  · exact execFltSw_like _ _ _
  · exact execFltSrcSel_like _ _ _
  · exact execFltCntClr_like _ _
  · exact execDieShutdown_like _
  · exact execSiDemand_like _ _
  · exact execPCycle_like _ _ _ _ _ _ _ _ _ _ _
  · exact execHeartbeatLoss_like _
  · exact execTestReqTimeout_like _
  · exact execDiscLatch_like _ _
  · exact execSafeDataTimeout_like _
  · exact execSecondCopyTimeout_like _
  · exact execSpsAdopt_like _
  · exact execPreEnergiseStep_like _ _ _ _ _
  · exact execDarkTestInstant_like _
  · exact execDarkPulse_like _ _ _
  · exact execIslandStartup_like _
  · exact execSafe24Loss_like _
  · exact execIslandSummaryLine_like _
  · exact execMirrorFrame_like _
  · exact execMirrorTimeout_like _
  · exact execRecArm_like _ _
  · exact execRecStop_like _ _
  · exact execRecTrig_like _ _
  · exact execTrigInEdge_like _ _ _
  · exact execXtrigEdge_like _ _ _
  · exact execXtrigRelease_like _
  · exact execRecSegRel_like _ _ _
  · exact execRecCntClr_like _ _
  · exact execRefclkLoss_like _
  · exact execRefclkGood_like _
  · exact execSysPllRelock_like _ _
  · exact execSysPllUnlock_like _ _
  · exact execSynLockLoss_like _
  · exact execSynReacquire_like _
  · exact execSyncPinEdge_like _ _ _
  · exact execClkSyncSw_like _ _
  · exact execClkSyncArm_like _ _
  · exact execClkOutEn_like _ _ _
  · exact execRiseStart_like _ _ _
  · exact execRiseStop_like _ _ _
  · exact execRiseSegmentEnd_like _ _
  · exact execClkCntClr_like _ _
  · exact execTimSet_like _ _
  · exact execTimStep_like _ _
  · exact execTimeRead_like _ _
  · exact execPtpSample_like _ _ _
  · exact execServoHoldover_like _
  · exact execTimeComparatorMatch_like _ _
  · exact execTimCmpArm_like _ _ _
  · exact execTimCmpDisarm_like _ _ _
  · exact execTimTxqPop_like _ _ _
  · exact execTimCntClr_like _ _
  · exact execEthFrameReceive_like _ _ _ _ _ _
  · exact execEthFrameSent_like _ _ _
  · exact execEthLinkUp_like _ _ _
  · exact execEthLinkDown_like _ _
  · exact execTxStart_like _ _ _
  · exact execTxStop_like _ _ _
  · exact execRxStart_like _ _ _
  · exact execRxStop_like _ _ _
  · exact execEthCntClr_like _ _ _
  · exact execCanFrameReceived_like _ _ _ _ _ _ _ _ _ _ _
  · exact execCanFrameSent_like _ _
  · exact execCanError_like _ _ _ _ _ _
  · exact execCanRecover_like _ _ _
  · exact execCanRecoveryDone_like _ _
  · exact execCanStart_like _ _ _
  · exact execCanStop_like _ _ _
  · exact execCanTxreq_like _ _ _ _ _
  · exact execCanTxcan_like _ _ _ _ _
  · exact execCanBufferLock_like _ _ _
  · exact execCanBufferRelease_like _ _ _
  · exact execTtColumnStart_like _ _
  · exact execCanCntClr_like _ _ _
  · exact execIcuEntry_like _ _ _ _ _ _
  · exact execIcuReturn_like _ _
  · exact execIcuSwi_like _ _ _
  · exact execIcuClr_like _ _
  · exact execCoreWfi_like _ _ _ _ _
  · exact execCoreWake_like _ _
  · exact execLockstepMismatch_like _ _
  · exact execDebugHalt_like _ _ _ _
  · exact execDebugResume_like _ _
  · exact execEvcSnap_like _ _ _
  · exact execEvcClr_like _ _ _
  · exact execSysMramClr_like _ _
  · exact execSysTextClr_like _ _
  · exact execLaneCodeError_like _ _ _
  · exact execVerifyPendingDone_like _
  · exact execBootMramWindowEntry_like _ _
  · exact execGvReleaseTimeout_like _
  · exact execPwmCompareEdge_like _ _ _
  · exact execJ3InputChange_like _ _ _ _
  · exact execInterlockRelease_like _ _ _
  · exact execSegLinkReturn_like _ _
  · exact execGateRailReturn_like _ _ _
  · exact execPwmClockReturn_like _
  · exact execEccReadError_like _ _ _ _
  · exact execCanTxStart_like _ _ _
  · exact execDmiAccess_like _ _ _ _

end Sys2Proof.Machine
end

