-- ==== Sys2Proof/Tests/Slice0.lean ====
section
/-!
SUPPORT. Tests: the checks of WellFormed, worked examples of the spec, and for every statement with hypotheses a state and operands that
meet them, clause by clause.
-/
section
set_option Elab.async false
open Sys2Proof Sys2Proof.Machine
namespace Sys2Proof.Tests

/-! ## WellFormed refuses an ill-formed operand, one for each check -/

theorem test_wf_refuses_1 :
    ([.registerWrite .hpi (2 ^ 32) 1 0, .registerWrite .hpi 0 3 0, .truCmtGo 5, .truStgClr 5,
      .uzopexReassemblyTimeout 4, .sessionExpiry 4, .modeRequest 8, .resetRequest 65536,
      .supplyMonitorReset 7, .watchdogKick 4 0, .watchdogKick 0 (2 ^ 32), .watchdogTimeout 4,
      .wakeEvent 1, .wakeEvent 6, .laneCdrLocked 16, .laneAligned 16 [],
      .lossOfSync 16 [], .lossOfSignal 16 0, .lossOfSignal 0 4, .elasticBufferOverflow 16 false 0,
      .prbsLock 16 [], .prbsLockLoss 16 [], .lnkSnap 16, .lnkClrPrbs 16] : List Instr).all (fun c => !c.wf) = true := by decide +kernel

theorem test_wf_refuses_2 :
    ([.lnkClrCode 16, .lnkInj .hpi 16, .auxSourceChange 2, .peerBeaconReceive 12 [] 0,
      .peerBeaconReceive 0 [1024] 0, .peerBeaconReceive 0 [] (2 ^ 16), .telemetryRecordReceive 12 [] 0, .telemetryRecordReceive 0 [1024] 0,
      .lnkMbyClr 12, .lnkTlmSnap 12 0, .lnkTlmSnap 0 16, .stateSegmentReceive 2 [],
      .stateSegmentReceive 0 [1024], .statusReceive 2 [], .statusReceive 0 [1024], .relayReceive 2 [] 0,
      .relayReceive 0 [1024] 0, .sampleReceive 2 [], .sampleReceive 0 [1024], .helloReceive 2 [],
      .helloReceive 0 [1024], .bulkSend 2 1 0 0, .bulkSend 0 3 0 0, .bulkReceive 2 []] : List Instr).all (fun c => !c.wf) = true := by decide +kernel

theorem test_wf_refuses_3 :
    ([.bulkReceive 0 [1024], .pwmPeriodBoundary 2, .synEdge 8 0, .synEdge 0 32,
      .gatePowerLimit [], .gdrClr (2 ^ 32), .adcOutput 0 false 0 false 8, .hkEntryDone [0, 0, 0, 0, 2 ^ 32] [0, 0, 0, 0, 0],
      .hkEntryDone [0, 0, 0, 0, 0] [0, 0, 0, 0, 2 ^ 32], .hkpUrg .hpi 16 0, .hkpUrg .hpi 0 16, .hkUrgentDone [0, 0, 0, 0, 2 ^ 32] [0, 0, 0, 0, 0],
      .hkUrgentDone [0, 0, 0, 0, 0] [0, 0, 0, 0, 2 ^ 32], .fltClr (2 ^ 32), .siDemand 256, .pCycle 256 0 0 0 0 0 0 0 false 0,
      .discLatch 4, .preEnergiseStep 3 0 0 false, .trigInEdge false 32, .xtrigEdge false 32,
      .syncPinEdge false 32, .ethLinkUp 0 (some 65536), .canFrameReceived 0 false (2 ^ 29) false false false false 0 [] 0, .canFrameReceived 0 false 0 false false false false 16 [] 0] : List Instr).all (fun c => !c.wf) = true := by decide +kernel

theorem test_wf_refuses_4 :
    ([.canError 0 7 false 0 0, .canBufferLock 0 64, .canBufferRelease 0 64, .icuEntry 0 0 0 0 1,
      .debugHalt 0 0 0, .debugHalt 0 5 0, .laneCodeError 16 0, .laneCodeError 0 1024,
      .pwmCompareEdge 0 (2 ^ 32), .eccReadError (2 ^ 32) false none, .canTxStart 0 32, .dmiAccess (.dmi 0) 128 0] : List Instr).all (fun c => !c.wf) = true := by decide +kernel

/-! ## Worked examples and check values of the spec -/

/-- R139: the check value of the frame check over "123456789". -/
theorem test_crc32 : crc32 [0x31, 0x32, 0x33, 0x34, 0x35, 0x36, 0x37, 0x38, 0x39] = 0xCBF43926 := by decide +kernel

/-- R374: the check value of the SCRC over "123456789". -/
theorem test_crc32c : crc32c [0x31, 0x32, 0x33, 0x34, 0x35, 0x36, 0x37, 0x38, 0x39] = 0xE3069283 := by decide +kernel

/-- SHA-256 of "abc", the example of the public standard (FIPS 180). -/
theorem test_sha256 : (sha256 [0x61, 0x62, 0x63]).take 4 = [0xBA, 0x78, 0x16, 0xBF] := by decide +kernel

/-- R8, example: a lane register at offset 0x010 of lane L5. -/
theorem test_address_lane : Reg.LNK_CERR 5 = 0x32810 := by decide +kernel

/-- R400, example: NSEG 4 and NSIG 16 give SEG_BYTES, F, CAP, the start of segment 1 and the address of its frame 2,156. -/
theorem test_recorder_geometry :
    let s := State.reset.putN Reg.REC_CFG 0x410
    State.segBytesOf 4 = 1572864 ∧ s.frameBytes = 88 ∧ s.recCap = 17844 ∧ s.segBase 1 = 0x680000 ∧ s.frameAt 1 2156 = 0x6AEF20 := by decide +kernel

/-- R442, example: target 0x100 at time 0xFFFF_FFFF_FFFF_FF00 is 512 ns away. -/
theorem test_comparator_wrap : State.diff64 0xFFFFFFFFFFFFFF00 0x100 = -512 := by decide +kernel

/-- R444, example: the median of 12, 14 and 10 is 12. -/
theorem test_partner_median : State.median [12, 14, 10] = 12 := by decide +kernel

/-- R444, example: with an integral of 200 ppb a partner sample of 1.5 ns gives ADDEND 0xFFFF_C6B5 and an integral of 207.5 ppb. -/
theorem test_servo :
    let t := (State.reset.putN Reg.TIM_SRV_INTEG 0x43480000).servoSample (Fl.of32 0x3FC00000) false
    t.getN Reg.TIM_ADDEND = 0xFFFFC6B5 ∧ t.getN Reg.TIM_SRV_INTEG = 0x434F8000 := by decide +kernel

/-- R69: the reset values of SYS_MODE and SYS_RESET_CAUSE; R131: LNK_PHY_CFG. -/
theorem test_reset_values : State.reset.getN Reg.SYS_MODE = 1 ∧ State.reset.getN Reg.SYS_RESET_CAUSE = 1 ∧ State.reset.getN (Reg.LNK_PHY_CFG 3) = 0x628 := by
  decide +kernel

/-- R475 through R15: the instruction set gives -1 for a division by 0, and the dividend for the remainder. -/
theorem test_divide_by_zero : rvMulDiv 4 7 0 = 0xFFFFFFFF ∧ rvMulDiv 6 7 0 = 7 ∧ rvMulDiv 4 0x80000000 0xFFFFFFFF = 0x80000000 := by decide +kernel

/-- The queue of commands is served in order, one command a step. -/
theorem test_step_takes_front :
    (match step { State.reset with tickNo := 250000, pending := [.railReturn, .powerOnReset] } with
      | .next t => t.pending == [.powerOnReset] && !t.sys.supplyBad
      | _ => false) = true := by decide +kernel

/-- What a step answers is a next state. -/
def goes (o : Host.Outcome State Fault Refusal) : Bool := match o with
  | .next _ => true
  | _ => false

theorem goes_next (o : Host.Outcome State Fault Refusal) (h : goes o = true) : ∃ t, o = .next t := by
  cases o with
  | next t => exact ⟨t, rfl⟩
  | fault _ => cases h
  | refused _ => cases h

/-! ## States that meet the hypotheses of the statements -/

/-- The state at the start of its tick: what the tick opened with is what stands. -/
def opened (s : State) : State := { s with sys := { s.sys with tickRegs := s.regs, tickMode := s.mode, tickBank := s.tru.bank.isSome, tickRun := s.pwm.groups.map fun g => g.run } }
/-- The module runs in mode m, from reset. -/
def run (m : Nat) : State :=
  ({ State.reset with sys := { State.reset.sys with phase := .run, supplyBad := false, recipeOk := true, tickMode := m }, cores := { State.reset.cores with core := List.replicate 4 { released := true } }, tickNo := 1000000 } : State).putN Reg.SYS_MODE m |> opened
/-- The code-groups of these code-groups' meanings, from negative running disparity. -/
def enc (l : List Sym) : List Nat := (l.foldl (fun p x => (p.1 ++ [encode p.2 x], afterGroup p.2 (encode p.2 x))) (([] : List Nat), false)).1
/-- A frame on a lane. -/
def onLine (first : Sym) (f : List Byte) : List Nat := enc (frameSyms first f)
/-- The bits of code-groups. -/
def bitsOf (gs : List Nat) : List Bool := gs.flatMap groupBits
/-- Idle pairs. -/
def idles (k : Nat) : List Bool := bitsOf (enc ((List.range k).flatMap fun _ => [kIdle, dIdle]))
/-- The descriptor of a register. -/
def rd (a : Nat) : RegDesc := (regDesc? a).getD ⟨0, 1, 0, 1, 0, .ro, 0, 0, false⟩
/-- The module runs in mode m with programs present and valid and the island's limits on. -/
def eng (m : Nat) : State :=
  let s := (((run m).putN Reg.SYS_MODE_PERM 0xFF).putN Reg.KNE_PROG_STAT 0xFFFF).putN Reg.SAF_OUT 0xC0000
  opened { s with kne := { s.kne with present := [true, true, true, true] } }

def natB (v n : Nat) : List Byte := (List.range n).map fun i => BitVec.ofNat 8 (v / 256 ^ (n - 1 - i))
def pub : List Byte := natB 0x11de24a2c251c777573cac5ea025e467f208e51dbff98fc54f6661cbe56583b037882f4a1ca297e60abcdbc3836d84bc8fa696c77440f92d0f5837e90a00e7c5284b447754d5dee88c986533b6901aeb3177686d0ae8fb33184414abe6c1713a 96
def hdr (op form flags keyid : Nat) (p : List Byte) : List Byte :=
  leBytes 4 0x444D4350 ++ leBytes 2 1 ++ leBytes 2 op ++ leBytes 8 1 ++ leBytes 8 0 ++ leBytes 1 form ++ leBytes 1 flags ++ leBytes 2 0
    ++ leBytes 4 keyid ++ leBytes 4 p.length ++ leBytes 8 0 ++ leBytes 4 0 ++ sha384 p
def sessKey : List Byte := List.replicate 32 0x5A
/-- A command of a session. -/
def hm (op : Nat) (p : List Byte) : Cmd :=
  { src := 2, port := 0, reply := [], hdr := hdr op 2 0 0x99 p, auth := (hmac256 sessKey (hdr op 2 0 0x99 p)).take 16, key := [], payload := p, badFormat := false, stageBad := false }
def sess : SessSlot := { held := some { id := 0x99, key := sessKey, keyid := 1, life := 60, left := 60, perm := 0xB6 } }
/-- A command of the owner. -/
def ow (op : Nat) (p : List Byte) (sig : Nat) : Cmd :=
  { src := 0, port := 0, reply := [], hdr := hdr op 1 1 (keyIdOf pub) p, auth := natB sig 96, key := pub, payload := p, badFormat := false, stageBad := false }
/-- The state with a command in front. -/
def front (s : State) (c : Cmd) : State :=
  { s with fuses := { s.fuses with ownerHash := some (sha384 pub) }, tru := { s.tru with sessions := [sess, {}, {}, {}], queue := [c] } }
def commitPay : List Byte := leBytes 4 1 ++ leBytes 4 0x01700000 ++ leBytes 4 4 ++ leBytes 4 0 ++ leBytes 4 Reg.SYS_STBY_CFG ++ leBytes 4 0xF5 ++ [1, 2, 3, 4]
def commitBody : CommitBody := { entries := [(Reg.SYS_STBY_CFG, 0xF5)], runAddr := 0x01700000, run := [1, 2, 3, 4] }
def promoteCmd : Cmd := ow 3 (List.replicate 48 0) 0x283c1d7365ce4788f29f8ebf234edffead6fe997fbea5ffa2d58cc9dfa7b1c508b05526f55b9ebb2040f05b48fb6d0e17e54a59fa1c5b3005f5094387280c09f27919799d28570552494732862396bd8864dea250b741b971129542ecf36262f
def grantCmd : Cmd := ow 6 (leBytes 4 0x77 ++ leBytes 4 60 ++ leBytes 4 2 ++ leBytes 4 0 ++ natB 0x8f0a39a4049bcb3ef1bf29b8b025b78f2216f7291e6fd3bac6cb1ee285fb6e21c388528bfee2b9535c55e4461079118b62c77e1438b601d6452c4a5322c3a9799a9b3d7ca3c400c6b7678854aed9b3029e743efedfd51b68262da4f9ac664af8 96) 0x283c1d7365ce4788f29f8ebf234edffead6fe997fbea5ffa2d58cc9dfa7b1c508b05526f55b9ebb2040f05b48fb6d0e15554810f47c6ad3479ccec54890588bc301c6d713c59e389a79568f91f157fda3d60dae8d34f9705804e40ea41d536db
def debugCmd : Cmd := ow 8 [3, 1, 0, 0, 60, 0, 0, 0] 0x283c1d7365ce4788f29f8ebf234edffead6fe997fbea5ffa2d58cc9dfa7b1c508b05526f55b9ebb2040f05b48fb6d0e13dae227f3e71d58efac401730c406e158149660487e17b74dbc18a006c9a6d95ce94bafde9d6a4f39f8bb99614c78547
def provCmd : Cmd := ow 9 pub 0x283c1d7365ce4788f29f8ebf234edffead6fe997fbea5ffa2d58cc9dfa7b1c508b05526f55b9ebb2040f05b48fb6d0e18766c03b6fb6f226379a7936644f121b8ab1637223ecbf1df437e2bfb8ba11df27048af2d79d3970f79a2b3263b315d9
def bankBytes : List Byte := leBytes 4 0x4B4E4442 ++ leBytes 2 1 ++ leBytes 2 0 ++ leBytes 4 0x200 ++ List.replicate (0x200 - 12) 0

/-- The hypotheses of IdleStepTicks, CommandsEnd and StepKeepsInvariant: a running state with no command, and one with a command. -/
theorem test_step_hypotheses :
    (run 3).pending = [] ∧ (run 3).Inv ∧ (∃ t, step (run 3) = .next t) ∧ (∃ t, exec .mramNoResult (run 3) = .next t)
      ∧ ∃ t, step { run 3 with pending := [.mramNoResult] } = .next t := by
  refine ⟨by decide +kernel, ⟨⟨by decide +kernel, by decide +kernel, by decide +kernel, by decide +kernel⟩, ?_⟩,
    goes_next _ (by decide +kernel), goes_next _ (by decide +kernel), goes_next _ (by decide +kernel)⟩
  intro c h
  rw [show (run 3).pending = [] by decide +kernel] at h
  cases h

/-- The hypotheses of the third clause of CommandsEnd, with the same state before and after. -/
theorem test_command_end_hypotheses : (run 3).FltOk ∧ (run 3).flt = (run 3).flt ∧ ∀ a, State.queueReg a → (run 3).get a = (run 3).get a :=
  ⟨⟨by decide +kernel, by decide +kernel, by decide +kernel, by decide +kernel⟩, rfl, fun _ _ => rfl⟩

namespace TB
def w1 : State := (run 3)
def w2 : Src := (Src.core 2)
def w3 : State := (run 0)
def w4 : State := ({ run 3 with variant := .h })
def w5 : RegDesc := (rd Reg.SYS_ID)
def w6 : State := ({ run 3 with tru := { (run 3).tru with bank := some { bank := 1, length := 0, cycle := 0, digest := [], accepted := false, keyid := 0, counter := 0 } } })
def w7 : Src := (Src.core 0)
def w8 : Src := (Src.core 1)
def w9 : Nat := Reg.SYS_STBY_CFG
def w10 : RegDesc := (rd Reg.SYS_STBY_CFG)
def w11 : Stage := {}
def w12 : Src := (Src.core 3)
def w13 : Nat := Reg.SYS_MODE_REQ
def w14 : State := ({ run 3 with tru := { (run 3).tru with stages := List.replicate 5 { entries := List.replicate 1024 (0, 0) } } })
def w15 : RegDesc := (rd Reg.SYS_MODE_REQ)
def w16 : Stage := { entries := List.replicate 1024 (0, 0) }
def w17 : State := ({ run 3 with tru := { (run 3).tru with stages := List.replicate 5 { runAddr := 0x1000004, run := [1,2,3,4] } } })
def w18 : Stage := { runAddr := 0x1000004, run := [1,2,3,4] }
def w19 : Nat := (Reg.TRU_CMT_PTR 4)
def w20 : RegDesc := (rd (Reg.TRU_CMT_PTR 4))
def w21 : Nat := (Reg.TIM_SET_NS)
def w22 : RegDesc := (rd (Reg.TIM_SET_NS))
def w23 : State := (run 5)
def w24 : State := ({ run 5 with cores := { (run 5).cores with core := [] } })
def w25 : Nat := (Reg.TIM_CTRL)
def w26 : State := ((run 5))
def w27 : RegDesc := (rd (Reg.TIM_CTRL))
def w28 : Nat := (Reg.PWM_G_CFG 0)
def w29 : State := ((run 5).setGrp 0 fun g => { g with run := true })
def w30 : RegDesc := (rd (Reg.PWM_G_CFG 0))
def w31 : Nat := (Reg.CLK_MON_CFG)
def w32 : RegDesc := (rd (Reg.CLK_MON_CFG))
def w33 : Nat := (Reg.FLT_SW)
def w34 : RegDesc := (rd (Reg.FLT_SW))
def w35 : State := ((run 5).putN Reg.FLT_EVT 0x25)
def w36 : RegDesc := (rd (Reg.FLT_EVT))
def w37 : State := ({ (run 5).putN Reg.KNE_STAT 0xC1 with kne := { (run 5).kne with bank := 1 } })

/-- The hypotheses of RefusedWrites, clause by clause. -/
theorem test_RefusedWrites :
    ((w1.Runs) ∧ (w1.Sends Src.hpi) ∧ (65532 % 4 = 0) ∧ (65532 < 2 ^ 32) ∧ (65532 < 884736 ∧ ¬(589824 ≤ 65532 ∧ 65532 < 622592) ∧ State.canRamAt 65532 = none) ∧ (w1.regAt 65532 = none) ∧ (¬(196608 ≤ 65532 ∧ 65532 < 229376 ∧ 65532 % 2048 = 0 ∧ w1.laneAbsent ((65532 - 196608) / 2048) = true)))
      ∧ ((w3.Runs) ∧ (w3.Sends w2) ∧ (65532 % 4 = 0) ∧ (65532 < 2 ^ 32) ∧ (65532 < 884736 ∧ ¬(589824 ≤ 65532 ∧ 65532 < 622592) ∧ State.canRamAt 65532 = none) ∧ (w3.regAt 65532 = none) ∧ (¬(196608 ≤ 65532 ∧ 65532 < 229376 ∧ 65532 % 2048 = 0 ∧ w3.laneAbsent ((65532 - 196608) / 2048) = true)))
      ∧ ((w4.Runs) ∧ (w4.Sends w2) ∧ (210944 % 4 = 0) ∧ (210944 < 2 ^ 32) ∧ (210944 < 884736 ∧ ¬(589824 ≤ 210944 ∧ 210944 < 622592) ∧ State.canRamAt 210944 = none) ∧ (196608 ≤ 210944 ∧ 210944 < 229376 ∧ 210944 % 2048 = 0 ∧ w4.laneAbsent ((210944 - 196608) / 2048) = true))
      ∧ ((w1.Runs) ∧ (w1.Sends w2) ∧ (Reg.SYS_ID % 4 = 0) ∧ (Reg.SYS_ID < 2 ^ 32) ∧ (Reg.SYS_ID < 884736 ∧ ¬(589824 ≤ Reg.SYS_ID ∧ Reg.SYS_ID < 622592) ∧ State.canRamAt Reg.SYS_ID = none) ∧ (w1.regAt Reg.SYS_ID = some w5) ∧ (w5.acc = Access.ro))
      ∧ ((w1.Runs) ∧ (w1.Sends w2) ∧ (589824 % 4 = 0) ∧ (589824 < 2 ^ 32) ∧ (589824 ≤ 589824) ∧ (589824 < 622592))
      ∧ ((w1.Runs) ∧ (w1.Sends Src.hpi) ∧ (622588 % 4 = 0) ∧ (622588 < 2 ^ 32) ∧ (589824 ≤ 622588) ∧ (622588 < 622592))
      ∧ ((w1.Runs) ∧ (w1.Sends Src.hpi) ∧ (1048576 % 4 = 0) ∧ (1048576 < 2 ^ 32) ∧ (0 < 2) ∧ (State.bankBase 0 ≤ 1048576) ∧ (1048576 < State.bankBase 0 + 2097152) ∧ (w1.activeBank = 0 ∨ ∃ x, w1.tru.bank = some x ∧ x.bank = 0))
      ∧ ((w6.Runs) ∧ (w6.Sends Src.hpi) ∧ (5242876 % 4 = 0) ∧ (5242876 < 2 ^ 32) ∧ (1 < 2) ∧ (State.bankBase 1 ≤ 5242876) ∧ (5242876 < State.bankBase 1 + 2097152) ∧ (w6.activeBank = 1 ∨ ∃ x, w6.tru.bank = some x ∧ x.bank = 1))
      ∧ ((w1.Runs) ∧ (w1.Sends Src.hpi) ∧ (5242880 % 4 = 0) ∧ (5242880 < 2 ^ 32) ∧ (5242880 ≤ 5242880) ∧ (5242880 < 11534336))
      ∧ ((w1.Runs) ∧ (w1.Sends w7) ∧ (11534332 % 4 = 0) ∧ (11534332 < 2 ^ 32) ∧ (5242880 ≤ 11534332) ∧ (11534332 < 11534336))
      ∧ ((w1.Runs) ∧ (w1.Sends Src.hpi) ∧ (884736 % 4 = 0) ∧ (884736 < 2 ^ 32) ∧ (Src.hpi = Src.hpi) ∧ (884736 ≤ 884736 ∧ 884736 < 1048576 ∨ 11534336 ≤ 884736 ∧ 884736 < 16777216 ∨ 25165824 ≤ 884736 ∧ 884736 < 33554432 ∨ 37748736 ≤ 884736))
      ∧ ((w1.Runs) ∧ (w1.Sends Src.hpi) ∧ (4294967292 % 4 = 0) ∧ (4294967292 < 2 ^ 32) ∧ (Src.hpi = Src.hpi) ∧ (884736 ≤ 4294967292 ∧ 4294967292 < 1048576 ∨ 11534336 ≤ 4294967292 ∧ 4294967292 < 16777216 ∨ 25165824 ≤ 4294967292 ∧ 4294967292 < 33554432 ∨ 37748736 ≤ 4294967292))
      ∧ ((w1.Runs) ∧ (w1.Sends w8) ∧ (884736 % 4 = 0) ∧ (884736 < 2 ^ 32) ∧ (w8 = Src.core 1) ∧ (884736 ≤ 884736 ∧ 884736 < 1048576 ∨ 11534336 ≤ 884736 ∧ 884736 < 16777216 ∨ 25165824 ≤ 884736 ∧ 884736 < 33554432 ∨ 37748736 ≤ 884736 ∧ 884736 < 2147483648 ∨ 2147745792 ≤ 884736))
      ∧ ((w1.Runs) ∧ (w1.Sends w8) ∧ (2147745792 % 4 = 0) ∧ (2147745792 < 2 ^ 32) ∧ (w8 = Src.core 1) ∧ (884736 ≤ 2147745792 ∧ 2147745792 < 1048576 ∨ 11534336 ≤ 2147745792 ∧ 2147745792 < 16777216 ∨ 25165824 ≤ 2147745792 ∧ 2147745792 < 33554432 ∨ 37748736 ≤ 2147745792 ∧ 2147745792 < 2147483648 ∨ 2147745792 ≤ 2147745792)) := by
  repeat' apply And.intro
  all_goals decide +kernel

/-- The hypotheses of StagedWrites, clause by clause. -/
theorem test_StagedWrites :
    ((w1.Runs) ∧ (w1.Sends Src.hpi) ∧ (w9 % 4 = 0) ∧ (w9 < 884736) ∧ (¬(589824 ≤ w9 ∧ w9 < 622592)) ∧ (State.canRamAt w9 = none) ∧ (w1.regAt w9 = some w10) ∧ (w10.acc ≠ Access.ro) ∧ (Src.hpi = Src.hpi → w9 ≠ Reg.ICU_CTRL) ∧ (Src.hpi = Src.hpi ∧ State.freeWrite w10 w9 (BitVec.toNat (7 : Word)) = false ∨ Src.hpi ≠ Src.hpi ∧ w10.acc = Access.rws) ∧ (w1.tru.stages[srcCode Src.hpi]? = some w11))
      ∧ ((w14.Runs) ∧ (w14.Sends w12) ∧ (w13 % 4 = 0) ∧ (w13 < 884736) ∧ (¬(589824 ≤ w13 ∧ w13 < 622592)) ∧ (State.canRamAt w13 = none) ∧ (w14.regAt w13 = some w15) ∧ (w15.acc ≠ Access.ro) ∧ (w12 = Src.hpi → w13 ≠ Reg.ICU_CTRL) ∧ (w12 = Src.hpi ∧ State.freeWrite w15 w13 (BitVec.toNat (7 : Word)) = false ∨ w12 ≠ Src.hpi ∧ w15.acc = Access.rws) ∧ (w14.tru.stages[srcCode w12]? = some w16))
      ∧ ((w1.Runs) ∧ (BitVec.getLsbD (349440 : Word) 0 = false) ∧ (349440 ≠ 0) ∧ (w1.tru.stages[0]? = some w11) ∧ (w11.entries.length < 1024)) := by
  repeat' apply And.intro
  all_goals decide +kernel

/-- The hypotheses of StagedMramWrites, clause by clause. -/
theorem test_StagedMramWrites :
    ((w1.Runs) ∧ (w1.Sends w12) ∧ (16777216 % 4 = 0) ∧ (16777216 ≤ 16777216) ∧ (16777216 < 25165824) ∧ (w1.tru.stages[srcCode w12]? = some w11))
      ∧ ((w17.Runs) ∧ (w17.Sends Src.hpi) ∧ (16777216 % 4 = 0) ∧ (16777216 ≤ 16777216) ∧ (16777216 < 25165824) ∧ (w17.tru.stages[srcCode Src.hpi]? = some w18)) := by
  repeat' apply And.intro
  all_goals decide +kernel

/-- The hypotheses of DirectWrites, clause by clause. -/
theorem test_DirectWrites :
    ((w1.Awake) ∧ (w1.coreWrites ↑2 = true) ∧ (w19 ∈ [Reg.TRU_CMT_PTR 0, Reg.TRU_CMT_PTR 4, Reg.KNE_VRD_ADDR, Reg.CLK_MON_CFG, Reg.REC_TRIGCFG, Reg.TIM_SET_NS]) ∧ (regDesc? w19 = some w20) ∧ (w20.acc = Access.rwl → w1.locked w19 (maskAnd (BitVec.toNat (4294967295 : Word)) w20.mask) = false) ∧ (w1.writeOk (w1.after [(w19, maskAnd (BitVec.toNat (4294967295 : Word)) w20.mask)]) w19 (maskAnd (BitVec.toNat (4294967295 : Word)) w20.mask) = true))
      ∧ ((w1.Awake) ∧ (w1.coreWrites ↑2 = true) ∧ (w21 ∈ [Reg.TRU_CMT_PTR 0, Reg.TRU_CMT_PTR 4, Reg.KNE_VRD_ADDR, Reg.CLK_MON_CFG, Reg.REC_TRIGCFG, Reg.TIM_SET_NS]) ∧ (regDesc? w21 = some w22) ∧ (w22.acc = Access.rwl → w1.locked w21 (maskAnd (BitVec.toNat (3221225477 : Word)) w22.mask) = false) ∧ (w1.writeOk (w1.after [(w21, maskAnd (BitVec.toNat (3221225477 : Word)) w22.mask)]) w21 (maskAnd (BitVec.toNat (3221225477 : Word)) w22.mask) = true))
      ∧ ((w23.Awake) ∧ (w23.coreWrites ↑0 = true) ∧ (w23.kneOwned ↑4 = false))
      ∧ ((w24.Runs) ∧ (w24.coreWrites ↑2 = false)) := by
  repeat' apply And.intro
  all_goals decide +kernel

/-- The hypotheses of LockedAndBadValues, clause by clause. -/
theorem test_LockedAndBadValues :
    ((w26.Awake) ∧ (w26.coreWrites ↑2 = true) ∧ (w25 % 4 = 0) ∧ (w25 < 884736) ∧ (¬(589824 ≤ w25 ∧ w25 < 622592)) ∧ (State.canRamAt w25 = none) ∧ (w26.regAt w25 = some w27) ∧ (w27.acc ≠ Access.ro) ∧ (w27.acc ≠ Access.rws) ∧ (w26.mramBarred = false) ∧ (w27.acc = Access.rwl) ∧ (w26.locked w25 (maskAnd (BitVec.toNat (1 : Word)) w27.mask) = true))
      ∧ ((w29.Awake) ∧ (w29.coreWrites ↑2 = true) ∧ (w28 % 4 = 0) ∧ (w28 < 884736) ∧ (¬(589824 ≤ w28 ∧ w28 < 622592)) ∧ (State.canRamAt w28 = none) ∧ (w29.regAt w28 = some w30) ∧ (w30.acc ≠ Access.ro) ∧ (w30.acc ≠ Access.rws) ∧ (w29.mramBarred = false) ∧ (w30.acc = Access.rwl) ∧ (w29.locked w28 (maskAnd (BitVec.toNat (1 : Word)) w30.mask) = true))
      ∧ ((w26.Awake) ∧ (w26.coreWrites ↑2 = true) ∧ (w31 % 4 = 0) ∧ (w31 < 884736) ∧ (¬(589824 ≤ w31 ∧ w31 < 622592)) ∧ (State.canRamAt w31 = none) ∧ (w26.regAt w31 = some w32) ∧ (w32.acc ≠ Access.ro) ∧ (w32.acc ≠ Access.rws) ∧ (w26.mramBarred = false) ∧ (w32.acc = Access.rwl → w26.locked w31 (maskAnd (BitVec.toNat (0 : Word)) w32.mask) = false) ∧ (w32.acc ≠ Access.rw1c) ∧ (w26.writeOk (w26.after [(w31, maskAnd (BitVec.toNat (0 : Word)) w32.mask)]) w31 (maskAnd (BitVec.toNat (0 : Word)) w32.mask) = false))
      ∧ ((w26.Awake) ∧ (w26.coreWrites ↑2 = true) ∧ (w33 % 4 = 0) ∧ (w33 < 884736) ∧ (¬(589824 ≤ w33 ∧ w33 < 622592)) ∧ (State.canRamAt w33 = none) ∧ (w26.regAt w33 = some w34) ∧ (w34.acc ≠ Access.ro) ∧ (w34.acc ≠ Access.rws) ∧ (w26.mramBarred = false) ∧ (w34.acc = Access.rwl → w26.locked w33 (maskAnd (BitVec.toNat (50331648 : Word)) w34.mask) = false) ∧ (w34.acc ≠ Access.rw1c) ∧ (w26.writeOk (w26.after [(w33, maskAnd (BitVec.toNat (50331648 : Word)) w34.mask)]) w33 (maskAnd (BitVec.toNat (50331648 : Word)) w34.mask) = false)) := by
  repeat' apply And.intro
  all_goals decide +kernel

/-- The hypotheses of ClearBits, clause by clause. -/
theorem test_ClearBits :
    ((w35.Awake) ∧ (w35.Sends Src.hpi) ∧ (Reg.FLT_EVT % 4 = 0) ∧ (Reg.FLT_EVT < 884736) ∧ (¬(589824 ≤ Reg.FLT_EVT ∧ Reg.FLT_EVT < 622592)) ∧ (State.canRamAt Reg.FLT_EVT = none) ∧ (w35.regAt Reg.FLT_EVT = some w36) ∧ (w36.acc = Access.rw1c) ∧ (Src.hpi = Src.hpi → w36.free = true)) := by
  repeat' apply And.intro
  all_goals decide +kernel

/-- The hypotheses of MemoryWrites, clause by clause. -/
theorem test_MemoryWrites :
    ((w23.Runs) ∧ (w23.Sends Src.hpi) ∧ (4 = 4 ∨ Src.hpi ≠ Src.hpi ∧ (4 = 1 ∨ 4 = 2)) ∧ (33554432 % 4 = 0) ∧ (33554432 ≤ 33554432) ∧ (33554432 < 37748736))
      ∧ ((w3.Runs) ∧ (w3.Sends w8) ∧ (1 = 4 ∨ w8 ≠ Src.hpi ∧ (1 = 1 ∨ 1 = 2)) ∧ (37748735 % 1 = 0) ∧ (33554432 ≤ 37748735) ∧ (37748735 < 37748736))
      ∧ ((w3.Runs) ∧ (w3.Sends w8) ∧ (2 = 4 ∨ w8 ≠ Src.hpi ∧ (2 = 1 ∨ 2 = 2)) ∧ (5242878 % 2 = 0) ∧ (1 < 2) ∧ (State.bankBase 1 ≤ 5242878) ∧ (5242878 < State.bankBase 1 + 2097152) ∧ (w3.activeBank ≠ 1) ∧ (∀ (x : BankCommit), w3.tru.bank = some x → x.bank ≠ 1))
      ∧ ((w37.Runs) ∧ (w37.Sends w8) ∧ (4 = 4 ∨ w8 ≠ Src.hpi ∧ (4 = 1 ∨ 4 = 2)) ∧ (3145728 % 4 = 0) ∧ (1 < 2) ∧ (State.bankBase 1 ≤ 3145728) ∧ (3145728 < State.bankBase 1 + 2097152) ∧ (w37.activeBank ≠ 1) ∧ (∀ (x : BankCommit), w37.tru.bank = some x → x.bank ≠ 1))
      ∧ ((w3.Runs) ∧ (w3.Sends w8) ∧ (2 = 4 ∨ w8 ≠ Src.hpi ∧ (2 = 1 ∨ 2 = 2)) ∧ (2147483648 % 2 = 0) ∧ (w8 = Src.core 1) ∧ (2147483648 ≤ 2147483648) ∧ (2147483648 < 2147745792))
      ∧ ((w3.Runs) ∧ (w3.Sends w12) ∧ (4 = 4 ∨ w12 ≠ Src.hpi ∧ (4 = 1 ∨ 4 = 2)) ∧ (2147745788 % 4 = 0) ∧ (w12 = Src.core 3) ∧ (2147483648 ≤ 2147745788) ∧ (2147745788 < 2147745792)) := by
  repeat' apply And.intro
  all_goals decide +kernel
end TB

namespace TC
def w1 : State := ((run 3))
def w2 : State := ({ (run 3).putN (Reg.TRU_CMT_PTR 3) 0x2000000 with tru := { (run 3).tru with queue := [hm 1 [], hm 2 []], stages := (List.replicate 5 { entries := [(4,5)] }) } })
def w3 : State := ({ (run 3).setBytes 0x2000000 [1,2,3,4,5,6,1,0,0] with tru := { (run 3).tru with stages := (List.replicate 5 { entries := [(4,5)], run := [1,2,3,4] }) } }.putN (Reg.TRU_CMT_PTR 0) 0x2000000)
def w4 : State := (let s := front (run 3) (hm 1 commitPay); { s with tru := { s.tru with runOn := true } })
def w5 : Cmd := (hm 1 commitPay)
def w6 : State := (front (run 3) (hm 1 commitPay))
def w7 : State := (front (run 2) (hm 2 []))
def w8 : Cmd := (hm 2 [])
def w9 : State := ((front (run 2) promoteCmd).setFlag Reg.TRU_PND_STAT 8 true)
def w10 : State := (front (run 2) (hm 4 []))
def w11 : Cmd := (hm 4 [])
def w12 : State := ({ (run 2).setBytes pendingSlot [1,2,3] with tru := { (run 2).tru with promote := some 5, copying := true } })
def w13 : State := ({ (run 2).setBytes (pendingSlot + 47 * 65536) [1,2,3] with tru := { (run 2).tru with promote := some 47, copying := true } })
def w14 : State := ({ (run 2).setBytes (pendingSlot + 47 * 65536) [1,2,3] with tru := { (run 2).tru with verifying := true } })
def w15 : State := ({ front (run 5) (hm 5 (leBytes 4 1 ++ leBytes 4 0x200 ++ leBytes 8 0 ++ List.replicate 48 7)) with tru := { (front (run 5) (hm 5 (leBytes 4 1 ++ leBytes 4 0x200 ++ leBytes 8 0 ++ List.replicate 48 7))).tru with bank := none } })
def w16 : Cmd := (hm 5 (leBytes 4 1 ++ leBytes 4 0x200 ++ leBytes 8 0 ++ List.replicate 48 7))
def w17 : State := ({ (front (run 5) (hm 5 [])).setBytes (State.bankBase 1) bankBytes with tim := { (run 5).tim with next := 1000000000 }, tru := { (front (run 5) (hm 5 [])).tru with bank := some { bank := 1, length := 0x200, cycle := 0, digest := sha384 bankBytes, accepted := false, keyid := 0, counter := 0 } } })
def w18 : Cmd := (hm 5 [])
def w19 : BankCommit := { bank := 1, length := 0x200, cycle := 0, digest := sha384 bankBytes, accepted := false, keyid := 0, counter := 0 }
def w20 : State := (front (run 5) grantCmd)
def w21 : State.Signer := (.key pub 0x3FE)
def w22 : State := (front (run 5) (hm 7 [0x99,0,0,0]))
def w23 : Cmd := (hm 7 [0x99,0,0,0])
def w24 : State := { (run 5) with tru := { (run 5).tru with sessions := [{}, { held := some { id := 0x99, key := sessKey, keyid := 1, life := 60, left := 0, perm := 0xB6 } }, {}, {}] } }
def w25 : Session := { id := 0x99, key := sessKey, keyid := 1, life := 60, left := 0, perm := 0xB6 }
def w26 : State := (front (run 1) debugCmd)
def w27 : State := ((run 1).setFlag Reg.TRU_STAT 30 true)
def w28 : State := ({ front (run 2) provCmd with fuses := {} })
def w29 : State := (run 2)
def w30 : State := ({ run 2 with tru := { (run 2).tru with att := some ([], [], 5) } })
def w31 : List Byte × List Byte × Nat := ([], [], 5)
def w32 : Src := (.core 1)
def w33 : State := ({ run 2 with tickNo := 2000000 })

/-- The hypotheses of GoAndStageClear, clause by clause. -/
theorem test_GoAndStageClear :
    ((w1.Runs) ∧ (3 < 5))
      ∧ ((w2.Runs) ∧ (3 < 5) ∧ (w2.sys.recipeOk = true ∨ 3 = 0) ∧ (∀ (c : Cmd), c ∈ w2.tru.queue → c.src ≠ 3) ∧ (w2.waiting < 4))
      ∧ ((w3.Runs) ∧ (0 < 5) ∧ (w3.sys.recipeOk = true ∨ 0 = 0) ∧ (∀ (c : Cmd), c ∈ w3.tru.queue → c.src ≠ 0) ∧ (w3.waiting < 4)) := by
  repeat' apply And.intro
  all_goals decide +kernel

/-- The hypotheses of CommitTakesEffect, clause by clause. -/
theorem test_CommitTakesEffect :
    ((w4.Ready w5 1 (State.commitModeOk w5 commitBody)) ∧ (commitBody? w5.payload = some commitBody) ∧ (commitBody.entries = [(Reg.SYS_STBY_CFG, 245)]) ∧ (w4.commitReason w5 = 0) ∧ (commitBody.runAddr = 24117248) ∧ (w4.tru.runOn = true ∨ commitBody.run = []))
      ∧ ((w6.Ready w5 1 (State.commitModeOk w5 commitBody)) ∧ (commitBody? w5.payload = some commitBody) ∧ (commitBody.entries = [(Reg.SYS_STBY_CFG, 245)]) ∧ (w6.commitReason w5 = 0) ∧ (commitBody.runAddr = 24117248) ∧ (w6.tru.runOn = false) ∧ (commitBody.run ≠ [])) := by
  repeat' apply And.intro
  all_goals decide +kernel

/-- The hypotheses of PendingCommands, clause by clause. -/
theorem test_PendingCommands :
    ((w7.Ready w8 2 State.inLoad) ∧ (w8.payload = []))
      ∧ ((w9.Ready promoteCmd 3 State.inLoad) ∧ (w9.flag Reg.TRU_PND_STAT 9 = false) ∧ (w9.flag Reg.TRU_PND_STAT 8 = true) ∧ (promoteCmd.payload.length = 48) ∧ (w9.getBytes (Reg.TRU_PND_DIG 0) 12 = promoteCmd.payload) ∧ (w9.mramBarred = false))
      ∧ ((w10.Ready w11 4 State.inLoad) ∧ (w11.payload = []) ∧ (w10.mramBarred = false)) := by
  repeat' apply And.intro
  all_goals decide +kernel

/-- The hypotheses of PromotionAndVerification, clause by clause. -/
theorem test_PromotionAndVerification :
    ((w12.Runs) ∧ (5 < 47) ∧ (w12.tru.promote = some 5) ∧ (w12.tru.copying = true))
      ∧ ((w13.Runs) ∧ (w13.tru.promote = some 47) ∧ (w13.tru.copying = true))
      ∧ ((w14.Runs) ∧ (w14.tru.verifying = true)) := by
  repeat' apply And.intro
  all_goals decide +kernel

/-- The hypotheses of BankCommits, clause by clause. -/
theorem test_BankCommits :
    ((w15.live = true) ∧ (w15.FltOk) ∧ (w15.headReady = some w16) ∧ (w16.opcode = 5) ∧ (w15.headReason w16 = 0) ∧ (State.engineMode w15.sys.tickMode = true) ∧ (State.engineMode w15.mode = true) ∧ (w15.bankContent w16.payload = 0) ∧ (w15.tru.bank = none))
      ∧ ((w17.Runs) ∧ (w17.tru.bank = some w19) ∧ (w19.accepted = false) ∧ (w17.tru.queue.head? = some w18) ∧ (sha384 (w17.bytesAt (State.bankBase w19.bank) w19.length) = w19.digest) ∧ (w17.bankCheck w19.bank w19.length (some w17.activeBank) = 0) ∧ (State.engineMode w17.sys.tickMode = true) ∧ (State.engineMode w17.mode = true) ∧ (w19.cycle = 0) ∧ (w17.boundaryDue = false)) := by
  repeat' apply And.intro
  all_goals decide +kernel

/-- The hypotheses of Sessions, clause by clause. -/
theorem test_Sessions :
    ((w20.Ready grantCmd 6 fun m => m != State.STANDBY) ∧ ((match w20.signer grantCmd with | .ok g => decide (g = w21) | .error _ => false) = true) ∧ (w20.grantContent grantCmd.payload w21.mask = 0))
      ∧ ((w22.Ready w23 7 fun x => true) ∧ (w23.payload.length = 4))
      ∧ ((1 < 4) ∧ (w24.Runs) ∧ ((w24.tru.sessions.getD 1 { }).held = some w25) ∧ (w25.left = 0)) := by
  repeat' apply And.intro
  all_goals decide +kernel

/-- The hypotheses of DebugAccess, clause by clause. -/
theorem test_DebugAccess :
    ((w26.Ready debugCmd 8 State.idleMode) ∧ (State.debugContent debugCmd.payload = 0))
      ∧ ((w27.Runs) ∧ (w27.flag Reg.TRU_STAT 30 = true)) := by
  repeat' apply And.intro
  all_goals decide +kernel

/-- The hypotheses of Provision, clause by clause. -/
theorem test_Provision :
    ((w28.Ready provCmd 9 State.inLoad) ∧ (w28.fuses.ownerHash = none) ∧ (provCmd.payload.length = 96) ∧ (provCmd.payload = provCmd.key)) := by
  repeat' apply And.intro
  all_goals decide +kernel

/-- The hypotheses of Attestation, clause by clause. -/
theorem test_Attestation :
    ((w29.Runs) ∧ (w29.fld Reg.LOG_ATT_STAT 1 0 ≠ 1))
      ∧ ((w30.Runs) ∧ (w30.tru.att = some w31)) := by
  repeat' apply And.intro
  all_goals decide +kernel

/-- The hypotheses of WindowAndTimeouts, clause by clause. -/
theorem test_WindowAndTimeouts :
    ((w33.Runs) ∧ (w33.Sends w32) ∧ (w33.elapsed w33.hk.mramTick 10000000 = true))
      ∧ ((w33.Runs) ∧ (w33.Sends w32)) := by
  repeat' apply And.intro
  all_goals decide +kernel
end TC

namespace TD
def w1 : State := (run 3)
def w2 : State := (run 1)
def w3 : State := (run 0)
def w4 : State := ((run 5).setBytes 0xFFFFFF [1,2,3])
def w5 : State := ({ run 5 with sys := { (run 5).sys with nresetLow := true, nresetFell := 998750 } })
def w6 : State := (run 5)
def w7 : State := (((run 5).putN (Reg.SYS_WDT_CFG 3) 80).coreRelease 3 0)
def w8 : State := (((run 5).putN (Reg.SYS_WDT_CFG 3) 0x2710).coreRelease 3 0)
def w9 : State := (((run 3).putN (Reg.SYS_WDT_CFG 3) 0x2710).coreRelease 3 0)
def w10 : State := ({ run 1 with sys := { (run 1).sys with saving := true } })
def w11 : State := ({ ((run 1).putN Reg.SYS_STBY_CFG 15) with sys := { (run 1).sys with saving := true } })
def w12 : State := ((run 0).putN Reg.SYS_STBY_CFG 15)
def w13 : State := ({ run 0 with sys := { (run 0).sys with waking := some 7 } })
def w14 : State := ((run 7).putN (Reg.FLT_THR 10) 1)
def w15 : State := ((run 4).putN (Reg.FLT_THR 11) 1)
def w16 : State := (run 7)

/-- The hypotheses of ModeRequests, clause by clause. -/
theorem test_ModeRequests :
    ((w1.Runs) ∧ (1 < 8) ∧ (w1.requestCheck 1 = 0) ∧ (w1.entryOpen = false) ∧ (w1.mode ≠ State.STANDBY) ∧ (1 = State.SAFE ∨ 1 = State.LOAD ∨ 1 = State.COMMISSION ∨ 1 = State.ENERGIZE))
      ∧ ((w2.Runs) ∧ (0 < 8) ∧ (w2.requestCheck 0 = 0) ∧ (w2.entryOpen = false) ∧ (w2.mode ≠ State.STANDBY) ∧ (0 = State.STANDBY))
      ∧ ((w3.Runs) ∧ (1 < 8) ∧ (w3.requestCheck 1 = 0) ∧ (w3.entryOpen = false) ∧ (w3.mode = State.STANDBY) ∧ (1 = State.SAFE) ∧ (w3.sys.waking = none)) := by
  repeat' apply And.intro
  all_goals decide +kernel

/-- The hypotheses of ResetSources, clause by clause. -/
theorem test_ResetSources :
    ((6 < 7))
      ∧ ((w5.sys.nresetLow = true) ∧ (w5.sys.nresetHeld = false) ∧ (10000 ≤ (w5.tickNo - w5.sys.nresetFell) * 8))
      ∧ ((w6.awake = true))
      ∧ ((3 < 4) ∧ (w7.live = true) ∧ (w7.wdtOn 3 = true))
      ∧ ((3 < 4) ∧ (w7.live = true) ∧ (w7.wdtOn 3 = true) ∧ (w7.sys.wdtPaused.getD 3 none = none) ∧ (w7.fld (Reg.SYS_WDT_CFG 3) 15 0 * 100000 ≤ (w7.tickNo - w7.sys.wdtKick.getD 3 0) * 8))
      ∧ ((3 < 4) ∧ (w8.live = true) ∧ (w8.wdtOn 3 = true) ∧ (19229 % 65536 ≠ 19228)) := by
  repeat' apply And.intro
  all_goals decide +kernel

/-- The hypotheses of WatchdogKicks, clause by clause. -/
theorem test_WatchdogKicks :
    ((w1.Runs) ∧ (3 < 4) ∧ (w1.wdtOn 3 = false))
      ∧ ((w9.Runs) ∧ (3 < 4) ∧ (w9.wdtOn 3 = true) ∧ (19228 % 65536 = 19228)) := by
  repeat' apply And.intro
  all_goals decide +kernel

/-- The hypotheses of Standby, clause by clause. -/
theorem test_Standby :
    ((w10.Runs) ∧ (w10.sys.saving = true))
      ∧ ((w11.Runs) ∧ (2 < 8) ∧ (w11.sys.saving = true) ∧ (w11.wakeAsserts 2 = true))
      ∧ ((w12.Runs) ∧ (w12.entryOpen = false) ∧ (w12.mode = State.STANDBY) ∧ (w12.sys.waking = none) ∧ (w12.wakeAsserts 2 = true))
      ∧ ((w13.Runs) ∧ (7 < 8) ∧ (w13.sys.waking = some 7)) := by
  repeat' apply And.intro
  all_goals decide +kernel

/-- The hypotheses of LimitsAndRecovery, clause by clause. -/
theorem test_LimitsAndRecovery :
    ((w14.Runs) ∧ (w14.mode = State.RIDETHROUGH) ∧ (w14.getN (Reg.FLT_THR 10) * 1000000 ≤ (w14.tickNo - w14.sys.rtEntry) * 8))
      ∧ ((w15.Runs) ∧ (w15.mode = State.ENERGIZE) ∧ (w15.flag Reg.SYS_MODE 12 = false) ∧ (w15.getN (Reg.FLT_THR 11) * 1000000 ≤ (w15.tickNo - w15.sys.energizeEntry) * 8))
      ∧ ((w16.Runs))
      ∧ ((w3.Runs)) := by
  repeat' apply And.intro
  all_goals decide +kernel
end TD

namespace TD2
def w1 : State := (eng 1)
def w2 : State := (opened ((eng 4).putN Reg.SYS_MODE 0x1004))
def w3 : State := (eng 5)
def w4 : State := ({ (eng 7).setFlag Reg.FLT_GF_STAT 0 true with sys := { (eng 7).sys with protInForce := true, rtFrom := 5 }, flt := { (eng 7).flt with gfHold := 1000000, gfLast := some 999000 } })

/-- The hypotheses of ModeRequests, clause by clause. -/
theorem test_ModeRequests :
    ((w1.Runs) ∧ (4 < 8) ∧ (w1.requestCheck 4 = 0) ∧ (w1.entryOpen = false) ∧ (w1.mode ≠ State.STANDBY) ∧ (4 = State.SAFE ∨ 4 = State.LOAD ∨ 4 = State.COMMISSION ∨ 4 = State.ENERGIZE))
      ∧ ((w2.Runs) ∧ (5 < 8) ∧ (w2.requestCheck 5 = 0) ∧ (w2.entryOpen = false) ∧ (w2.mode ≠ State.STANDBY) ∧ (5 = State.RUNFULL ∨ 5 = State.RUNFAST))
      ∧ ((w3.Runs) ∧ (6 < 8) ∧ (w3.requestCheck 6 = 0) ∧ (w3.entryOpen = false) ∧ (w3.mode ≠ State.STANDBY) ∧ (6 = State.RUNFULL ∨ 6 = State.RUNFAST)) := by
  repeat' apply And.intro
  all_goals decide +kernel

/-- The hypotheses of LimitsAndRecovery, clause by clause. -/
theorem test_LimitsAndRecovery :
    ((w4.Awake) ∧ (w4.sys.protInForce = true) ∧ (w4.gridRecovered = true)) := by
  repeat' apply And.intro
  all_goals decide +kernel
end TD2

namespace TE
def w1 : State := ({ (run 3).setFld (Reg.LNK_STAT 7) 3 0 3 with lanes := List.replicate 16 { since := 999875 } })
def w2 : State := ({ (run 3).setFld (Reg.LNK_STAT 15) 3 0 3 with lanes := List.replicate 16 { since := 999875 } })
def w3 : State := (((run 3).setFld (Reg.LNK_STAT 0) 3 0 4))
def w4 : List Bool := (bitsOf (enc [kIdle]))
def w5 : List Bool := ([true, false, true] ++ idles 5)
def w6 : List Bool := (idles 5)
def w7 : List Bool := ([true, false, true] ++ idles 2)
def w8 : List Bool := (idles 2)
def w9 : State := (((run 3).setFld (Reg.LNK_STAT 12) 3 0 4))
def w10 : List Bool := (bitsOf (enc [kIdle]) ++ idles 3)
def w11 : List Bool := ([true, false, true] ++ idles 4)
def w12 : List Bool := (idles 4)
def w13 : State := ({ ((run 3).setFld (Reg.LNK_STAT 12) 3 0 4).setFlag (Reg.LNK_STAT 12) 6 true with lanes := List.replicate 16 { pairs := 3, rest := (idles 1).take 7 } })
def w14 : List Bool := ((idles 1).drop 7)
def w15 : List Bool := (idles 1)
def w16 : List Bool := (idles 4 ++ bitsOf [0,0,0,0])
def w17 : State := ((run 3).setFld (Reg.LNK_STAT 0) 3 0 5)
def w18 : Lane := {}
def w19 : List Bool := (idles 3)
def w20 : State := ((run 3).setFld (Reg.LNK_STAT 3) 3 0 5)
def w21 : List Bool := (bitsOf [0, 1023, 0, 1023, 7])
def w22 : List Bool := (bitsOf [0, 1023, 0] ++ [true] ++ idles 4)
def w23 : State := ((((run 3).setFld (Reg.LNK_STAT 0) 3 0 5)).setFld (Reg.LNK_STAT 0) 5 4 3)
def w24 : State := ((((run 3).setFld (Reg.LNK_STAT 12) 3 0 5)).setFld (Reg.LNK_STAT 12) 5 4 1)
def w25 : State := ((((run 3).setFld (Reg.LNK_STAT 0) 3 0 5)).setFld (Reg.LNK_STAT 0) 5 4 1)
def w26 : State := ((((run 3).setFld (Reg.LNK_STAT 15) 3 0 5)).setFld (Reg.LNK_STAT 15) 5 4 1)
def w27 : Int := (0 : Int)
def w28 : Int := (3 : Int)
def w29 : State := ({ (((run 3).setFld (Reg.LNK_STAT 0) 3 0 5)).setFld (Reg.LNK_STAT 0) 10 8 2 with lanes := List.replicate 16 { run := 3, rxRd := true } })
def w30 : Lane := { run := 3, rxRd := true }
def w31 : Nat := (encode true kIdle)
def w32 : Checker := { reg := 0x1234, seen := 40 }
def w33 : Checker := { reg := 0x7FFFFF, seen := 31 }
def w34 : State := ((run 3).putN (Reg.LNK_TEST 12) 0x20 |>.setFld (Reg.LNK_STAT 12) 3 0 6)
def w35 : List Bool := []
def w36 : List Bool := [true, false, true]
def w37 : State := ({ ((run 3).putN (Reg.LNK_TEST 12) 0x20 |>.setFld (Reg.LNK_STAT 12) 3 0 6).setFlag (Reg.LNK_PRBS_STAT 12) 0 true with lanes := List.replicate 16 { chk := { locked := true, reg := 1, seen := 40, err := 4, bits := 9 } } })
def w38 : Lane := { chk := { locked := true, reg := 1, seen := 40, err := 4, bits := 9 } }
def w39 : List Bool := (List.replicate 70 true)
def w40 : State := ((run 3).setFlag (Reg.LNK_TEST 12) 4 true)
def w41 : State := ((run 3).putN (Reg.LNK_AUX_CFG) 0x1312)
def w42 : Option Nat := none
def w43 : State := ({ ((run 3).putN (Reg.LNK_TEST 12) 0x20 |>.setFld (Reg.LNK_STAT 12) 3 0 5) with lanes := List.replicate 16 { test := some (0, 0) } })
def w44 : Nat × Nat := (0, 0)
def w45 : State := ({ ((run 3).putN (Reg.LNK_TEST 12) 0x0 |>.setFld (Reg.LNK_STAT 12) 3 0 6) with lanes := List.replicate 16 { test := some (0x20, 0) } })
def w46 : Nat × Nat := (0x20, 0)
def w47 : State := ({ (run 3).setFlag (Reg.LNK_STAT 12) 7 true with lanes := List.replicate 16 { chk := { err := 7, bits := 0x123456789A } } })
def w48 : Lane := { chk := { err := 7, bits := 0x123456789A } }

/-- The hypotheses of LaneAcquires, clause by clause. -/
theorem test_LaneAcquires :
    ((w1.Awake) ∧ (7 < 16) ∧ (w1.laneState 7 = 3) ∧ (max (w1.lane 7).since (w1.lane 7).signalAt + 125 ≤ w1.tickNo))
      ∧ ((w2.Awake) ∧ (15 < 16) ∧ (w2.laneState 15 = 3) ∧ (max (w2.lane 15).since (w2.lane 15).signalAt + 125 ≤ w2.tickNo))
      ∧ ((w3.Awake) ∧ (0 < 16) ∧ (w3.laneState 0 = 4) ∧ ((if w3.flag (Reg.LNK_STAT 0) 6 = true then some ((w3.lane 0).rest ++ List.map (fun b => b != w3.rxInv 0) w4) else fromK285 ((w3.lane 0).rest ++ List.map (fun b => b != w3.rxInv 0) w4).length ((w3.lane 0).rest ++ List.map (fun b => b != w3.rxInv 0) w4)) = some w4))
      ∧ ((w3.Awake) ∧ (0 < 16) ∧ (w3.laneState 0 = 4) ∧ ((if w3.flag (Reg.LNK_STAT 0) 6 = true then some ((w3.lane 0).rest ++ List.map (fun b => b != w3.rxInv 0) w5) else fromK285 ((w3.lane 0).rest ++ List.map (fun b => b != w3.rxInv 0) w5).length ((w3.lane 0).rest ++ List.map (fun b => b != w3.rxInv 0) w5)) = some w6))
      ∧ ((w3.Awake) ∧ (0 < 16) ∧ (w3.laneState 0 = 4) ∧ ((if w3.flag (Reg.LNK_STAT 0) 6 = true then some ((w3.lane 0).rest ++ List.map (fun b => b != w3.rxInv 0) w7) else fromK285 ((w3.lane 0).rest ++ List.map (fun b => b != w3.rxInv 0) w7).length ((w3.lane 0).rest ++ List.map (fun b => b != w3.rxInv 0) w7)) = some w8) ∧ ((idlePairs ((w3.lane 0).pairs, (w3.lane 0).opened) (bitsGroups w8.length w8)).fst.fst < 4))
      ∧ ((w9.Awake) ∧ (12 < 16) ∧ (w9.laneState 12 = 4) ∧ ((if w9.flag (Reg.LNK_STAT 12) 6 = true then some ((w9.lane 12).rest ++ List.map (fun b => b != w9.rxInv 12) w10) else fromK285 ((w9.lane 12).rest ++ List.map (fun b => b != w9.rxInv 12) w10).length ((w9.lane 12).rest ++ List.map (fun b => b != w9.rxInv 12) w10)) = some w10) ∧ ((idlePairs ((w9.lane 12).pairs, (w9.lane 12).opened) (bitsGroups w10.length w10)).fst.fst < 4))
      ∧ ((w3.Awake) ∧ (0 < 16) ∧ (w3.laneState 0 = 4) ∧ ((if w3.flag (Reg.LNK_STAT 0) 6 = true then some ((w3.lane 0).rest ++ List.map (fun b => b != w3.rxInv 0) w11) else fromK285 ((w3.lane 0).rest ++ List.map (fun b => b != w3.rxInv 0) w11).length ((w3.lane 0).rest ++ List.map (fun b => b != w3.rxInv 0) w11)) = some w12) ∧ (4 ≤ (idlePairs ((w3.lane 0).pairs, (w3.lane 0).opened) (bitsGroups w12.length w12)).fst.fst) ∧ ((idlePairs ((w3.lane 0).pairs, (w3.lane 0).opened) (bitsGroups w12.length w12)).snd = []))
      ∧ ((w13.Awake) ∧ (12 < 16) ∧ (w13.laneState 12 = 4) ∧ ((if w13.flag (Reg.LNK_STAT 12) 6 = true then some ((w13.lane 12).rest ++ List.map (fun b => b != w13.rxInv 12) w14) else fromK285 ((w13.lane 12).rest ++ List.map (fun b => b != w13.rxInv 12) w14).length ((w13.lane 12).rest ++ List.map (fun b => b != w13.rxInv 12) w14)) = some w15) ∧ (4 ≤ (idlePairs ((w13.lane 12).pairs, (w13.lane 12).opened) (bitsGroups w15.length w15)).fst.fst) ∧ ((idlePairs ((w13.lane 12).pairs, (w13.lane 12).opened) (bitsGroups w15.length w15)).snd = []))
      ∧ ((w3.Awake) ∧ (0 < 16) ∧ (w3.laneState 0 = 4) ∧ ((if w3.flag (Reg.LNK_STAT 0) 6 = true then some ((w3.lane 0).rest ++ List.map (fun b => b != w3.rxInv 0) w11) else fromK285 ((w3.lane 0).rest ++ List.map (fun b => b != w3.rxInv 0) w11).length ((w3.lane 0).rest ++ List.map (fun b => b != w3.rxInv 0) w11)) = some w12) ∧ (4 ≤ (idlePairs ((w3.lane 0).pairs, (w3.lane 0).opened) (bitsGroups w12.length w12)).fst.fst))
      ∧ ((w9.Awake) ∧ (12 < 16) ∧ (w9.laneState 12 = 4) ∧ ((if w9.flag (Reg.LNK_STAT 12) 6 = true then some ((w9.lane 12).rest ++ List.map (fun b => b != w9.rxInv 12) w16) else fromK285 ((w9.lane 12).rest ++ List.map (fun b => b != w9.rxInv 12) w16).length ((w9.lane 12).rest ++ List.map (fun b => b != w9.rxInv 12) w16)) = some w16) ∧ (4 ≤ (idlePairs ((w9.lane 12).pairs, (w9.lane 12).opened) (bitsGroups w16.length w16)).fst.fst)) := by
  repeat' apply And.intro
  all_goals decide +kernel

/-- The hypotheses of LaneErrors, clause by clause. -/
theorem test_LaneErrors :
    ((w17.Awake) ∧ (0 < 16) ∧ (w17.laneState 0 = 5) ∧ (w17.lanes[0]? = some w18) ∧ ((List.foldl (State.gatherOne true) { rd := w18.rxRd, run := w18.run, score := w17.fld (Reg.LNK_STAT 0) 10 8, win := w18.win } (bitsGroups (w18.rest ++ List.map (fun b => b != w17.rxInv 0) w19).length (w18.rest ++ List.map (fun b => b != w17.rxInv 0) w19))).score < 4))
      ∧ ((w20.Awake) ∧ (3 < 16) ∧ (w20.laneState 3 = 5) ∧ (w20.lanes[3]? = some w18) ∧ ((List.foldl (State.gatherOne true) { rd := w18.rxRd, run := w18.run, score := w20.fld (Reg.LNK_STAT 3) 10 8, win := w18.win } (bitsGroups (w18.rest ++ List.map (fun b => b != w20.rxInv 3) w19).length (w18.rest ++ List.map (fun b => b != w20.rxInv 3) w19))).score < 4))
      ∧ ((w17.Awake) ∧ (0 < 16) ∧ (w17.laneState 0 = 5) ∧ (w17.lanes[0]? = some w18) ∧ (4 ≤ (List.foldl (State.gatherOne true) { rd := w18.rxRd, run := w18.run, score := w17.fld (Reg.LNK_STAT 0) 10 8, win := w18.win } (bitsGroups (w18.rest ++ List.map (fun b => b != w17.rxInv 0) w21).length (w18.rest ++ List.map (fun b => b != w17.rxInv 0) w21))).score))
      ∧ ((w20.Awake) ∧ (3 < 16) ∧ (w20.laneState 3 = 5) ∧ (w20.lanes[3]? = some w18) ∧ (4 ≤ (List.foldl (State.gatherOne true) { rd := w18.rxRd, run := w18.run, score := w20.fld (Reg.LNK_STAT 3) 10 8, win := w18.win } (bitsGroups (w18.rest ++ List.map (fun b => b != w20.rxInv 3) w22).length (w18.rest ++ List.map (fun b => b != w20.rxInv 3) w22))).score))
      ∧ ((w23.Awake) ∧ (0 < 16) ∧ (w23.laneState 0 = 5) ∧ (w23.lanes[0]? = some w18) ∧ (1 < 4) ∧ (bitAt (w23.fld (Reg.LNK_STAT 0) 5 4) 0 = true ∧ bitAt 1 0 = false ∨ bitAt (w23.fld (Reg.LNK_STAT 0) 5 4) 1 = true ∧ bitAt 1 1 = false))
      ∧ ((w24.Awake) ∧ (12 < 16) ∧ (w24.laneState 12 = 5) ∧ (w24.lanes[12]? = some w18) ∧ (2 < 4) ∧ (bitAt (w24.fld (Reg.LNK_STAT 12) 5 4) 0 = true ∧ bitAt 2 0 = false ∨ bitAt (w24.fld (Reg.LNK_STAT 12) 5 4) 1 = true ∧ bitAt 2 1 = false))
      ∧ ((w25.Awake) ∧ (0 < 16) ∧ (w25.laneState 0 = 5) ∧ (w25.lanes[0]? = some w18) ∧ (3 < 4) ∧ (¬(bitAt (w25.fld (Reg.LNK_STAT 0) 5 4) 0 = true ∧ bitAt 3 0 = false ∨ bitAt (w25.fld (Reg.LNK_STAT 0) 5 4) 1 = true ∧ bitAt 3 1 = false)))
      ∧ ((w26.Awake) ∧ (15 < 16) ∧ (w26.laneState 15 = 5) ∧ (w26.lanes[15]? = some w18) ∧ (3 < 4) ∧ (¬(bitAt (w26.fld (Reg.LNK_STAT 15) 5 4) 0 = true ∧ bitAt 3 0 = false ∨ bitAt (w26.fld (Reg.LNK_STAT 15) 5 4) 1 = true ∧ bitAt 3 1 = false)))
      ∧ ((w17.Awake) ∧ (0 < 16) ∧ (w17.laneState 0 = 5) ∧ (w17.lanes[0]? = some w18))
      ∧ ((w17.Awake) ∧ (0 < 16) ∧ (w17.laneState 0 = 5) ∧ (w17.lanes[0]? = some w18) ∧ (w17.fld (Reg.LNK_STAT 0) 10 8 < 3) ∧ ((groupCommas w18.win (State.turned (w17.rxInv 0) 0)).snd = 0))
      ∧ ((w29.Awake) ∧ (0 < 16) ∧ (w29.laneState 0 = 5) ∧ (w29.lanes[0]? = some w30) ∧ (w29.fld (Reg.LNK_STAT 0) 10 8 < 3) ∧ ((groupCommas w30.win (State.turned (w29.rxInv 0) w31)).snd = 0)) := by
  repeat' apply And.intro
  all_goals decide +kernel

/-- The hypotheses of PatternTests, clause by clause. -/
theorem test_PatternTests :
    ((w32.locked = false) ∧ ((prbsTaps 1).fst ≤ w32.seen))
      ∧ ((w33.locked = false) ∧ ((prbsTaps 3).fst ≤ w33.seen))
      ∧ ((w34.Awake) ∧ (12 < 16) ∧ (w34.lineChecks 12 = true) ∧ (w34.lanes[12]? = some w18) ∧ (w18.chk.locked = false))
      ∧ ((w37.Awake) ∧ (12 < 16) ∧ (w37.lineChecks 12 = true) ∧ (w37.lanes[12]? = some w38) ∧ (w38.chk.locked = true))
      ∧ ((w40.Awake) ∧ (12 < 16) ∧ (w40.coreWrites ↑2 = true) ∧ (w40.laneAbsent 12 = false) ∧ (w40.prbsOn 12 = true) ∧ (w40.lanes[12]? = some w18))
      ∧ ((w41.Awake) ∧ (12 < 16) ∧ (1 < 2) ∧ (w41.mby.aux[1]? = some w42))
      ∧ ((w43.Awake) ∧ (12 < 16) ∧ ((w43.lane 12).test = some w44) ∧ (w43.laneState 12 ≠ 1) ∧ (w43.fld (Reg.LNK_TEST 12) 2 0 ≠ 0 ∨ w43.prbsOn 12 = true ∨ w43.checkerOn 12 = true))
      ∧ ((w45.Awake) ∧ (12 < 16) ∧ ((w45.lane 12).test = some w46) ∧ (w45.laneState 12 ≠ 1) ∧ (w45.fld (Reg.LNK_TEST 12) 2 0 = 0) ∧ (w45.prbsOn 12 = false) ∧ (w45.checkerOn 12 = false) ∧ (w45.laneState 12 = 6)) := by
  repeat' apply And.intro
  all_goals decide +kernel

/-- The hypotheses of LaneCounters, clause by clause. -/
theorem test_LaneCounters :
    ((w47.Awake) ∧ (12 < 16) ∧ (w47.laneAbsent 12 = false) ∧ (w47.lanes[12]? = some w48)) := by
  repeat' apply And.intro
  all_goals decide +kernel
end TE

namespace TE2
def fr (type head role chain cyc len : Nat) (body : List Byte) : List Byte := withCrc ([BitVec.ofNat 8 type, BitVec.ofNat 8 head, BitVec.ofNat 8 role, BitVec.ofNat 8 chain, 0, 0] ++ leBytes 2 cyc ++ leBytes 4 cyc ++ leBytes 2 len ++ [1, 0] ++ body)
def ch (m : Nat) : State := ((run m).putN (Reg.LNK_CH_CFG 2) 0x1C1).setFld (Reg.LNK_STAT 2) 3 0 5
def loop (m : Nat) : State := ((run m).putN (Reg.LNK_CH_CFG 2) 0x3C1).setFld (Reg.LNK_STAT 2) 3 0 5
def beacon : List Byte := fr 1 1 1 2 5 16 ([0,0,0,0, 0,0,0,0, 0,0,0,0, 0,0] ++ [0x34, 0x12])
def own : List Byte := fr 1 0 1 2 5 16 ([0,0,0,0, 0,0,0,0, 0,0,0,0, 0,0] ++ [0x34, 0x12])
def tel : List Byte := fr 3 0 1 2 0 48 ([27] ++ List.replicate 47 9)
def bG : List Nat := onLine kBeacon beacon
def oG : List Nat := onLine kBeacon own
def tG : List Nat := onLine kStart tel
def badG : List Nat := onLine kBeacon (beacon.take 30)
def endless : List Nat := (onLine kStart tel).dropLast
def w1 : State := (ch 5)
def w2 : List Byte := (beacon.take 30)
def w3 : State := ((ch 5).lineFrame 2 badG).1
def w4 : State := (loop 5)
def w5 : State := ((loop 5).lineFrame 2 badG).1
def w6 : State := ((ch 5).lineFrame 2 endless).1
def w7 : State := ((loop 5).lineFrame 2 endless).1
def w8 : State := ((ch 5).lineFrame 2 bG).1
def w9 : State := ((loop 5).lineFrame 2 oG).1
def w10 : State := ((ch 5).lineFrame 2 tG).1
def w11 : State := ((loop 5).lineFrame 2 tG).1
def w12 : State := ({ ch 5 with mby := { (ch 5).mby with recs := [{ cell := 27, cycle := 4, late := true, ns := 3, relayed := false, bytes := List.replicate 48 7 }] } })
def w13 : TlmRec := { cell := 27, cycle := 4, late := true, ns := 3, relayed := false, bytes := List.replicate 48 7 }
def w14 : State := (run 5)
def w15 : State := ((run 5).putN Reg.KNE_STAT 0x41)
def w16 : State := ((run 5).putN Reg.KNE_STAT 0x81)
def w17 : State := ((run 5).putN Reg.KNE_STAT 0xC1)
def w18 : State := ({ run 5 with mod := { (run 5).mod with run := some ([], 7, 7) } })
def w19 : List (Nat × Word) × Nat × Nat := ([], 7, 7)

/-- The hypotheses of CellLink, clause by clause. -/
theorem test_CellLink :
    ((w1.Awake) ∧ (w1.chainHears 2 badG.length = true) ∧ (false = true ∨ frameCrcOk w2 = false) ∧ (w1.lineFrame 2 badG = (w3, some (kBeacon, w2, false))))
      ∧ ((w4.Awake) ∧ (w4.chainHears 2 badG.length = true) ∧ (false = true ∨ frameCrcOk w2 = false) ∧ (w4.lineFrame 2 badG = (w5, some (kBeacon, w2, false))))
      ∧ ((w1.Awake) ∧ (w1.chainHears 2 endless.length = true) ∧ (true = true ∨ frameCrcOk tel = false) ∧ (w1.lineFrame 2 endless = (w6, some (kStart, tel, true))))
      ∧ ((w4.Awake) ∧ (w4.chainHears 2 endless.length = true) ∧ (true = true ∨ frameCrcOk tel = false) ∧ (w4.lineFrame 2 endless = (w7, some (kStart, tel, true))))
      ∧ ((w1.Awake) ∧ (w1.chainHears 2 bG.length = true) ∧ (w1.lineFrame 2 bG = (w8, some (kBeacon, beacon, false))) ∧ (State.frameValid 2 beacon false 16 = true) ∧ ((frameHead beacon).type = 1) ∧ ((frameHead beacon).head = w8.peerOf 2))
      ∧ ((w4.Awake) ∧ (w4.chainHears 2 oG.length = true) ∧ (w4.lineFrame 2 oG = (w9, some (kBeacon, own, false))) ∧ (State.frameValid 2 own false 16 = true) ∧ ((frameHead own).type = 1) ∧ ((frameHead own).head = w9.peerOf 2))
      ∧ ((w1.Awake) ∧ (w1.chainHears 2 tG.length = true) ∧ (w1.lineFrame 2 tG = (w10, some (kStart, tel, false))) ∧ (State.frameValid 2 tel false 48 = true) ∧ ((frameHead tel).type = 3) ∧ ((frameHead tel).head = w10.headNo) ∧ (w10.recordFits 2 (frameHead tel) (slice tel 16 48) = true))
      ∧ ((w4.Awake) ∧ (w4.chainHears 2 tG.length = true) ∧ (w4.lineFrame 2 tG = (w11, some (kStart, tel, false))) ∧ (State.frameValid 2 tel false 48 = true) ∧ ((frameHead tel).type = 3) ∧ ((frameHead tel).head = w11.headNo) ∧ (w11.recordFits 2 (frameHead tel) (slice tel 16 48) = true))
      ∧ ((w1.Awake) ∧ (2 < w1.numChains))
      ∧ ((w12.Awake) ∧ (2 < w12.numChains) ∧ (3 < 12) ∧ (List.find? (fun r => r.cell == 2 * 12 + 3) w12.mby.recs = some w13)) := by
  repeat' apply And.intro
  all_goals decide +kernel

/-- The hypotheses of BoundaryAndDeadline, clause by clause. -/
theorem test_BoundaryAndDeadline :
    ((w14.Runs) ∧ (w14.boundaryDue = true))
      ∧ ((w1.Awake) ∧ (w1.mby.frozen = false) ∧ (w1.reached w1.deadlineNs = true)) := by
  repeat' apply And.intro
  all_goals decide +kernel

/-- The hypotheses of EngineEnds, clause by clause. -/
theorem test_EngineEnds :
    ((w15.Awake) ∧ (w15.kneRunning = true) ∧ (w15.knePhase = 1 ∨ w15.knePhase = 2) ∧ (w15.listOver = true))
      ∧ ((w16.Awake) ∧ (w16.kneRunning = true) ∧ (w16.knePhase = 1 ∨ w16.knePhase = 2) ∧ (w16.listOver = true))
      ∧ ((w17.Awake) ∧ (w17.kneRunning = true) ∧ (w17.knePhase = 3) ∧ (w17.listOver = true))
      ∧ ((w18.Awake) ∧ (w18.mod.run = some w19))
      ∧ ((w14.Awake)) := by
  repeat' apply And.intro
  all_goals decide +kernel
end TE2

namespace TE3
def w1 : State := ({ eng 1 with sys := { (eng 1).sys with protInForce := true, pend := some { target := 6, reason := 1, atCycle := 0, keyid := 0, counter := 0 } } })

/-- The hypotheses of BoundaryAndDeadline, clause by clause. -/
theorem test_BoundaryAndDeadline :
    ((w1.Runs) ∧ (w1.boundaryDue = true)) := by
  repeat' apply And.intro
  all_goals decide +kernel
end TE3

namespace TF
def fr (type head role chain cyc : Nat) (body : List Byte) : List Byte := withCrc ([BitVec.ofNat 8 type, BitVec.ofNat 8 head, BitVec.ofNat 8 role, BitVec.ofNat 8 chain, 3, 0] ++ leBytes 2 cyc ++ leBytes 4 cyc ++ leBytes 2 body.length ++ [1, 0] ++ body)
def pr (m role : Nat) : State := ((((((eng m).putN (Reg.PTN_CFG) 0x100).setFld (Reg.LNK_STAT 12) 3 0 5).setFld (Reg.LNK_STAT 13) 3 0 5).setFld Reg.PTN_STAT 26 25 role).setFlag Reg.PTN_STAT 23 true).setFlag Reg.PTN_STAT 24 true
def hd (f : List Byte) := frameHead f
def st (fl tm cyc : Nat) : List Byte := [5, BitVec.ofNat 8 fl, BitVec.ofNat 8 tm, 3] ++ leBytes 4 cyc ++ List.replicate 24 0x5A
def smp : List Byte := (List.range 16).flatMap fun i => leBytes 4 (i+100) ++ [BitVec.ofNat 8 i, if i % 2 = 0 then 0 else 0xFF, 0, 0]
def rel : List Byte := [27] ++ List.replicate 47 9
def chp (m r : Nat) : State := (((pr m r).putN (Reg.LNK_CH_CFG 2) 0xC1).setFld (Reg.LNK_STAT 2) 3 0 5).putN Reg.PTN_ADC_OWN 0xFFFF
def segS : State := { pr 5 2 with ptn := { (pr 5 2).ptn with image := [1], imageCycle := 7 } }
def chF : State := (chp 5 1).setFlag (Reg.LNK_CH_CFG 2) 8 true
def f_stat0_1 : List Byte := fr 0x11 1 1 0xFF 5 (st 0 255 0)
def b_stat0_1 : List Byte := st 0 255 0
def g_stat0_1 : List Nat := onLine kStart f_stat0_1
def f_stat32_2 : List Byte := fr 0x11 1 2 0xFF 5 (st 32 6 0)
def b_stat32_2 : List Byte := st 32 6 0
def g_stat32_2 : List Nat := onLine kStart f_stat32_2
def f_hello : List Byte := fr 0x14 1 1 0xFF 5 (st 1 2 3)
def b_hello : List Byte := st 1 2 3
def g_hello : List Nat := onLine kStart f_hello
def f_smp : List Byte := fr 0x13 1 1 0xFF 0 smp
def b_smp : List Byte := smp
def g_smp : List Nat := onLine kStart f_smp
def f_rel : List Byte := fr 0x12 1 1 2 0 rel
def b_rel : List Byte := rel
def g_rel : List Nat := onLine kStart f_rel
def f_seg : List Byte := fr 0x10 1 1 0 7 (List.replicate 16 1)
def b_seg : List Byte := List.replicate 16 1
def g_seg : List Nat := onLine kStart f_seg
def f_bulk : List Byte := fr 0x15 1 1 0xFF 7 ([1,0,0,0,8,0,0,0] ++ List.replicate 24 1)
def b_bulk : List Byte := [1,0,0,0,8,0,0,0] ++ List.replicate 24 1
def g_bulk : List Nat := onLine kStart f_bulk
def w1 : FrameHead := (hd f_stat0_1)
def w2 : State := (pr 1 0)
def w3 : State := ((pr 1 0).lineFrame 12 g_stat0_1).1
def w4 : FrameHead := (hd f_stat32_2)
def w5 : State := ((pr 1 0).lineFrame 12 g_stat32_2).1
def w6 : FrameHead := (hd f_hello)
def w7 : State := ((pr 1 0).lineFrame 13 g_hello).1
def w8 : State := (pr 2 2)
def w9 : State := ((pr 2 2).lineFrame 13 g_hello).1
def w10 : FrameHead := (hd f_smp)
def w11 : State := (chp 1 0)
def w12 : State := ((chp 1 0).lineFrame 13 g_smp).1
def w13 : State := (chp 2 2)
def w14 : State := ((chp 2 2).lineFrame 13 g_smp).1
def w15 : FrameHead := (hd f_rel)
def w16 : State := chF
def w17 : State := (chF.lineFrame 13 g_rel).1
def w18 : FrameHead := (hd f_seg)
def w19 : State := segS
def w20 : State := (segS.lineFrame 13 g_seg).1
def w21 : FrameHead := (hd f_bulk)
def w22 : State := ((pr 5 2).setFld Reg.PTN_STAT 31 28 1)
def w23 : State := (((pr 5 2).setFld Reg.PTN_STAT 31 28 1).lineFrame 13 g_bulk).1
def w24 : State := (chp 5 1)
def w25 : State := ({ chp 5 2 with sys := { (chp 5 2).sys with headB := true } })
def w26 : State := ((pr 5 1).setFlag Reg.PTN_STAT 16 true)
def w27 : State := ((pr 5 2).setFlag Reg.PTN_STAT 16 true)
def w28 : State := ({ pr 1 1 with mod := { (pr 1 1).mod with hold := true }, ptn := { (pr 1 1).ptn with gvHeld := true } })
def w29 : State := ({ pr 5 2 with mod := { (pr 5 2).mod with hold := true }, ptn := { (pr 5 2).ptn with gvHeld := true } })
def w30 : State := (pr 5 1)
def w31 : State := (pr 1 1)
def w32 : Src := (Src.core 1)

/-- The hypotheses of PartnerFrames, clause by clause. -/
theorem test_PartnerFrames_1 :
    ((w2.FltOk) ∧ (w2.partnerHears 0 g_stat0_1.length = true) ∧ (w2.lineFrame (12 + 0) g_stat0_1 = (w3, some (kStart, f_stat0_1, false))) ∧ ((w3.fromPartner? 0 17 f_stat0_1 false fun c n => c == 255 && n == 32) = some (w1, b_stat0_1)) ∧ (bitAt (leAt b_stat0_1 1 1) 6 = false))
      ∧ ((w2.FltOk) ∧ (w2.partnerHears 0 g_stat32_2.length = true) ∧ (w2.lineFrame (12 + 0) g_stat32_2 = (w5, some (kStart, f_stat32_2, false))) ∧ ((w5.fromPartner? 0 17 f_stat32_2 false fun c n => c == 255 && n == 32) = some (w4, b_stat32_2)) ∧ (bitAt (leAt b_stat32_2 1 1) 6 = false))
      ∧ ((w2.FltOk) ∧ (w2.partnerHears 1 g_hello.length = true) ∧ (w2.lineFrame (12 + 1) g_hello = (w7, some (kStart, f_hello, false))) ∧ ((w7.fromPartner? 1 20 f_hello false fun c n => c == 255 && n == 32) = some (w6, b_hello))) := by
  repeat' apply And.intro
  all_goals decide +kernel

/-- The hypotheses of PartnerFrames, clause by clause. -/
theorem test_PartnerFrames_2 :
    ((w8.FltOk) ∧ (w8.partnerHears 1 g_hello.length = true) ∧ (w8.lineFrame (12 + 1) g_hello = (w9, some (kStart, f_hello, false))) ∧ ((w9.fromPartner? 1 20 f_hello false fun c n => c == 255 && n == 32) = some (w6, b_hello)))
      ∧ ((w11.FltOk) ∧ (w11.partnerHears 1 g_smp.length = true) ∧ (w11.lineFrame (12 + 1) g_smp = (w12, some (kStart, f_smp, false))) ∧ ((w12.fromPartner? 1 19 f_smp false fun c n => c == 255 && n == 128) = some (w10, b_smp)) ∧ (w12.sampleFits w10.cycle = true))
      ∧ ((w13.FltOk) ∧ (w13.partnerHears 1 g_smp.length = true) ∧ (w13.lineFrame (12 + 1) g_smp = (w14, some (kStart, f_smp, false))) ∧ ((w14.fromPartner? 1 19 f_smp false fun c n => c == 255 && n == 128) = some (w10, b_smp)) ∧ (w14.sampleFits w10.cycle = true)) := by
  repeat' apply And.intro
  all_goals decide +kernel

/-- The hypotheses of PartnerFrames, clause by clause. -/
theorem test_PartnerFrames_3 :
    ((w16.FltOk) ∧ (w16.partnerHears 1 g_rel.length = true) ∧ (w16.lineFrame (12 + 1) g_rel = (w17, some (kStart, f_rel, false))) ∧ ((w17.fromPartner? 1 18 f_rel false fun c n => decide (c < 12) && n == 48) = some (w15, b_rel)) ∧ (w17.recordFits w15.chain w15 b_rel = true))
      ∧ ((w19.FltOk) ∧ (w19.partnerHears 1 g_seg.length = true) ∧ (w19.lineFrame (12 + 1) g_seg = (w20, some (kStart, f_seg, false))) ∧ ((w20.fromPartner? 1 16 f_seg false fun c n => decide (c < 4) && decide (n ≤ 512)) = some (w18, b_seg)) ∧ (w20.isFollow = true) ∧ (w20.ptn.copyDone = false) ∧ (w18.cycle = w20.ptn.imageCycle) ∧ (w20.ptn.image ≠ []) ∧ (∀ (x : Nat × Nat × List Byte), x ∈ w20.ptn.segs → ¬(x.fst = w18.cycle ∧ x.snd.fst = w18.chain)) ∧ (State.copyImage ((w18.cycle, w18.chain, b_seg) :: w20.ptn.segs) w18.cycle = none))
      ∧ ((w22.FltOk) ∧ (w22.partnerHears 1 g_bulk.length = true) ∧ (w22.lineFrame (12 + 1) g_bulk = (w23, some (kStart, f_bulk, false))) ∧ ((w23.fromPartner? 1 21 f_bulk false fun c n => c == 255 && decide (8 ≤ n) && decide (n ≤ 1032)) = some (w21, b_bulk)) ∧ (leAt b_bulk 0 1 = 1) ∧ (w23.joinStep ≠ 0) ∧ (leAt b_bulk 4 4 + (b_bulk.length - 8) ≤ 2097152) ∧ (w23.tru.bank = none)) := by
  repeat' apply And.intro
  all_goals decide +kernel

/-- The hypotheses of PartnerSends, clause by clause. -/
theorem test_PartnerSends :
    ((w24.Awake) ∧ (w24.paired = true) ∧ (w24.samplesDue = true))
      ∧ ((w25.Awake) ∧ (w25.paired = true) ∧ (w25.samplesDue = true))
      ∧ ((w24.Awake) ∧ (w24.paired = true) ∧ (1 < 2) ∧ (w24.isLead = true) ∧ (w24.plUp 1 = true) ∧ (0 < 1024) ∧ (1024 ≤ 1024) ∧ (256 + 1024 ≤ 2097152))
      ∧ ((w19.Awake) ∧ (w19.paired = true) ∧ (w19.isFollow = true) ∧ (w19.ptn.copyDone = false) ∧ (w19.ptn.image ≠ []) ∧ (w19.copyOver = true) ∧ (w19.fld Reg.PTN_STAT 11 10 < 2)) := by
  repeat' apply And.intro
  all_goals decide +kernel

/-- The hypotheses of PartnerControls, clause by clause. -/
theorem test_PartnerControls :
    ((w26.Awake) ∧ (w26.paired = true) ∧ (w26.gvRuns = true) ∧ (w26.mod.run = none) ∧ (w26.elapsed w26.ptn.gvTick 300 = true) ∧ (w26.elapsed w26.mod.endTick 300 = true))
      ∧ ((w27.Awake) ∧ (w27.paired = true) ∧ (w27.gvRuns = true) ∧ (w27.mod.run = none) ∧ (w27.elapsed w27.ptn.gvTick 300 = true) ∧ (w27.elapsed w27.mod.endTick 300 = true))
      ∧ ((w28.Awake) ∧ (w28.paired = true) ∧ (w28.ptn.gvHeld = true) ∧ (w28.elapsed w28.ptn.gvTick 1500 = true))
      ∧ ((w29.Awake) ∧ (w29.paired = true) ∧ (w29.ptn.gvHeld = true) ∧ (w29.elapsed w29.ptn.gvTick 1500 = true))
      ∧ ((w30.Awake) ∧ (w30.isLead = true) ∧ (w30.partnerInStep = true))
      ∧ ((w31.Awake) ∧ (w31.isLead = true) ∧ (w31.partnerInStep = true))
      ∧ ((w31.Awake) ∧ (w31.isLead = true))
      ∧ ((w31.Awake) ∧ (w31.Sends w32))
      ∧ ((w31.Awake) ∧ (w31.Sends Src.hpi)) := by
  repeat' apply And.intro
  all_goals decide +kernel
end TF

namespace TG
def pwm (g : Nat) (f : PwmGroup → PwmGroup) (s : State) : State := { s with pwm := { s.pwm with groups := s.pwm.groups.mapIdx fun i x => if i = g then f x else x } }
def hb (h : Nat) (f : PwmHb → PwmHb) (s : State) : State := { s with pwm := { s.pwm with hb := s.pwm.hb.mapIdx fun i x => if i = h then f x else x } }
def pw (g h : Nat) : State := ((((pwm g (fun g => { g with run := true, start := 31990000 }) (run 4)).putAct (Reg.PWM_G_PERIOD g) 10020).putAct (Reg.PWM_HB_CMPA h) 5000).putN (Reg.PWM_G_PERIOD g) 10020).putN (Reg.PWM_HB_CMPA h) 5000
def outs (s : State) : State := { (((s.putN Reg.CLK_OUT_EN 8).putN Reg.CLK_SYN_CFG 1).putN Reg.CLK_SYN_WORD 0x40000000).putN (Reg.CLK_OUTN_CFG 3) 1000 with clk := { s.clk with outs := List.replicate 8 { start := 0, phase := -(7 * 2 ^ 63) } } }
def w1 : State := (run 3)
def w2 : State := (pwm 0 (fun g => { g with run := true }) (run 4))
def w3 : State := (run 1)
def w4 : State := (run 2)
def w5 : State := (run 7)
def w6 : State := (pwm 0 (fun g => { g with run := true }) ((run 4).putN (Reg.PWM_G_MSK_CFG 0) 1))
def w7 : State := (pwm 1 (fun g => { g with run := false }) (((run 4).putN (Reg.PWM_G_MSK_CFG 1) 1).putN (Reg.PWM_MSK_HOLD 1 0) 0x70100))
def w8 : State := (pw 0 0)
def w9 : State := (pw 1 5)
def w10 : State := (outs (pwm 1 (fun g => { g with synEdge := some 31990000 }) ((run 4).putN (Reg.PWM_G_CFG 1) 0x30020)))
def w11 : State := (pwm 1 (fun g => { g with run := true, synEdge := some 3199000 }) (((run 4).putN (Reg.PWM_G_CFG 1) 0x30020).putN (Reg.PWM_G_SYNPER 1) 500))
def w12 : State := (run 4)
def w13 : State := ((run 4).putN Reg.PWM_STAT 0x20)
def w14 : State := (hb 1 (fun x => { x with formed := 31990000, raw := false, pulse := false, edgeAt := 31900000 }) ((pw 0 1).putN (Reg.PWM_HB_CFG 1) 0))
def w15 : State := (hb 1 (fun x => { x with formed := 31995000, raw := true, pulse := true, edgeAt := 31900000 }) ((pw 0 1).putN (Reg.PWM_HB_CFG 1) 0))
def w16 : State := (hb 5 (fun x => { x with formed := 31995000, raw := true, pulse := true, edgeAt := 31900000 }) ((pw 1 5).putN (Reg.PWM_HB_CFG 5) 0))
def w17 : Src := (Src.core 1)

/-- The hypotheses of PwmGroupControls, clause by clause. -/
theorem test_PwmGroupControls :
    ((w1.Awake) ∧ (w1.coreWrites ↑1 = true) ∧ (3 ≤ w1.mode) ∧ (w1.flag Reg.PWM_STAT 5 = false))
      ∧ ((w2.Awake) ∧ (w2.coreWrites ↑1 = true) ∧ (3 ≤ w2.mode) ∧ (w2.flag Reg.PWM_STAT 5 = false))
      ∧ ((w3.Awake) ∧ (w3.coreWrites ↑1 = true) ∧ (w3.mode < 3))
      ∧ ((w4.Awake) ∧ (w4.coreWrites ↑1 = true) ∧ (w4.mode < 3))
      ∧ ((w5.Awake) ∧ (w5.coreWrites ↑1 = true))
      ∧ ((w2.Awake) ∧ (w2.coreWrites ↑1 = true))
      ∧ ((w6.Awake) ∧ (w6.coreWrites ↑1 = true) ∧ (w6.maskSource (↑0) 0 = true) ∧ (w6.flag (Reg.PWM_G_MSK_CFG ↑0) 0 = true) ∧ (w6.flag (Reg.PWM_G_MSK_CFG ↑0) 1 = false) ∧ ((w6.grp ↑0).next = none) ∧ (¬((w6.grp ↑0).moved = true ∧ (w6.grp ↑0).entryTick = w6.tickNo)) ∧ (w6.fld (Reg.PWM_MSK_HOLD (↑0) (w6.maskIdx ↑0)) 15 0 ≤ w6.tickNo - (w6.grp ↑0).entryTick))
      ∧ ((w7.Awake) ∧ (w7.coreWrites ↑1 = true) ∧ (w7.maskSource (↑1) 0 = true) ∧ (w7.flag (Reg.PWM_G_MSK_CFG ↑1) 0 = true) ∧ (w7.flag (Reg.PWM_G_MSK_CFG ↑1) 1 = false) ∧ ((w7.grp ↑1).next = none) ∧ (¬((w7.grp ↑1).moved = true ∧ (w7.grp ↑1).entryTick = w7.tickNo)) ∧ (w7.fld (Reg.PWM_MSK_HOLD (↑1) (w7.maskIdx ↑1)) 15 0 ≤ w7.tickNo - (w7.grp ↑1).entryTick)) := by
  repeat' apply And.intro
  all_goals decide +kernel

/-- The hypotheses of PwmEvents, clause by clause. -/
theorem test_PwmEvents :
    ((w8.Awake) ∧ (0 < 2) ∧ (w8.periodEnds 0 = true))
      ∧ ((w9.Awake) ∧ (1 < 2) ∧ (w9.periodEnds 1 = true))
      ∧ ((w10.Awake) ∧ (7 < 32) ∧ (w10.tsrc 1 = 2) ∧ (w10.fld (Reg.PWM_G_CFG 1) 19 16 = 3) ∧ (w10.outEdge 3 (32 * w10.tickNo + 7) = true) ∧ ((w10.grp 1).synEdge = some 31990000) ∧ ((w10.grp 1).run = false) ∧ (31990000 + 400 ≤ 32 * w10.tickNo + 7) ∧ (32 * w10.tickNo + 7 ≤ 31990000 + 16777215))
      ∧ ((w11.Awake) ∧ (w11.tsrc 1 = 2) ∧ ((w11.grp 1).run = true) ∧ ((w11.grp 1).synEdge = some 3199000) ∧ (w11.fld (Reg.PWM_G_SYNPER 1) 23 0 ≠ 0) ∧ (3199000 + 2 * w11.fld (Reg.PWM_G_SYNPER 1) 23 0 ≤ 32 * w11.tickNo))
      ∧ ((w12.Awake) ∧ (w12.flag Reg.PWM_STAT 5 = false))
      ∧ ((w13.Awake) ∧ (w13.flag Reg.PWM_STAT 5 = true))
      ∧ ((w12.Awake))
      ∧ ((w3.Awake))
      ∧ ((w14.Awake) ∧ ((w14.grp (hbGroup ↑1)).run = true) ∧ ((w14.grp (hbGroup ↑1)).waiting = false) ∧ (w14.hbSrc ↑1 = false) ∧ (w14.direct ↑1 = false) ∧ (0 < w14.periodOf (hbGroup ↑1)) ∧ ((w14.grp (hbGroup ↑1)).start + 0 < 32 * (w14.tickNo + 1)))
      ∧ ((w15.Awake) ∧ ((w15.grp (hbGroup ↑1)).run = true) ∧ ((w15.grp (hbGroup ↑1)).waiting = false) ∧ (w15.hbSrc ↑1 = false) ∧ (w15.direct ↑1 = false) ∧ (5000 < w15.periodOf (hbGroup ↑1)) ∧ ((w15.grp (hbGroup ↑1)).start + 5000 < 32 * (w15.tickNo + 1)))
      ∧ ((w14.Awake) ∧ ((w14.grp (hbGroup ↑1)).run = true) ∧ ((w14.grp (hbGroup ↑1)).waiting = false) ∧ (w14.hbSrc ↑1 = false) ∧ (w14.direct ↑1 = false) ∧ (0 < w14.periodOf (hbGroup ↑1)) ∧ ((w14.grp (hbGroup ↑1)).start + 0 < 32 * (w14.tickNo + 1)) ∧ ((w14.grp (hbGroup ↑1)).start + 0 < w14.periodEnd (hbGroup ↑1) (w14.grp (hbGroup ↑1)).start (w14.periodOf (hbGroup ↑1))) ∧ (0 ∈ (w14.waveOf ↑1).instants) ∧ ((w14.hb ↑1).formed = (w14.grp (hbGroup ↑1)).start + 0) ∧ ((w14.hb ↑1).hold = none) ∧ ((w14.hb ↑1).refreshEnd = none) ∧ ((w14.waveOf ↑1).level 0 ≠ (w14.hb ↑1).raw) ∧ ((w14.waveOf ↑1).level 0 ≠ (w14.hb ↑1).pulse) ∧ ((w14.hb ↑1).edgeAt + w14.hbMinp ↑1 ≤ (w14.grp (hbGroup ↑1)).start + 0) ∧ (∀ (e : Nat), firstEdge ((w14.grp (hbGroup ↑1)).start + 0) ((w14.waveOf ↑1).level 0) (!(w14.waveOf ↑1).level 0) (List.flatMap Piece.edges (w14.pieces ↑1)) = some e → w14.hbMinp ↑1 ≤ e - ((w14.grp (hbGroup ↑1)).start + 0)))
      ∧ ((w16.Awake) ∧ ((w16.grp (hbGroup ↑5)).run = true) ∧ ((w16.grp (hbGroup ↑5)).waiting = false) ∧ (w16.hbSrc ↑5 = false) ∧ (w16.direct ↑5 = false) ∧ (5000 < w16.periodOf (hbGroup ↑5)) ∧ ((w16.grp (hbGroup ↑5)).start + 5000 < 32 * (w16.tickNo + 1)) ∧ ((w16.grp (hbGroup ↑5)).start + 5000 < w16.periodEnd (hbGroup ↑5) (w16.grp (hbGroup ↑5)).start (w16.periodOf (hbGroup ↑5))) ∧ (5000 ∈ (w16.waveOf ↑5).instants) ∧ ((w16.hb ↑5).formed = (w16.grp (hbGroup ↑5)).start + 5000) ∧ ((w16.hb ↑5).hold = none) ∧ ((w16.hb ↑5).refreshEnd = none) ∧ ((w16.waveOf ↑5).level 5000 ≠ (w16.hb ↑5).raw) ∧ ((w16.waveOf ↑5).level 5000 ≠ (w16.hb ↑5).pulse) ∧ ((w16.hb ↑5).edgeAt + w16.hbMinp ↑5 ≤ (w16.grp (hbGroup ↑5)).start + 5000) ∧ (∀ (e : Nat), firstEdge ((w16.grp (hbGroup ↑5)).start + 5000) ((w16.waveOf ↑5).level 5000) (!(w16.waveOf ↑5).level 5000) (List.flatMap Piece.edges (w16.pieces ↑5)) = some e → w16.hbMinp ↑5 ≤ e - ((w16.grp (hbGroup ↑5)).start + 5000)))
      ∧ ((w3.Awake) ∧ (w3.Sends Src.hpi))
      ∧ ((w3.Awake) ∧ (w3.Sends w17)) := by
  repeat' apply And.intro
  all_goals decide +kernel
end TG

namespace TG2
def lg (h : Nat) (f : Leg → Leg) (s : State) : State := { s with gdr := { s.gdr with legs := s.gdr.legs.mapIdx fun i x => if i = h then f x else x } }
def up : State := (run 5).putN Reg.GDR_STAT 0x3F0000
def w1 : State := (lg 2 (fun l => { l with hi := { l.hi with on := true } }) up)
def w2 : State := (lg 5 (fun l => { l with lo := { l.lo with on := true } }) up)
def w3 : State := up
def w4 : State := (lg 5 (fun l => { l with lo := { l.lo with on := true, measured := false } }) up)
def w5 : State := (lg 2 (fun l => { l with hi := { l.hi with on := true, measured := false } }) up)
def w6 : State := (up.putN (Reg.GDR_HB_CFG 2) 1)
def w7 : State := (up.putN (Reg.GDR_HB_CFG 5) 1)
def w8 : State := (lg 2 (fun l => { l with hi := { l.hi with pending := true, cmdAt := 31999000, dead := 200 } }) up)
def w9 : Leg := { hi := { pending := true, cmdAt := 31999000, dead := 200 } }
def w10 : State := (lg 4 (fun l => { l with lo := { l.lo with pending := true, cmdAt := 31999000, dead := 200 }, hi := { l.hi with low := false } }) up)
def w11 : Leg := { lo := { pending := true, cmdAt := 31999000, dead := 200 }, hi := { low := false } }
def w12 : State := (lg 2 (fun l => { l with hi := { l.hi with low := false, offAt := 31999000 } }) up)
def w13 : Leg := { hi := { low := false, offAt := 31999000 } }
def w14 : State := (lg 4 (fun l => { l with lo := { l.lo with low := false, offAt := 31999000 }, hi := { l.hi with waiting := true, soft := true } }) up)
def w15 : Leg := { lo := { low := false, offAt := 31999000 }, hi := { waiting := true, soft := true } }
def w16 : State := (lg 2 (fun l => { l with hi := { l.hi with soft := true, softOff := true, low := false, offAt := 31900000 } }) up)
def w17 : Leg := { hi := { soft := true, softOff := true, low := false, offAt := 31900000 } }
def w18 : State := (lg 4 (fun l => { l with lo := { l.lo with soft := true, waiting := true, low := false, offAt := 31900000 } }) up)
def w19 : Leg := { lo := { soft := true, waiting := true, low := false, offAt := 31900000 } }
def w20 : Leg := {}
def w21 : State := (run 5)
def w22 : State := (lg 2 (fun l => { l with hi := { l.hi with on := true, edgeOn := true } }) up)
def w23 : Leg := { hi := { on := true, edgeOn := true } }
def w24 : State := (lg 2 (fun l => { l with hi := { l.hi with edgeOff := true } }) up)
def w25 : Leg := { hi := { edgeOff := true } }
def w26 : State := (lg 2 (fun l => { l with hi := { l.hi with on := true, edgeOn := true, measured := false } }) up)
def w27 : Leg := { hi := { on := true, edgeOn := true, measured := false } }
def w28 : Option Nat := none
def w29 : Option Nat := (some 3001)
def w30 : List Nat := [1,2,3,4,5,6]
def w31 : List Nat := [100000,2,30000]
def w32 : State := (up.putN Reg.GDR_DIRECT 0x3F)
def w33 : State := (up.putN (Reg.GDR_HB_FLT 3) 2)
def w34 : State := ((run 5).putN (Reg.GDR_HB_FLT 3) 0x100)
def w35 : Src := (Src.core 1)

/-- The hypotheses of GateTrips, clause by clause. -/
theorem test_GateTrips :
    ((w1.Awake) ∧ (20 ≤ 20) ∧ ((w1.sw (↑2) true).on = true) ∧ (w1.passedNs (w1.sw (↑2) true).onAt (w1.blankNs ↑2 + 20) = true))
      ∧ ((w2.Awake) ∧ (20 ≤ 5000) ∧ ((w2.sw (↑5) false).on = true) ∧ (w2.passedNs (w2.sw (↑5) false).onAt (w2.blankNs ↑5 + 20) = true))
      ∧ ((w1.Awake) ∧ (w1.desatTrips (↑2) true 19 = false))
      ∧ ((w3.Awake) ∧ (w3.desatTrips (↑5) false 50 = false))
      ∧ ((w1.Awake) ∧ ((w1.sw (↑2) true).on = true) ∧ (w1.passedNs (w1.sw (↑2) true).onAt 20 = true))
      ∧ ((w4.Awake) ∧ ((w4.sw (↑5) false).on = true) ∧ (w4.passedNs (w4.sw (↑5) false).onAt 20 = true))
      ∧ ((w5.Awake) ∧ ((w5.sw (↑2) true).on = true) ∧ ((w5.sw (↑2) true).measured = false) ∧ (w5.passedNs (w5.sw (↑2) true).onAt (w5.gcmNs ↑2) = true))
      ∧ ((w4.Awake) ∧ ((w4.sw (↑5) false).on = true) ∧ ((w4.sw (↑5) false).measured = false) ∧ (w4.passedNs (w4.sw (↑5) false).onAt (w4.gcmNs ↑5) = true))
      ∧ ((w5.Awake) ∧ (true = false ∨ w5.flag (Reg.GDR_HB_CFG ↑2) 0 = false ∨ (w5.sw (↑2) true).on = true ∨ (w5.sw (↑2) true).pending = true ∨ (w5.sw (↑2) true).waiting = true))
      ∧ ((w3.Awake) ∧ (true = false ∨ w3.flag (Reg.GDR_HB_CFG ↑5) 0 = false ∨ (w3.sw (↑5) true).on = true ∨ (w3.sw (↑5) true).pending = true ∨ (w3.sw (↑5) true).waiting = true))
      ∧ ((w6.Awake) ∧ (true = true) ∧ (w6.flag (Reg.GDR_HB_CFG ↑2) 0 = true) ∧ ((w6.sw (↑2) true).on = false) ∧ ((w6.sw (↑2) true).pending = false) ∧ ((w6.sw (↑2) true).waiting = false))
      ∧ ((w7.Awake) ∧ (true = true) ∧ (w7.flag (Reg.GDR_HB_CFG ↑5) 0 = true) ∧ ((w7.sw (↑5) true).on = false) ∧ ((w7.sw (↑5) true).pending = false) ∧ ((w7.sw (↑5) true).waiting = false))
      ∧ ((w3.Awake) ∧ (w3.segUp ↑2 = true))
      ∧ ((w3.Awake) ∧ (w3.segUp ↑5 = true)) := by
  repeat' apply And.intro
  all_goals decide +kernel

/-- The hypotheses of GateEvents, clause by clause. -/
theorem test_GateEvents :
    ((w8.Awake) ∧ (w8.gdr.legs[↑2]? = some w9) ∧ (w8.deadTimeOver (↑2) true = true) ∧ ((fun x => x = false ∨ w8.flag (Reg.GDR_HB_CFG ↑2) 0 = false ∨ w8.flag (Reg.GDR_HB_STAT ↑2) 6 = true) true))
      ∧ ((w10.Awake) ∧ (w10.gdr.legs[↑4]? = some w11) ∧ (w10.deadTimeOver (↑4) false = true) ∧ ((fun x => x = false ∨ w10.flag (Reg.GDR_HB_CFG ↑4) 0 = false ∨ w10.flag (Reg.GDR_HB_STAT ↑4) 6 = true) false))
      ∧ ((w12.Awake) ∧ (w12.gdr.legs[↑2]? = some w13) ∧ ((w12.sw (↑2) true).on = false) ∧ ((w12.sw (↑2) true).low = false) ∧ (w12.passedNs (w12.sw (↑2) true).offAt 20 = true))
      ∧ ((w14.Awake) ∧ (w14.gdr.legs[↑4]? = some w15) ∧ ((w14.sw (↑4) false).on = false) ∧ ((w14.sw (↑4) false).low = false) ∧ (w14.passedNs (w14.sw (↑4) false).offAt 20 = true))
      ∧ ((w16.Awake) ∧ (w16.gdr.legs[↑2]? = some w17) ∧ ((w16.sw (↑2) true).soft = true) ∧ (w16.passedNs (w16.sw (↑2) true).offAt (w16.sw (↑2) true).softFor = true))
      ∧ ((w18.Awake) ∧ (w18.gdr.legs[↑4]? = some w19) ∧ ((w18.sw (↑4) false).soft = true) ∧ (w18.passedNs (w18.sw (↑4) false).offAt (w18.sw (↑4) false).softFor = true))
      ∧ ((w3.Awake) ∧ (w3.gdr.legs[↑2]? = some w20) ∧ (w3.flag (Reg.GDR_HB_STAT ↑2) (if true = true then 6 else 7) = false))
      ∧ ((w3.Awake) ∧ (w3.gdr.legs[↑4]? = some w20) ∧ (w3.flag (Reg.GDR_HB_STAT ↑4) (if false = true then 6 else 7) = false))
      ∧ ((w21.Awake) ∧ (w21.gdr.legs[↑2]? = some w20) ∧ (w21.segUp ↑2 = false))
      ∧ ((w21.Awake) ∧ (w21.gdr.legs[↑4]? = some w20) ∧ (w21.segUp ↑4 = false))
      ∧ ((w22.Awake) ∧ (w22.gdr.legs[↑2]? = some w23) ∧ (w22.edgeOpen (↑2) true true = true) ∧ (4 ≤ 4) ∧ (4 ≤ 3000) ∧ ((w22.sw (↑2) true).cut ≠ some true) ∧ (true = true ∨ (w22.sw (↑2) true).softOff = false))
      ∧ ((w24.Awake) ∧ (w24.gdr.legs[↑2]? = some w25) ∧ (w24.edgeOpen (↑2) true false = true) ∧ (4 ≤ 700) ∧ (700 ≤ 3000) ∧ ((w24.sw (↑2) true).cut ≠ some false) ∧ (false = true ∨ (w24.sw (↑2) true).softOff = false))
      ∧ ((w26.Awake) ∧ (w26.gdr.legs[↑2]? = some w27) ∧ (w26.edgeOpen (↑2) true true = true) ∧ (w26.measuredTime (↑2) true true w28 = none))
      ∧ ((w24.Awake) ∧ (w24.gdr.legs[↑2]? = some w25) ∧ (w24.edgeOpen (↑2) true false = true) ∧ (w24.measuredTime (↑2) true false w29 = none))
      ∧ ((w3.Awake) ∧ (w3.gdr.legs[↑2]? = some w20))
      ∧ ((w3.Awake) ∧ (w3.gdr.legs[↑4]? = some w20)) := by
  repeat' apply And.intro
  all_goals decide +kernel

/-- The hypotheses of GateControls, clause by clause. -/
theorem test_GateControls :
    ((w3.Awake) ∧ (w3.Sends Src.hpi) ∧ (w3.coreWrites ↑2 = true))
      ∧ ((w32.Awake) ∧ (w32.Sends Src.hpi) ∧ (w32.coreWrites ↑2 = true))
      ∧ ((w33.Awake) ∧ (w33.Sends Src.hpi) ∧ (w33.coreWrites ↑2 = true) ∧ (w33.gdrLatched ↑3 = true) ∧ (w33.gdrGone ↑3 = true))
      ∧ ((w34.Awake) ∧ (w34.Sends Src.hpi) ∧ (w34.coreWrites ↑2 = true) ∧ (w34.gdrLatched ↑3 = true) ∧ (w34.gdrGone ↑3 = false))
      ∧ ((w33.Awake) ∧ (w33.Sends Src.hpi) ∧ (w33.coreWrites ↑2 = true))
      ∧ ((w33.Awake) ∧ (w33.Sends w35) ∧ (w33.coreWrites ↑2 = true)) := by
  repeat' apply And.intro
  all_goals decide +kernel
end TG2

namespace TH
def ad (c : Nat) : State := ((run 5).setFlag Reg.ADC_STAT (16 + c) true).putN (Reg.ADC_CH_CFG c) 1
def adAt (c off : Nat) : State := { ad c with adc := { (ad c).adc with ch := List.replicate 16 { due := 8000000 + off } } }
def w1 : State := (adAt 0 0)
def w2 : Int := (0)
def w3 : State := (adAt 7 0)
def w4 : State := (ad 0)
def w5 : State := (ad 15)
def w6 : State := (run 5)
def w7 : State := (ad 2)
def w8 : State := ({ ad 2 with adc := { (ad 2).adc with meters := [{ pos := .fin false 7 0, neg := .zero }, {}, {}] } })

/-- The hypotheses of PrecisionChannels, clause by clause. -/
theorem test_PrecisionChannels :
    ((w1.Awake) ∧ (w1.Sends Src.hpi) ∧ (w1.coreWrites ↑1 = true) ∧ (w1.adcEn ↑0 = true) ∧ (w1.pairMode ↑0 = 0) ∧ (w1.flag Reg.ADC_STAT (16 + ↑0) = true) ∧ (w1.owOpen ↑0 = false) ∧ (w1.adcOw ↑0 % 4 ≠ 1) ∧ (w1.settleLeft ↑0 = 0) ∧ ((w1.adcCh ↑0).testing = false) ∧ ((w1.adcCh ↑0).settleNext = false) ∧ (0 < 8) ∧ (w1.outputDue (↑0) (8 * w1.tickNo + 0) = true) ∧ (-8388608 ≤ w2) ∧ (w2 ≤ 8388607))
      ∧ ((w3.Awake) ∧ (w3.Sends Src.hpi) ∧ (w3.coreWrites ↑1 = true) ∧ (w3.adcEn ↑7 = true) ∧ (w3.pairMode ↑7 = 0) ∧ (w3.flag Reg.ADC_STAT (16 + ↑7) = true) ∧ (w3.owOpen ↑7 = false) ∧ (w3.adcOw ↑7 % 4 ≠ 1) ∧ (w3.settleLeft ↑7 = 0) ∧ ((w3.adcCh ↑7).testing = false) ∧ ((w3.adcCh ↑7).settleNext = false) ∧ (0 < 8) ∧ (w3.outputDue (↑7) (8 * w3.tickNo + 0) = true) ∧ (-8388608 ≤ w2) ∧ (w2 ≤ 8388607))
      ∧ ((w4.Awake) ∧ (w4.Sends Src.hpi) ∧ (w4.coreWrites ↑1 = true) ∧ (w4.flag Reg.ADC_STAT (16 + ↑0) = true))
      ∧ ((w5.Awake) ∧ (w5.Sends Src.hpi) ∧ (w5.coreWrites ↑1 = true) ∧ (w5.flag Reg.ADC_STAT (16 + ↑15) = true))
      ∧ ((w6.Awake) ∧ (w6.Sends Src.hpi) ∧ (w6.coreWrites ↑1 = true) ∧ (w6.flag Reg.ADC_STAT (16 + ↑0) = false))
      ∧ ((w6.Awake) ∧ (w6.Sends Src.hpi) ∧ (w6.coreWrites ↑1 = true) ∧ (w6.flag Reg.ADC_STAT (16 + ↑15) = false))
      ∧ ((w7.Awake) ∧ (w7.Sends Src.hpi) ∧ (w7.coreWrites ↑1 = true))
      ∧ ((w8.Awake) ∧ (w8.Sends Src.hpi) ∧ (w8.coreWrites ↑1 = true)) := by
  repeat' apply And.intro
  all_goals decide +kernel
end TH

namespace TH2
def hk (k i : Nat) : State := { ((run 5).putN Reg.HKP_STAT (0x50000 + k * 256)).putAct (Reg.HKP_SEQ k) (BitVec.ofNat 32 (0x40 + i)) with hk := { (run 5).hk with running := true } }
def now (k i : Nat) (fresh restart : Bool) : State := { hk k i with hk := { (hk k i).hk with running := true, start := 999999, fresh := fresh, restart := restart } }
def hku (i : Nat) : State := { (run 5).putN Reg.HKP_STAT (0x50302) with hk := { (run 5).hk with running := true, urgent := some (4, i) } }
def fs (m : Nat) : State := ((run m).putN (Reg.FLT_ACTIVE 2) 0x100).putN (Reg.FLT_LATCH 2) 0x300
def w1 : State := (hk 3 0)
def w2 : List Nat := [0,0,0,0,0]
def w3 : List Nat := []
def w4 : List Nat := [0,0,0,2500,2501]
def w5 : State := (now 3 0 false false)
def w6 : State := (now 3 7 false false)
def w7 : State := (now 3 0 true false)
def w8 : State := (now 3 3 true true)
def w9 : State := (run 5)
def w10 : State := (now 3 1 false true)
def w11 : State := (hku 0)
def w12 : State := (hku 7)
def w13 : State := (fs 5)
def w14 : Src := (Src.core 2)
def w15 : State := ({ fs 5 with flt := { (fs 5).flt with srcs := [(3, { cnt := 4, ns := 5, sec := 6, item := 7 })] } })
def w16 : State := (({ fs 5 with sys := (fs 5).sys }).coreRelease 0 0x100)
def w17 : Option Nat := (some 3)
def w18 : Option Nat := (some 1)
def w19 : State := (run 4)

/-- The hypotheses of Housekeeping, clause by clause. -/
theorem test_Housekeeping :
    ((w1.Runs) ∧ (w1.coreWrites ↑1 = true) ∧ (0 < 8) ∧ (w2.getD 3 0 < 65536) ∧ (w2.getD 4 0 < 65536) ∧ (w1.hk.running = true) ∧ (w1.urgRun = false) ∧ (w1.urgPend = false) ∧ (w1.hkElapsed = true) ∧ (w1.hkRunning < 31) ∧ (w1.hkEntry w1.hkRunning = (4, 0)))
      ∧ ((w1.Runs) ∧ (w1.coreWrites ↑1 = true) ∧ (0 < 8) ∧ (w4.getD 3 0 < 65536) ∧ (w4.getD 4 0 < 65536) ∧ (w1.hk.running = true) ∧ (w1.urgRun = false) ∧ (w1.urgPend = false) ∧ (w1.hkElapsed = true) ∧ (w1.hkRunning < 31) ∧ (w1.hkEntry w1.hkRunning = (4, 0)))
      ∧ ((w5.Runs) ∧ (w5.coreWrites ↑1 = true) ∧ (0 < 8) ∧ (w3.getD 3 0 < 65536) ∧ (w3.getD 4 0 < 65536) ∧ (w5.hk.urgent = none) ∧ (w5.hk.running = true) ∧ (w5.hkElapsed = false) ∧ (w5.hk.fresh = false) ∧ (w5.hk.restart = false))
      ∧ ((w6.Runs) ∧ (w6.coreWrites ↑1 = true) ∧ (7 < 8) ∧ (w3.getD 3 0 < 65536) ∧ (w3.getD 4 0 < 65536) ∧ (w6.hk.urgent = none) ∧ (w6.hk.running = true) ∧ (w6.hkElapsed = false) ∧ (w6.hk.fresh = false) ∧ (w6.hk.restart = false))
      ∧ ((w7.Runs) ∧ (w7.coreWrites ↑1 = true) ∧ (0 < 8) ∧ (w3.getD 3 0 < 65536) ∧ (w3.getD 4 0 < 65536) ∧ (w7.hk.urgent = none) ∧ (w7.hk.running = true) ∧ (w7.hkElapsed = false) ∧ (w7.hk.fresh = true))
      ∧ ((w8.Runs) ∧ (w8.coreWrites ↑1 = true) ∧ (3 < 8) ∧ (w3.getD 3 0 < 65536) ∧ (w3.getD 4 0 < 65536) ∧ (w8.hk.urgent = none) ∧ (w8.hk.running = true) ∧ (w8.hkElapsed = false) ∧ (w8.hk.fresh = true))
      ∧ ((w9.Runs) ∧ (w9.coreWrites ↑1 = true) ∧ (0 < 8) ∧ (w3.getD 3 0 < 65536) ∧ (w3.getD 4 0 < 65536) ∧ (w9.hk.urgent = none) ∧ (w9.hk.running = false ∨ w9.hkElapsed = true ∨ w9.hk.fresh = false ∧ w9.hk.restart = true))
      ∧ ((w10.Runs) ∧ (w10.coreWrites ↑1 = true) ∧ (1 < 8) ∧ (w3.getD 3 0 < 65536) ∧ (w3.getD 4 0 < 65536) ∧ (w10.hk.urgent = none) ∧ (w10.hk.running = false ∨ w10.hkElapsed = true ∨ w10.hk.fresh = false ∧ w10.hk.restart = true))
      ∧ ((w11.Runs) ∧ (w11.coreWrites ↑1 = true) ∧ (0 < 8) ∧ (w3.getD 3 0 < 65536) ∧ (w3.getD 4 0 < 65536) ∧ (w11.hk.urgent.isSome = true))
      ∧ ((w12.Runs) ∧ (w12.coreWrites ↑1 = true) ∧ (7 < 8) ∧ (w3.getD 3 0 < 65536) ∧ (w3.getD 4 0 < 65536) ∧ (w12.hk.urgent.isSome = true))
      ∧ ((w11.Runs) ∧ (w11.coreWrites ↑1 = true) ∧ (0 < 8) ∧ (w2.getD 3 0 < 65536) ∧ (w2.getD 4 0 < 65536) ∧ (w11.urgRun = true) ∧ (w11.hkElapsed = true) ∧ (w11.hk.urgent = some (4, 0)))
      ∧ ((w11.Runs) ∧ (w11.coreWrites ↑1 = true) ∧ (0 < 8) ∧ (w4.getD 3 0 < 65536) ∧ (w4.getD 4 0 < 65536) ∧ (w11.urgRun = true) ∧ (w11.hkElapsed = true) ∧ (w11.hk.urgent = some (4, 0))) := by
  repeat' apply And.intro
  all_goals decide +kernel

/-- The hypotheses of FaultControls, clause by clause. -/
theorem test_FaultControls :
    ((w13.Awake) ∧ (w13.Sends Src.hpi) ∧ (w13.coreWrites ↑1 = true) ∧ (72 < 256) ∧ (72 < 26 ∨ 40 < 72) ∧ (w13.fltLatched 72 = true) ∧ (¬256 + 72 ∈ w13.cores.evts))
      ∧ ((w13.Awake) ∧ (w13.Sends Src.hpi) ∧ (w13.coreWrites ↑1 = true) ∧ (73 < 256) ∧ (73 < 26 ∨ 40 < 73) ∧ (w13.fltLatched 73 = true) ∧ (¬256 + 73 ∈ w13.cores.evts))
      ∧ ((w13.Awake) ∧ (w13.Sends Src.hpi) ∧ (w13.coreWrites ↑1 = true))
      ∧ ((w13.Awake) ∧ (w13.Sends Src.hpi) ∧ (w13.coreWrites ↑1 = true) ∧ (fieldOf (BitVec.toNat (16842751 : Word)) 25 24 ≠ 3))
      ∧ ((w13.Awake) ∧ (w13.Sends Src.hpi) ∧ (w13.coreWrites ↑1 = true) ∧ (fieldOf (BitVec.toNat (4278129204 : Word)) 25 24 ≠ 3))
      ∧ ((w13.Awake) ∧ (w13.Sends Src.hpi) ∧ (w13.coreWrites ↑1 = true) ∧ (BitVec.toNat (73 : Word) < 256) ∧ (∀ (x : Nat × FltSrc), x ∈ w13.flt.srcs → x.snd.item < 65536))
      ∧ ((w13.Awake) ∧ (w13.Sends Src.hpi) ∧ (w13.coreWrites ↑1 = true) ∧ (BitVec.toNat (255 : Word) < 256) ∧ (∀ (x : Nat × FltSrc), x ∈ w13.flt.srcs → x.snd.item < 65536))
      ∧ ((w15.Awake) ∧ (w15.Sends w14) ∧ (w15.coreWrites ↑1 = true))
      ∧ ((w16.Awake) ∧ (w16.Sends w14) ∧ (w16.coreWrites ↑1 = true) ∧ (w16.condition 139 = false))
      ∧ ((w16.Awake) ∧ (w16.Sends w14) ∧ (w16.coreWrites ↑1 = true)) := by
  repeat' apply And.intro
  all_goals decide +kernel

/-- The hypotheses of FaultActions, clause by clause. -/
theorem test_FaultActions :
    ((w9.Awake) ∧ (w9.coreWrites ↑1 = true) ∧ (w9.paired = false) ∧ (w9.entryOpen = false) ∧ (w9.flt.queue.length < 32) ∧ (fieldOf (BitVec.toNat (16842751 : Word)) 25 24 ≠ 3) ∧ (max (w9.fltClass 255) (fieldOf (BitVec.toNat (16842751 : Word)) 25 24) < 2 ∨ w9.mode = 1))
      ∧ ((w19.Awake) ∧ (w19.coreWrites ↑1 = true) ∧ (w19.paired = false) ∧ (w19.entryOpen = false) ∧ (w19.flt.queue.length < 32) ∧ (fieldOf (BitVec.toNat (3211263 : Word)) 25 24 ≠ 3) ∧ (max (w19.fltClass 255) (fieldOf (BitVec.toNat (3211263 : Word)) 25 24) < 2 ∨ w19.mode = 1)) := by
  repeat' apply And.intro
  all_goals decide +kernel
end TH2

namespace TH3
def w1 : State := (run 4)
def w2 : FltReq := { code := 0, item := 3, value := 5 }
def w3 : Nat × Nat × Nat := ((fltInfo 0).getD (0,0,0))
def w4 : State := (run 2)
def w5 : FltReq := { code := 1, item := 3, value := 5 }
def w6 : Nat × Nat × Nat := ((fltInfo 1).getD (0,0,0))

/-- The hypotheses of FaultActions, clause by clause. -/
theorem test_FaultActions :
    ((w1.Awake) ∧ (w1.paired = false) ∧ (w1.kneRunning = false) ∧ (2 ≤ w1.mode) ∧ (fltInfo w2.code = some w3) ∧ (w2.code ≠ 255) ∧ (2 ≤ w1.fltClass w2.code))
      ∧ ((w4.Awake) ∧ (w4.paired = false) ∧ (w4.kneRunning = false) ∧ (2 ≤ w4.mode) ∧ (fltInfo w5.code = some w6) ∧ (w5.code ≠ 255) ∧ (2 ≤ w4.fltClass w5.code)) := by
  repeat' apply And.intro
  all_goals decide +kernel
end TH3

namespace TI
def isl (f : Island → Island) : State := { run 5 with island := f { (run 5).island with up := true, states := [0,0,0], live := [(Reg.SAF_VSUP, 1000)] } }
def on (x y z : Nat) (i : Island) : Island := { i with states := [x,y,z], peel := 0 }
def w1 : State := (isl id)
def w2 : State := (isl (on 2 2 2))
def w3 : State := (isl (on 3 1 2))
def w4 : State := (isl (fun i => { id i with pulse := some (1, 77) }))
def w5 : State := (isl (fun i => { (on 3 1 2) i with pulse := some (1, 77) }))
def w6 : State := (isl (fun i => { id i with held := some (List.replicate 128 5), discSince := List.replicate 4 (some (2 ^ 32 - 20000)) }))
def w7 : State := (isl (fun i => { (on 3 1 2) i with held := some (List.replicate 128 5), discSince := List.replicate 4 (some (2 ^ 32 - 20000)) }))
def w8 : State := (isl (fun i => (id i).put Reg.SAF_SD_STAT 0x1400))
def w9 : State := (isl (fun i => ((on 3 1 2) i).put Reg.SAF_SD_STAT 0x1400))
def w10 : State := (isl (fun i => { id i with second := [(3, 1, [], 0, 2 ^ 32 - 20)] }))
def w11 : Nat × Nat × List Byte × Nat × Nat := (3, 1, [], 0, 2 ^ 32 - 20)
def w12 : State := (isl (fun i => { (on 3 1 2) i with second := [(3, 1, [], 0, 2 ^ 32 - 20)] }))
def w13 : State := (isl (fun i => { id i with wait := some (List.replicate 128 5) }))
def w14 : List Byte := (List.replicate 128 5)
def w15 : State := (isl (fun i => { id i with steps := List.replicate 3 (some (1, 77)) }))
def w16 : State := (isl (fun i => { id i with steps := List.replicate 3 (some (0, 77)) }))
def w17 : State := (isl (fun i => { id i with steps := List.replicate 3 (some (2, 77)) }))
def w18 : State := (isl (on 0 2 1))
def w19 : State := (isl (fun i => { id i with pulse := some (0, 77) }))
def w20 : State := (run 5)
def w21 : State := State.reset
def w22 : State := (isl (fun i => { i with pDem := 3, peel := 7, lines := 11 }))

/-- The hypotheses of IslandDemands, clause by clause. -/
theorem test_IslandDemands :
    ((w1.island.up = true) ∧ (0 % 256 ≠ 255))
      ∧ ((w2.island.up = true) ∧ (254 % 256 ≠ 255))
      ∧ ((w1.island.up = true) ∧ (w1.islNow.heartbeatLost = true))
      ∧ ((w3.island.up = true) ∧ (w3.islNow.heartbeatLost = true))
      ∧ ((w4.island.up = true) ∧ (w4.islNow.testReqLong = true))
      ∧ ((w5.island.up = true) ∧ (w5.islNow.testReqLong = true))
      ∧ ((w6.island.up = true) ∧ (0 < 4) ∧ (w6.island.discDue 0 = true))
      ∧ ((w7.island.up = true) ∧ (3 < 4) ∧ (w7.island.discDue 3 = true))
      ∧ ((w8.island.up = true) ∧ (20 ≤ w8.island.fld Reg.SAF_SD_STAT 15 8))
      ∧ ((w9.island.up = true) ∧ (20 ≤ w9.island.fld Reg.SAF_SD_STAT 15 8))
      ∧ ((w10.island.up = true) ∧ (w10.island.second.getLast? = some w11) ∧ (20 ≤ w10.island.since w11.snd.snd.snd.snd) ∧ (bitAt w10.island.down (1 - w11.snd.fst) = false) ∧ (w10.island.oneCopy = false))
      ∧ ((w12.island.up = true) ∧ (w12.island.second.getLast? = some w11) ∧ (20 ≤ w12.island.since w11.snd.snd.snd.snd) ∧ (bitAt w12.island.down (1 - w11.snd.fst) = false) ∧ (w12.island.oneCopy = false))
      ∧ ((w1.island.up = true))
      ∧ ((w2.island.up = true))
      ∧ ((w13.island.up = true) ∧ (w13.island.wait = some w14) ∧ (w13.island.allOff = true))
      ∧ ((w15.island.up = true) ∧ (0 < 2) ∧ (0 < w15.island.states.length) ∧ (w15.islNow.stepOver 0 = true) ∧ (w15.island.steps[0]? = some (some (1, 77))))
      ∧ ((w15.island.up = true) ∧ (1 < 2) ∧ (1 < w15.island.states.length) ∧ (w15.islNow.stepOver 1 = true) ∧ (w15.island.steps[1]? = some (some (1, 77))))
      ∧ ((w16.island.up = true) ∧ (0 < 2) ∧ (0 < w16.island.states.length) ∧ (w16.islNow.stepOver 0 = true) ∧ (w16.island.steps[0]? = some (some (0, 77))))
      ∧ ((w16.island.up = true) ∧ (1 < 2) ∧ (1 < w16.island.states.length) ∧ (w16.islNow.stepOver 1 = true) ∧ (w16.island.steps[1]? = some (some (0, 77))))
      ∧ ((w17.island.up = true) ∧ (0 < 2) ∧ (0 < w17.island.states.length) ∧ (w17.islNow.stepOver 0 = true) ∧ (w17.island.steps[0]? = some (some (2, 77))))
      ∧ ((w17.island.up = true) ∧ (1 < 2) ∧ (1 < w17.island.states.length) ∧ (w17.islNow.stepOver 1 = true) ∧ (w17.island.steps[1]? = some (some (2, 77))))
      ∧ ((w2.island.up = true) ∧ (w2.island.state 0 = 2 ∨ w2.island.state 1 = 2) ∧ (w2.island.instant = false) ∧ (w2.island.fld Reg.SAF_TEST 15 0 = 0))
      ∧ ((w18.island.up = true) ∧ (w18.island.state 0 = 2 ∨ w18.island.state 1 = 2) ∧ (w18.island.instant = false) ∧ (w18.island.fld Reg.SAF_TEST 15 0 = 0))
      ∧ ((w19.island.up = true) ∧ (w19.island.pulse = some (0, 77)) ∧ (w19.islNow.pulseOver = true) ∧ (0 < 4) ∧ (0 / 2 < w19.island.states.length))
      ∧ ((w4.island.up = true) ∧ (w4.island.pulse = some (1, 77)) ∧ (w4.islNow.pulseOver = true) ∧ (1 < 4) ∧ (1 / 2 < w4.island.states.length)) := by
  repeat' apply And.intro
  all_goals decide +kernel

/-- The hypotheses of IslandMirror, clause by clause. -/
theorem test_IslandMirror :
    ((w20.island.up = false))
      ∧ ((w21.island.up = false))
      ∧ ((w1.live = true) ∧ (w1.island.up = true))
      ∧ ((w22.live = true) ∧ (w22.island.up = true))
      ∧ ((w1.sys.phase ≠ Phase.inReset) ∧ (w1.island.up = true))
      ∧ ((w22.sys.phase ≠ Phase.inReset) ∧ (w22.island.up = true))
      ∧ ((w1.live = true) ∧ (w1.sys.mirrorTick + 625000 ≤ w1.tickNo))
      ∧ ((w22.live = true) ∧ (w22.sys.mirrorTick + 625000 ≤ w22.tickNo)) := by
  repeat' apply And.intro
  all_goals decide +kernel
end TI

namespace TJ
def rc (st sg : Nat) : State := ((run 5).putN Reg.REC_STAT (st + sg * 16)).putN Reg.REC_CFG 0x0403
def tg : RecTrig := { src := 3, sec := 4, ns := 5, sub := 6, mode := 5 }
def rcp (st sg : Nat) : State := { rc st sg with recd := { (rc st sg).recd with trig := some tg } }
def rcq (st sg : Nat) (l : List RecTrig) : State := { rcp st sg with recd := { (rcp st sg).recd with todo := l } }
def sg (p : Nat) (l : List (Nat × Word)) (s : State) : State := { s with clk := { s.clk with segs := (List.range 64).map fun i => if 16 * p ≤ i ∧ i < 16 * p + 16 then l.getD (i - 16 * p) (0, 0) else (0, 0) } }
def w1 : State := (rc 0 0)
def w2 : State := ((rc 0 0).putN (Reg.REC_SEG_STAT 0) 3)
def w3 : State := ((rc 0 0).putN Reg.REC_CFG 3)
def w4 : State := ((rc 1 2).putN (Reg.REC_SEG_STAT 2) 1)
def w5 : State := ((rcp 2 2).putN (Reg.REC_SEG_STAT 2) 2)
def w6 : State := (rc 1 2)
def w7 : State := ((rc 1 2).putN Reg.REC_TRIGCFG 1)
def w8 : State := ((rc 1 2).putN Reg.REC_TRIGCFG 0)
def w9 : State := ((rc 1 2).putN Reg.REC_TRIGCFG 8)
def w10 : State := ((rc 1 2).setFlag Reg.REC_STAT 9 true)
def w11 : State := ((rc 0 0).putN (Reg.REC_SEG_STAT 2) 2)
def w12 : Src := (Src.core 1)
def w13 : State := ((rc 0 0).putN (Reg.REC_SEG_STAT 7) 3)
def w14 : State := (rcq 1 0 [{ tg with src := 1 }, tg])
def w15 : State := (rcq 3 0 [tg])
def w16 : State := (run 5)
def w17 : State := ((run 5).putN Reg.CLK_SYN_CFG 3)
def w18 : State := (((run 5).putN Reg.CLK_STAT 1).putN Reg.CLK_MON_CFG 5)
def w19 : State := ({ (run 5).putN Reg.CLK_STAT 3 with clk := { (run 5).clk with relocking := true } })
def w20 : State := ({ (run 5).putN Reg.CLK_STAT 1 with clk := { (run 5).clk with relocking := true } })
def w21 : State := (((((run 5).putN Reg.CLK_SYN_CFG 3).putN Reg.CLK_STAT 8).putN (Reg.CLK_RISEP_STAT 2) 1))
def w22 : State := ((run 5).putN Reg.CLK_STAT 4)
def w23 : State := (((run 5).putN Reg.CLK_STAT 4).putN (Reg.CLK_RISEP_STAT 2) 3)
def w24 : State := ((run 5).putN Reg.CLK_SYNC_CFG 0)
def w25 : State := ((run 5).putN Reg.CLK_SYNC_CFG 0xA50004)
def w26 : State := (sg 2 [(5, 7)] ((run 5).putN (Reg.CLK_RISEP_CFG 2) 0x31))
def w27 : State := (sg 2 [(500, BitVec.ofNat 32 ((run 5).synWord))] ((run 5)))
def w28 : State := ((run 5).putN (Reg.CLK_RISEP_STAT 2) 1)
def w29 : State := ((run 5).putN (Reg.CLK_RISEP_STAT 2) 3)
def w30 : State := (let s := sg 2 [(5, 7), (6, 8)] ((run 5).putN (Reg.CLK_RISEP_STAT 2) 1); { s with clk := { s.clk with mono := 2 ^ 50 } })
def w31 : State := (let s := sg 2 [(5, 7), (6, 8)] (((run 5).putN (Reg.CLK_RISEP_CFG 2) 1).putN (Reg.CLK_RISEP_STAT 2) 1); { s with clk := { s.clk with mono := 2 ^ 50 } })
def w32 : State := (let s := sg 2 [(5, 7)] ((run 5).putN (Reg.CLK_RISEP_STAT 2) 1); { s with clk := { s.clk with mono := 2 ^ 50 } })
def w33 : State := (let s := sg 2 [(5, 7), (6, 0x3F800000)] (((run 5).putN (Reg.CLK_RISEP_STAT 2) 0x11).putN (Reg.CLK_RISEP_CFG 2) 1); { s with clk := { s.clk with mono := 2 ^ 50 } })

/-- The hypotheses of Recorder, clause by clause. -/
theorem test_Recorder :
    ((w1.Awake) ∧ (w1.Sends Src.hpi) ∧ (w1.coreWrites ↑1 = true) ∧ (0 < 8) ∧ (w1.recState = 0) ∧ (w1.recPick = some 0))
      ∧ ((w2.Awake) ∧ (w2.Sends Src.hpi) ∧ (w2.coreWrites ↑1 = true) ∧ (1 < 8) ∧ (w2.recState = 0) ∧ (w2.recPick = some 1))
      ∧ ((w3.Awake) ∧ (w3.Sends Src.hpi) ∧ (w3.coreWrites ↑1 = true) ∧ (w3.recState = 0) ∧ (w3.recPick = none))
      ∧ ((w4.Awake) ∧ (w4.Sends Src.hpi) ∧ (w4.coreWrites ↑1 = true) ∧ (w4.recState = 1))
      ∧ ((w5.Awake) ∧ (w5.Sends Src.hpi) ∧ (w5.coreWrites ↑1 = true) ∧ (w5.recState = 2) ∧ (w5.recd.trig = some tg))
      ∧ ((w6.Awake) ∧ (w6.Sends Src.hpi) ∧ (w6.coreWrites ↑1 = true))
      ∧ ((w7.Awake) ∧ (w7.Sends Src.hpi) ∧ (w7.coreWrites ↑1 = true) ∧ (31 < 32))
      ∧ ((w8.Awake) ∧ (w8.Sends Src.hpi) ∧ (w8.coreWrites ↑1 = true) ∧ (0 < 32))
      ∧ ((w9.Awake) ∧ (w9.Sends Src.hpi) ∧ (w9.coreWrites ↑1 = true) ∧ (7 < 32) ∧ (w9.flag Reg.REC_STAT 9 = false) ∧ (w9.flag Reg.REC_TRIGCFG 3 = true) ∧ (w9.recd.xtFreed = none))
      ∧ ((w10.Awake) ∧ (w10.Sends Src.hpi) ∧ (w10.coreWrites ↑1 = true) ∧ (w10.xtDue = true))
      ∧ ((w11.Awake) ∧ (w11.Sends Src.hpi) ∧ (w11.coreWrites ↑1 = true) ∧ (w11.recState = 0) ∧ (2 ≤ w11.segState ↑2))
      ∧ ((w13.Awake) ∧ (w13.Sends w12) ∧ (w13.coreWrites ↑1 = true) ∧ (w13.recState = 0) ∧ (2 ≤ w13.segState ↑7))
      ∧ ((w1.Awake) ∧ (w1.Sends w12) ∧ (w1.coreWrites ↑1 = true))
      ∧ ((w14.Awake) ∧ (w14.Sends w12) ∧ (w14.coreWrites ↑1 = true) ∧ (State.firstTrigger w14.recd.todo = some tg))
      ∧ ((w15.Awake) ∧ (w15.Sends w12) ∧ (w15.coreWrites ↑1 = true) ∧ (State.firstTrigger w15.recd.todo = some tg)) := by
  repeat' apply And.intro
  all_goals decide +kernel

/-- The hypotheses of ClockEvents, clause by clause. -/
theorem test_ClockEvents :
    ((w16.Runs) ∧ (w16.flag Reg.CLK_STAT 0 = false))
      ∧ ((w17.Runs) ∧ (w17.flag Reg.CLK_STAT 0 = false))
      ∧ ((w18.Runs) ∧ (w18.flag Reg.CLK_STAT 0 = true) ∧ (w18.fld Reg.CLK_MON_CFG 7 0 * 1000000 ≤ (w18.tickNo - w18.clk.lossTick) * 8))
      ∧ ((w19.Runs) ∧ (w19.clk.relocking = true ∨ w19.flag Reg.CLK_STAT 1 = true ∧ w19.clk.sysHold = false))
      ∧ ((w20.Runs) ∧ (w20.clk.relocking = true) ∧ (1000000 ≤ (w20.tickNo - w20.clk.goodTick) * 8) ∧ (w20.flag Reg.CLK_STAT 1 = false))
      ∧ ((w16.Runs))
      ∧ ((w21.Runs) ∧ (w21.synHold = false) ∧ (w21.flag Reg.CLK_SYN_CFG 0 = true))
      ∧ ((w22.Runs) ∧ (w22.synHold = true) ∧ (w22.clk.reacq = false) ∧ (w22.flag Reg.CLK_STAT 0 = false) ∧ (w22.clk.sysHold = false))
      ∧ ((w23.Runs) ∧ (w23.synHold = true) ∧ (w23.clk.reacq = false) ∧ (w23.flag Reg.CLK_STAT 0 = false) ∧ (w23.clk.sysHold = false)) := by
  repeat' apply And.intro
  all_goals decide +kernel

/-- The hypotheses of SyncAndRise, clause by clause. -/
theorem test_SyncAndRise :
    ((w24.Awake) ∧ (w24.Sends Src.hpi) ∧ (w24.coreWrites ↑1 = true) ∧ (31 < 32) ∧ (w24.flag Reg.CLK_SYNC_CFG 3 = false ∧ w24.clk.syncAt = none) ∧ (w24.fld Reg.CLK_SYNC_CFG 1 0 = 0) ∧ (w24.flag Reg.CLK_SYNC_CFG 2 = !true))
      ∧ ((w25.Awake) ∧ (w25.Sends Src.hpi) ∧ (w25.coreWrites ↑1 = true) ∧ (0 < 32) ∧ (w25.flag Reg.CLK_SYNC_CFG 3 = false ∧ w25.clk.syncAt = none) ∧ (w25.fld Reg.CLK_SYNC_CFG 1 0 = 0) ∧ (w25.flag Reg.CLK_SYNC_CFG 2 = !false))
      ∧ ((w25.Awake) ∧ (w25.Sends Src.hpi) ∧ (w25.coreWrites ↑1 = true) ∧ (w25.flag Reg.CLK_SYNC_CFG 3 = false ∧ w25.clk.syncAt = none))
      ∧ ((w25.Awake) ∧ (w25.Sends Src.hpi) ∧ (w25.coreWrites ↑1 = true))
      ∧ ((w26.Awake) ∧ (w26.Sends Src.hpi) ∧ (w26.coreWrites ↑1 = true) ∧ (w26.segCount ↑2 ≠ 0) ∧ (w26.riseRef ↑2 = true) ∧ (∀ (q : Nat), q ∈ List.filter (fun q => q != ↑2 && w26.riseRun q) (List.range 4) → ¬(w26.riseRef q = true ∧ w26.refk q = w26.refk ↑2)))
      ∧ ((w27.Awake) ∧ (w27.Sends Src.hpi) ∧ (w27.coreWrites ↑1 = true) ∧ (w27.segCount ↑2 ≠ 0) ∧ (w27.riseRef ↑2 = false) ∧ (∀ (q : Nat), q ∈ List.filter (fun q => q != ↑2 && w27.riseRun q) (List.range 4) → w27.riseRef q = true) ∧ (State.synListOk (List.map (w27.seg ↑2) (List.range (w27.segCount ↑2))) w27.synWord (w27.flag (Reg.CLK_RISEP_CFG ↑2) 9) = true))
      ∧ ((w16.Awake) ∧ (w16.Sends Src.hpi) ∧ (w16.coreWrites ↑1 = true) ∧ (w16.segCount ↑2 = 0))
      ∧ ((w28.Awake) ∧ (w28.Sends Src.hpi) ∧ (w28.coreWrites ↑1 = true) ∧ (w28.riseRun ↑2 = true))
      ∧ ((w29.Awake) ∧ (w29.Sends Src.hpi) ∧ (w29.coreWrites ↑1 = true) ∧ (w29.riseRun ↑2 = true))
      ∧ ((w30.Awake) ∧ (w30.Sends Src.hpi) ∧ (w30.coreWrites ↑1 = true) ∧ (w30.riseDue ↑2 = true) ∧ (w30.riseSeg ↑2 + 1 < w30.segCount ↑2))
      ∧ ((w31.Awake) ∧ (w31.Sends Src.hpi) ∧ (w31.coreWrites ↑1 = true) ∧ (w31.riseDue ↑2 = true) ∧ (w31.riseSeg ↑2 + 1 < w31.segCount ↑2))
      ∧ ((w32.Awake) ∧ (w32.Sends Src.hpi) ∧ (w32.coreWrites ↑1 = true) ∧ (w32.riseDue ↑2 = true) ∧ (w32.segCount ↑2 ≤ w32.riseSeg ↑2 + 1) ∧ (w32.flag (Reg.CLK_RISEP_CFG ↑2) 9 = false))
      ∧ ((w33.Awake) ∧ (w33.Sends Src.hpi) ∧ (w33.coreWrites ↑1 = true) ∧ (w33.riseDue ↑2 = true) ∧ (w33.segCount ↑2 ≤ w33.riseSeg ↑2 + 1) ∧ (w33.flag (Reg.CLK_RISEP_CFG ↑2) 9 = false))
      ∧ ((w16.Awake) ∧ (w16.Sends Src.hpi) ∧ (w16.coreWrites ↑1 = true)) := by
  repeat' apply And.intro
  all_goals decide +kernel
end TJ

namespace TK
def bf (c b dir st flags : Nat) (s : State) : State := (s.setBytes (State.canBuf c b) (leBytes 4 (dir * 2 ^ 30 + 0x123))).setBytes (State.canBuf c b + 4) (leBytes 4 (st * 4096 + flags))
def cn (c : Nat) (s : State) : State := (s.putN (Reg.CAN_CFG c) 0x0).setFlag (Reg.CAN_STAT c) 4 false
def fd (c : Nat) (s : State) : State := (cn c s).setFlag (Reg.CAN_CFG c) 4 true
def onb (c b : Nat) (s : State) : State := { s with can := s.can.mapIdx fun i x => if i = c then { x with onBus := some b } else x }
def w1 : State := (bf 0 5 1 0 0 (cn 0 (run 5)))
def w2 : List Byte := ([1,2,3,4] : List Byte)
def w3 : State := (bf 1 63 1 0 0 (fd 1 (run 5)))
def w4 : List Byte := (List.replicate 4 (3 : Byte))
def w5 : State := (bf 1 63 1 1 0 (fd 1 (run 5)))
def w6 : State := (bf 1 63 2 3 0 (cn 1 (run 5)))
def w7 : Can := {}
def w8 : State := (bf 0 0 2 3 0 (bf 0 1 2 3 0 (cn 0 (run 1))))
def w9 : State := (onb 0 1 (bf 0 1 2 4 0 (cn 0 (run 1))))
def w10 : State := (onb 1 63 (bf 1 63 2 4 0 (cn 1 (run 1))))
def w11 : State := ((onb 1 63 (bf 1 63 2 4 0 (cn 1 (run 1)))).putN (Reg.CAN_ERR 1) 0xFF0000)
def w12 : State := (onb 1 63 (bf 1 63 2 4 0x800 (cn 1 (run 1))))
def w13 : State := ((cn 1 (run 1)).setFlag (Reg.CAN_STAT 1) 2 true)
def w14 : State := ((cn 1 (run 1)).setFld (Reg.CAN_STAT 1) 10 8 1)
def w15 : State := (run 1)
def w16 : State := (bf 1 63 1 2 0x800 (bf 1 61 2 3 0x800 (cn 1 (run 1))))
def w17 : State := (bf 1 33 2 0 0 (cn 1 (run 1)))
def w18 : State := (bf 1 33 2 0 0x8 (cn 1 (run 1)))
def w19 : State := (bf 1 33 2 3 0x8 (cn 1 (run 1)))
def w20 : State := (onb 1 33 (bf 1 33 2 4 0x8 (cn 1 (run 1))))
def w21 : State := (let s := onb 1 33 (bf 1 33 2 4 0x8 (cn 1 (run 1))); { s with can := s.can.map fun x => { x with sofAt := 31999990 } })
def w22 : State := (bf 1 33 1 1 0x8 (cn 1 (run 1)))
def w23 : State := (bf 0 63 1 2 0x8 (cn 0 (run 1)))
def w24 : State := ((bf 0 63 2 2 0x8 (cn 0 (run 1))).putN (Reg.CAN_TT_CFG 0) 0x80000064)
def w25 : State := (((bf 0 63 2 2 0x8 (cn 0 (run 1))).putN (Reg.CAN_TT_CFG 0) 0x80000064).setBytes (0xB8000 + 0x1C00) [0xBF, 0x81, 0])
def w26 : State := (cn 0 (run 1))
def w27 : Src := (Src.core 1)

/-- The hypotheses of CanControllers, clause by clause. -/
theorem test_CanControllers :
    ((w1.Awake) ∧ (w1.Sends Src.hpi) ∧ (w1.coreWrites ↑1 = true) ∧ (w1.canHears (↑0) false 3 = true) ∧ (List.find? (fun b => w1.bufTakes (↑0) b 0 (32 * w1.tickNo - 3) false 291) (List.range 64) = some 5))
      ∧ ((w3.Awake) ∧ (w3.Sends Src.hpi) ∧ (w3.coreWrites ↑1 = true) ∧ (w3.canHears (↑1) true 3 = true) ∧ (List.find? (fun b => w3.bufTakes (↑1) b 0 (32 * w3.tickNo - 3) false 291) (List.range 64) = some 63))
      ∧ ((w5.Awake) ∧ (w5.Sends Src.hpi) ∧ (w5.coreWrites ↑1 = true) ∧ (w5.canHears (↑1) true 3 = true) ∧ (List.find? (fun b => w5.bufTakes (↑1) b 0 (32 * w5.tickNo - 3) false 291) (List.range 64) = none))
      ∧ ((w6.Awake) ∧ (w6.Sends Src.hpi) ∧ (w6.coreWrites ↑1 = true) ∧ (31 < 32) ∧ (w6.canMaySend ↑1 = true) ∧ (w6.canNext ↑1 = some 63) ∧ (w6.can[↑1]? = some w7))
      ∧ ((w8.Awake) ∧ (w8.Sends Src.hpi) ∧ (w8.coreWrites ↑1 = true) ∧ (0 < 32) ∧ (w8.canMaySend ↑0 = true) ∧ (w8.canNext ↑0 = some 0) ∧ (w8.can[↑0]? = some w7))
      ∧ ((w9.Awake) ∧ (w9.Sends Src.hpi) ∧ (w9.coreWrites ↑1 = true) ∧ (1 < 64) ∧ (w9.canOnBus ↑0 = true) ∧ ((w9.canSt ↑0).onBus = some 1) ∧ (w9.frameRan ↑0 = true) ∧ (w9.canMode ↑0 ≠ 3))
      ∧ ((w10.Awake) ∧ (w10.Sends Src.hpi) ∧ (w10.coreWrites ↑1 = true) ∧ (63 < 64) ∧ (w10.canOnBus ↑1 = true) ∧ ((w10.canSt ↑1).onBus = some 63) ∧ (w10.frameRan ↑1 = true) ∧ (w10.canMode ↑1 ≠ 3))
      ∧ ((w10.Awake) ∧ (w10.Sends Src.hpi) ∧ (w10.coreWrites ↑1 = true) ∧ (w10.canOnBus ↑1 = true) ∧ (w10.canJoined (↑1) (32 * (w10.tickNo + 1)) = true) ∧ (1 ≤ 3) ∧ (3 ≤ 6) ∧ (w10.isoSteps (↑1) 3 8 0 = true) ∧ (w10.tec ↑1 ≤ 255))
      ∧ ((w11.Awake) ∧ (w11.Sends Src.hpi) ∧ (w11.coreWrites ↑1 = true) ∧ (w11.canOnBus ↑1 = true) ∧ (w11.canJoined (↑1) (32 * (w11.tickNo + 1)) = true) ∧ (1 ≤ 1) ∧ (1 ≤ 6) ∧ (w11.isoSteps (↑1) 1 8 0 = true) ∧ (w11.tec ↑1 ≤ 255))
      ∧ ((w10.Awake) ∧ (w10.Sends Src.hpi) ∧ (w10.coreWrites ↑1 = true) ∧ (63 < 64) ∧ (w10.canOnBus ↑1 = true) ∧ (w10.canJoined (↑1) (32 * (w10.tickNo + 1)) = true) ∧ ((w10.canSt ↑1).onBus = some 63))
      ∧ ((w12.Awake) ∧ (w12.Sends Src.hpi) ∧ (w12.coreWrites ↑1 = true) ∧ (63 < 64) ∧ (w12.canOnBus ↑1 = true) ∧ (w12.canJoined (↑1) (32 * (w12.tickNo + 1)) = true) ∧ ((w12.canSt ↑1).onBus = some 63))
      ∧ ((w13.Awake) ∧ (w13.Sends Src.hpi) ∧ (w13.coreWrites ↑1 = true) ∧ (w13.busOff ↑1 = true) ∧ ((w13.canSt ↑1).boTick ≠ some w13.tickNo))
      ∧ ((w14.Awake) ∧ (w14.Sends Src.hpi) ∧ (w14.coreWrites ↑1 = true) ∧ (w14.recoverDue ↑1 = true))
      ∧ ((w15.Awake) ∧ (w15.Sends Src.hpi) ∧ (w15.coreWrites ↑1 = true) ∧ (w15.sys.recipeOk = true))
      ∧ ((w15.Awake) ∧ (w15.Sends Src.hpi) ∧ (w15.coreWrites ↑1 = true))
      ∧ ((w16.Awake) ∧ (w16.Sends Src.hpi) ∧ (w16.coreWrites ↑1 = true))
      ∧ ((w17.Awake) ∧ (w17.Sends Src.hpi) ∧ (w17.coreWrites ↑1 = true) ∧ (1 < 32) ∧ (BitVec.getLsbD (2 : Word) 1 = true) ∧ (w17.bufDir (↑1) (32 * ↑1 + 1) = 2) ∧ (w17.bufState (↑1) (32 * ↑1 + 1) ≠ 3) ∧ (w17.bufState (↑1) (32 * ↑1 + 1) ≠ 4) ∧ (bitAt (w17.bufWord (↑1) (32 * ↑1 + 1) 1) 5 = false ∨ w17.flag (Reg.CAN_CFG ↑1) 4 = true) ∧ ((w17.canSt ↑1).cancTick ≠ w17.tickNo))
      ∧ ((w18.Awake) ∧ (w18.Sends Src.hpi) ∧ (w18.coreWrites ↑1 = true) ∧ (1 < 32) ∧ (BitVec.getLsbD (4294967295 : Word) 1 = true) ∧ (w18.bufDir (↑1) (32 * ↑1 + 1) = 2) ∧ (w18.bufState (↑1) (32 * ↑1 + 1) ≠ 3) ∧ (w18.bufState (↑1) (32 * ↑1 + 1) ≠ 4) ∧ (bitAt (w18.bufWord (↑1) (32 * ↑1 + 1) 1) 5 = false ∨ w18.flag (Reg.CAN_CFG ↑1) 4 = true) ∧ ((w18.canSt ↑1).cancTick ≠ w18.tickNo))
      ∧ ((w19.Awake) ∧ (w19.Sends Src.hpi) ∧ (w19.coreWrites ↑1 = true) ∧ (1 < 32) ∧ (BitVec.getLsbD (4294967295 : Word) 1 = true) ∧ (w19.bufDir (↑1) (32 * ↑1 + 1) = 2) ∧ (w19.bufState (↑1) (32 * ↑1 + 1) = 3))
      ∧ ((w20.Awake) ∧ (w20.Sends Src.hpi) ∧ (w20.coreWrites ↑1 = true) ∧ (1 < 32) ∧ (BitVec.getLsbD (4294967295 : Word) 1 = true) ∧ (w20.bufDir (↑1) (32 * ↑1 + 1) = 2) ∧ (w20.bufState (↑1) (32 * ↑1 + 1) = 4))
      ∧ ((w21.Awake) ∧ (w21.Sends Src.hpi) ∧ (w21.coreWrites ↑1 = true) ∧ (1 < 32) ∧ (BitVec.getLsbD (4294967295 : Word) 1 = true) ∧ (w21.bufDir (↑1) (32 * ↑1 + 1) = 2) ∧ (w21.bufState (↑1) (32 * ↑1 + 1) = 4))
      ∧ ((w22.Awake) ∧ (w22.Sends Src.hpi) ∧ (w22.coreWrites ↑1 = true) ∧ (33 < 64) ∧ (w22.bufDir (↑1) 33 = 1))
      ∧ ((w23.Awake) ∧ (w23.Sends Src.hpi) ∧ (w23.coreWrites ↑1 = true) ∧ (63 < 64) ∧ (w23.bufDir (↑0) 63 = 1))
      ∧ ((w24.Awake) ∧ (w24.Sends Src.hpi) ∧ (w24.coreWrites ↑1 = true) ∧ (w24.columnDue ↑0 = true) ∧ ((w24.canSt ↑0).matrix = []))
      ∧ ((w25.Awake) ∧ (w25.Sends Src.hpi) ∧ (w25.coreWrites ↑1 = true) ∧ (w25.columnDue ↑0 = true) ∧ ((w25.canSt ↑0).matrix = []))
      ∧ ((w26.Awake) ∧ (w26.Sends Src.hpi) ∧ (w26.coreWrites ↑1 = true))
      ∧ ((w26.Awake) ∧ (w26.Sends w27) ∧ (w26.coreWrites ↑1 = true)) := by
  repeat' apply And.intro
  all_goals decide +kernel
end TK

namespace TL
def eth (p : Nat) (s : State) : State := ((s.putN (Reg.ETH_CFG p) 5).putN (Reg.ETH_STAT p) 0x11)
def fr (n : Nat) : List Byte := [2,3,4,5,6,7, 8,9,1,2,3,4, 0x88, 0xB5] ++ List.replicate (n - 14) 0x42
def ring (p : Nat) : State := (((((eth p (run 5)).putN (Reg.ETH_RXR_BASE p) 0x2000000).putN (Reg.ETH_RXR_CFG p) 8).putN (Reg.ETH_RXR_TAIL p) 5).putN (Reg.ETH_RX_FILT p) 0xFF).setBytes 0x2000000 (leBytes 4 0x2001000 ++ leBytes 4 0 ++ leBytes 4 0x80)
def curS (p k : Nat) : State := let s := (((eth p (run 5)).putN (Reg.ETH_TXR_BASE p) 0x2000000).putN (Reg.ETH_TXR_CFG p) 8).putN (Reg.ETH_TXR_TAIL p) 5; { s with eth := s.eth.mapIdx fun i x => if i = p then { x with cur := some { kind := k, bytes := fr 60 } } else x }
def w1 : State := (((run 3).putN Reg.TIM_SET_SEC 7).putN Reg.TIM_SET_SECH 0x10003)
def w2 : State := (((run 1).putN Reg.TIM_SET_SEC 7).putN Reg.TIM_SET_NS 999999999)
def w3 : State := ((run 1).putN Reg.TIM_STEP_NS 999999999)
def w4 : State := ({ (run 1).putN Reg.TIM_STEP_NS 0xFFFFFFF0 with tim := { (run 1).tim with sec := 5, ns := 0 } })
def w5 : State := (run 5)
def w6 : State := ((run 5).putN Reg.TIM_SRV_CFG 0x1F40001)
def w7 : State := (((run 1).putN Reg.TIM_SRV_CFG 1).putN Reg.TIM_SRV_KI0 0x3F000000)
def w8 : State := (let s := ((run 5).putN Reg.TIM_SRV_CFG 0x1F40001); { s with tim := { s.tim with samples := [(Fl.of32 0x3F800000, true)], stepTick := some 1000000 } })
def w9 : State := (let s := (((run 1).putN Reg.TIM_SRV_CFG 1).putN Reg.TIM_SRV_KI0 0x3F000000); { s with tim := { s.tim with samples := [(Fl.of32 0xC3800000, true)] } })
def w10 : State := (let s := ((run 5).putN Reg.TIM_SRV_CFG 0x1F40001); { s with tim := { s.tim with samples := [(Fl.of32 0x3F800000, true)] } })
def w11 : State := ((run 5).putN Reg.TIM_SRV_CFG 2)
def w12 : State := ((run 5).putN Reg.TIM_SRV_HOLD 1)
def w13 : State := ((run 5).putN (Reg.TIM_CMP_STAT 3) 1)
def w14 : State := (((run 5).putN (Reg.TIM_CMP_STAT 3) 1).putN (Reg.TIM_CMP_PER 3) 1000)
def w15 : State := ((run 5).putN (Reg.TIM_CMP_STAT 7) 1)
def w16 : List TxStamp := []
def w17 : State := ({ run 5 with tim := { (run 5).tim with txq := [[], [⟨1,2,3,4⟩, ⟨5,6,7,8⟩]] } })
def w18 : List TxStamp := [⟨1,2,3,4⟩, ⟨5,6,7,8⟩]
def w19 : State := (eth 0 (run 5))
def w20 : List Byte := (fr 50)
def w21 : State := (eth 1 (run 5))
def w22 : List Byte := (fr 60)
def w23 : State := (ring 1)
def w24 : State := (ring 0)
def w25 : List Byte := (fr 61)
def w26 : State := (curS 0 0)
def w27 : EthOut := { kind := 0, bytes := fr 60 }
def w28 : State := ((run 5).putN (Reg.ETH_CFG 1) 1)
def w29 : Option Nat := none
def w30 : State := ((run 5).putN (Reg.ETH_CFG 1) 5)
def w31 : Option Nat := (some 0x20)
def w32 : Option Nat := (some 0xF)
def w33 : State := ((run 5).putN (Reg.ETH_STAT 1) 6)
def w34 : State := (curS 1 3)
def w35 : State := ((curS 0 3).setFlag (Reg.ETH_STAT 1) 0 true)
def w36 : Src := (Src.core 3)

/-- The hypotheses of NetworkTime, clause by clause. -/
theorem test_NetworkTime :
    ((w1.Awake) ∧ (w1.Sends Src.hpi) ∧ (w1.coreWrites ↑1 = true) ∧ (w1.timeLocked = false) ∧ (w1.getN Reg.TIM_SET_NS < 1000000000))
      ∧ ((w2.Awake) ∧ (w2.Sends Src.hpi) ∧ (w2.coreWrites ↑1 = true) ∧ (w2.timeLocked = false) ∧ (w2.getN Reg.TIM_SET_NS < 1000000000))
      ∧ ((w3.Awake) ∧ (w3.Sends Src.hpi) ∧ (w3.coreWrites ↑1 = true) ∧ (w3.timeLocked = false) ∧ (0 ≤ ↑(w3.tim.sec * 1000000000 + w3.tim.ns) + signed 32 (w3.getN Reg.TIM_STEP_NS)) ∧ (↑(w3.tim.sec * 1000000000 + w3.tim.ns) + signed 32 (w3.getN Reg.TIM_STEP_NS) < 2 ^ 48 * 1000000000))
      ∧ ((w4.Awake) ∧ (w4.Sends Src.hpi) ∧ (w4.coreWrites ↑1 = true) ∧ (w4.timeLocked = false) ∧ (0 ≤ ↑(w4.tim.sec * 1000000000 + w4.tim.ns) + signed 32 (w4.getN Reg.TIM_STEP_NS)) ∧ (↑(w4.tim.sec * 1000000000 + w4.tim.ns) + signed 32 (w4.getN Reg.TIM_STEP_NS) < 2 ^ 48 * 1000000000))
      ∧ ((w5.Awake) ∧ (w5.Sends Src.hpi) ∧ (w5.coreWrites ↑1 = true) ∧ (w5.tim.latched[↑4]? = some 0))
      ∧ ((w6.Awake) ∧ (w6.Sends Src.hpi) ∧ (w6.coreWrites ↑1 = true) ∧ (finite32 (BitVec.toNat (1065353216 : Word)) = true) ∧ (w6.timSource = 1))
      ∧ ((w7.Awake) ∧ (w7.Sends Src.hpi) ∧ (w7.coreWrites ↑1 = true) ∧ (finite32 (BitVec.toNat (2147483648 : Word)) = true) ∧ (w7.timSource = 1))
      ∧ ((w8.Awake) ∧ (w8.Sends Src.hpi) ∧ (w8.coreWrites ↑1 = true) ∧ (w8.tim.samples = [(Fl.of32 (BitVec.toNat (1065353216 : Word)), true)]) ∧ (w8.tim.stepTick = some w8.tickNo))
      ∧ ((w9.Awake) ∧ (w9.Sends Src.hpi) ∧ (w9.coreWrites ↑1 = true) ∧ (w9.tim.samples = [(Fl.of32 (BitVec.toNat (3279945728 : Word)), true)]) ∧ (w9.tim.stepTick ≠ some w9.tickNo) ∧ (w9.flag Reg.TIM_SRV_CFG 4 = false))
      ∧ ((w10.Awake) ∧ (w10.Sends Src.hpi) ∧ (w10.coreWrites ↑1 = true) ∧ (w10.tim.samples = [(Fl.of32 (BitVec.toNat (1065353216 : Word)), true)]) ∧ (w10.tim.stepTick ≠ some w10.tickNo) ∧ (w10.flag Reg.TIM_SRV_CFG 4 = false))
      ∧ ((w11.Awake) ∧ (w11.Sends Src.hpi) ∧ (w11.coreWrites ↑1 = true) ∧ (finite32 (BitVec.toNat (1065353216 : Word)) = true) ∧ (w11.timSource ≠ 1))
      ∧ ((w12.Awake) ∧ (w12.Sends Src.hpi) ∧ (w12.coreWrites ↑1 = true) ∧ (w12.servoDue = true))
      ∧ ((w13.Awake) ∧ (w13.Sends Src.hpi) ∧ (w13.coreWrites ↑1 = true) ∧ (w13.cmpDue ↑3 = true))
      ∧ ((w14.Awake) ∧ (w14.Sends Src.hpi) ∧ (w14.coreWrites ↑1 = true) ∧ (w14.cmpDue ↑3 = true))
      ∧ ((w5.Awake) ∧ (w5.Sends Src.hpi) ∧ (w5.coreWrites ↑1 = true))
      ∧ ((w15.Awake) ∧ (w15.Sends Src.hpi) ∧ (w15.coreWrites ↑1 = true))
      ∧ ((w5.Awake) ∧ (w5.Sends Src.hpi) ∧ (w5.coreWrites ↑1 = true) ∧ (w5.tim.txq[↑1]? = some w16) ∧ (w16.length ≤ 4))
      ∧ ((w17.Awake) ∧ (w17.Sends Src.hpi) ∧ (w17.coreWrites ↑1 = true) ∧ (w17.tim.txq[↑1]? = some w18) ∧ (w18.length ≤ 4)) := by
  repeat' apply And.intro
  all_goals decide +kernel

/-- The hypotheses of EthernetPorts, clause by clause. -/
theorem test_EthernetPorts :
    ((w19.Awake) ∧ (w19.Sends Src.hpi) ∧ (w19.coreWrites ↑1 = true) ∧ (w19.ethOn ↑0 = true) ∧ (w19.linkUp ↑0 = true) ∧ (w20.length < 60 ∨ 1518 < w20.length))
      ∧ ((w21.Awake) ∧ (w21.Sends Src.hpi) ∧ (w21.coreWrites ↑1 = true) ∧ (w21.ethOn ↑1 = true) ∧ (w21.linkUp ↑1 = true) ∧ (60 ≤ w22.length) ∧ (w22.length ≤ 1518))
      ∧ ((w23.Awake) ∧ (w23.Sends Src.hpi) ∧ (w23.coreWrites ↑1 = true) ∧ (w23.ethOn ↑1 = true) ∧ (w23.linkUp ↑1 = true) ∧ (60 ≤ w22.length) ∧ (w22.length ≤ 1518) ∧ ((ethHead w22).etype ≠ 34824) ∧ (w23.ethReply? (↑1) w22 = none) ∧ (datagram? w22 = none) ∧ (w23.rxAdmits (↑1) (ethHead w22).dst = true) ∧ (w23.flag (Reg.ETH_STAT ↑1) 4 = true) ∧ (w23.fld (Reg.ETH_RXR_HEAD ↑1) 9 0 ≠ w23.fld (Reg.ETH_RXR_TAIL ↑1) 9 0) ∧ (bitAt (w23.memN (w23.descAt (Reg.ETH_RXR_BASE ↑1) (w23.fld (Reg.ETH_RXR_HEAD ↑1) 9 0) + 8) 1) 7 = true) ∧ (State.inShared (w23.descAt (Reg.ETH_RXR_BASE ↑1) (w23.fld (Reg.ETH_RXR_HEAD ↑1) 9 0)) = true) ∧ (State.inShared (w23.descAt (Reg.ETH_RXR_BASE ↑1) (w23.fld (Reg.ETH_RXR_HEAD ↑1) 9 0) + 15) = true) ∧ (State.inShared (w23.memN (w23.descAt (Reg.ETH_RXR_BASE ↑1) (w23.fld (Reg.ETH_RXR_HEAD ↑1) 9 0)) 4) = true) ∧ (State.inShared (w23.memN (w23.descAt (Reg.ETH_RXR_BASE ↑1) (w23.fld (Reg.ETH_RXR_HEAD ↑1) 9 0)) 4 + 1535) = true) ∧ (w23.descAt (Reg.ETH_RXR_BASE ↑1) (w23.fld (Reg.ETH_RXR_HEAD ↑1) 9 0) + 16 ≤ w23.memN (w23.descAt (Reg.ETH_RXR_BASE ↑1) (w23.fld (Reg.ETH_RXR_HEAD ↑1) 9 0)) 4 ∨ w23.memN (w23.descAt (Reg.ETH_RXR_BASE ↑1) (w23.fld (Reg.ETH_RXR_HEAD ↑1) 9 0)) 4 + 1536 ≤ w23.descAt (Reg.ETH_RXR_BASE ↑1) (w23.fld (Reg.ETH_RXR_HEAD ↑1) 9 0)))
      ∧ ((w24.Awake) ∧ (w24.Sends Src.hpi) ∧ (w24.coreWrites ↑1 = true) ∧ (w24.ethOn ↑0 = true) ∧ (w24.linkUp ↑0 = true) ∧ (60 ≤ w25.length) ∧ (w25.length ≤ 1518) ∧ ((ethHead w25).etype ≠ 34824) ∧ (w24.ethReply? (↑0) w25 = none) ∧ (datagram? w25 = none) ∧ (w24.rxAdmits (↑0) (ethHead w25).dst = true) ∧ (w24.flag (Reg.ETH_STAT ↑0) 4 = true) ∧ (w24.fld (Reg.ETH_RXR_HEAD ↑0) 9 0 ≠ w24.fld (Reg.ETH_RXR_TAIL ↑0) 9 0) ∧ (bitAt (w24.memN (w24.descAt (Reg.ETH_RXR_BASE ↑0) (w24.fld (Reg.ETH_RXR_HEAD ↑0) 9 0) + 8) 1) 7 = true) ∧ (State.inShared (w24.descAt (Reg.ETH_RXR_BASE ↑0) (w24.fld (Reg.ETH_RXR_HEAD ↑0) 9 0)) = true) ∧ (State.inShared (w24.descAt (Reg.ETH_RXR_BASE ↑0) (w24.fld (Reg.ETH_RXR_HEAD ↑0) 9 0) + 15) = true) ∧ (State.inShared (w24.memN (w24.descAt (Reg.ETH_RXR_BASE ↑0) (w24.fld (Reg.ETH_RXR_HEAD ↑0) 9 0)) 4) = true) ∧ (State.inShared (w24.memN (w24.descAt (Reg.ETH_RXR_BASE ↑0) (w24.fld (Reg.ETH_RXR_HEAD ↑0) 9 0)) 4 + 1535) = true) ∧ (w24.descAt (Reg.ETH_RXR_BASE ↑0) (w24.fld (Reg.ETH_RXR_HEAD ↑0) 9 0) + 16 ≤ w24.memN (w24.descAt (Reg.ETH_RXR_BASE ↑0) (w24.fld (Reg.ETH_RXR_HEAD ↑0) 9 0)) 4 ∨ w24.memN (w24.descAt (Reg.ETH_RXR_BASE ↑0) (w24.fld (Reg.ETH_RXR_HEAD ↑0) 9 0)) 4 + 1536 ≤ w24.descAt (Reg.ETH_RXR_BASE ↑0) (w24.fld (Reg.ETH_RXR_HEAD ↑0) 9 0)))
      ∧ ((w26.Awake) ∧ (w26.Sends Src.hpi) ∧ (w26.coreWrites ↑1 = true) ∧ (w26.ethOn ↑0 = true) ∧ ((w26.ethSt ↑0).cur = some w27) ∧ (w26.ethLeft ↑0 = true))
      ∧ ((w28.Awake) ∧ (w28.Sends Src.hpi) ∧ (w28.coreWrites ↑1 = true) ∧ (w28.ethOn ↑1 = true) ∧ (w28.linkUp ↑1 = false) ∧ (w28.flag (Reg.ETH_CFG ↑1) 2 = false))
      ∧ ((w30.Awake) ∧ (w30.Sends Src.hpi) ∧ (w30.coreWrites ↑1 = true) ∧ (w30.ethOn ↑1 = true) ∧ (w30.linkUp ↑1 = false) ∧ (w30.flag (Reg.ETH_CFG ↑1) 2 = true) ∧ (w31 = some 32))
      ∧ ((w30.Awake) ∧ (w30.Sends Src.hpi) ∧ (w30.coreWrites ↑1 = true) ∧ (w30.ethOn ↑1 = true) ∧ (w30.linkUp ↑1 = false) ∧ (w30.flag (Reg.ETH_CFG ↑1) 2 = true) ∧ (w32 = some 15))
      ∧ ((w30.Awake) ∧ (w30.Sends Src.hpi) ∧ (w30.coreWrites ↑1 = true) ∧ (w30.ethOn ↑1 = true) ∧ (w30.linkUp ↑1 = false) ∧ (w30.flag (Reg.ETH_CFG ↑1) 2 = true) ∧ (w29 = none))
      ∧ ((w33.Awake) ∧ (w33.Sends Src.hpi) ∧ (w33.coreWrites ↑1 = true) ∧ (w33.linkUp ↑1 = false) ∧ (w33.flag (Reg.ETH_STAT ↑1) 1 = true))
      ∧ ((w34.Awake) ∧ (w34.Sends Src.hpi) ∧ (w34.coreWrites ↑1 = true) ∧ (w34.linkUp ↑1 = true))
      ∧ ((w35.Awake) ∧ (w35.Sends Src.hpi) ∧ (w35.coreWrites ↑1 = true) ∧ (w35.linkUp ↑1 = true))
      ∧ ((w5.Awake) ∧ (w5.Sends Src.hpi) ∧ (w5.coreWrites ↑1 = true))
      ∧ ((w5.Awake) ∧ (w5.Sends w36) ∧ (w5.coreWrites ↑1 = true)) := by
  repeat' apply And.intro
  all_goals decide +kernel
end TL

namespace TL2
def eth (p : Nat) (s : State) : State := ((s.putN (Reg.ETH_CFG p) 5).putN (Reg.ETH_STAT p) 0x11)
def fr (n : Nat) : List Byte := [2,3,4,5,6,7, 8,9,1,2,3,4, 0x88, 0xB5] ++ List.replicate (n - 14) 0x42
def curS (p k : Nat) : State := let s := (((eth p (run 5)).putN (Reg.ETH_TXR_BASE p) 0x2000000).putN (Reg.ETH_TXR_CFG p) 8).putN (Reg.ETH_TXR_TAIL p) 5; { s with eth := s.eth.mapIdx fun i x => if i = p then { x with cur := some { kind := k, bytes := fr 60 } } else x }
def w1 : State := (eth 0 (run 5))
def w2 : List Byte := (fr 50)
def w3 : State := (curS 1 7)
def w4 : EthOut := { kind := 7, bytes := fr 60 }

/-- The hypotheses of EthernetPorts, clause by clause. -/
theorem test_EthernetPorts :
    ((w1.Awake) ∧ (w1.Sends Src.hpi) ∧ (w1.coreWrites ↑1 = true) ∧ (w1.ethOn ↑0 = true) ∧ (w1.linkUp ↑0 = true) ∧ (w2.length < 60 ∨ 1518 < w2.length))
      ∧ ((w3.Awake) ∧ (w3.Sends Src.hpi) ∧ (w3.coreWrites ↑1 = true) ∧ (w3.ethOn ↑1 = true) ∧ ((w3.ethSt ↑1).cur = some w4) ∧ (w3.ethLeft ↑1 = true)) := by
  repeat' apply And.intro
  all_goals decide +kernel
end TL2

namespace TM
def co (n : Nat) (f : CoreSt → CoreSt) (s : State) : State := { s with cores := { s.cores with core := s.cores.core.mapIdx fun i x => if i = n then f x else x } }
def rel : CoreSt := { released := true }
def irqS (n i p : Nat) : State := (co n (fun _ => rel) (run 5)).setFld (Reg.ICU_SRCCFG (i / 4)) (8 * (i % 4) + 7) (8 * (i % 4)) (n * 32 + 16 + p) |>.setFlag (Reg.ICU_PEND (i / 32)) (i % 32) true
def dbg (s : State) : State := (s.setFlag Reg.TRU_STAT 30 true).putN Reg.TRU_DBG_STAT 0x10F
def w1 : State := (irqS 2 5 7)
def w2 : CoreSt := { rel with level := some 3 }
def w3 : State := (co 2 (fun _ => { rel with level := some 3 }) (irqS 2 319 7))
def w4 : State := (co 2 (fun _ => rel) (run 5))
def w5 : CoreSt := { rel with level := some 7 }
def w6 : State := (co 2 (fun _ => { rel with level := some 7 }) (run 5))
def w7 : State := (co 2 (fun _ => rel) ((run 5).putN (Reg.ICU_SRCCFG 14) 0x11111111))
def w8 : State := (co 2 (fun _ => rel) ((run 5).putN (Reg.ICU_SRCCFG 15) 0x11111111))
def w9 : CoreSt := { rel with asleep := true }
def w10 : State := (co 2 (fun _ => { rel with asleep := true }) ((run 5).putN (Reg.ICU_SRCCFG 14) 0xC0C0C0C0 |>.putN (Reg.ICU_PEND 1) 0xFFFFFFFF))
def w11 : CoreSt := { rel with csr := [(0x7B0, 0x8000#32)] }
def w12 : State := (dbg (co 2 (fun _ => { rel with csr := [(0x7B0, 0x8000#32)] }) (run 5)))
def w13 : CoreSt := { rel with trig := [(0, 0x20001000#32)] }
def w14 : State := (dbg (co 2 (fun _ => { rel with trig := [(0, 0x20001000#32)] }) (run 5)))
def w15 : CoreSt := { rel with halted := true, pc := 8 }
def w16 : State := (dbg (co 2 (fun _ => { rel with halted := true, pc := 8 }) (run 5)))
def w17 : Src := (Src.core 2)
def w18 : State := ({ co 2 (fun _ => rel) (run 5) with cores := { (co 2 (fun _ => rel) (run 5)).cores with evc := (List.range 32).map fun i => 0xABCDEF12 + i * 2^40 } })
def w19 : JtagScan := (.dmi 2)
def w20 : JtagScan := (.dmi 1)
def w21 : JtagScan := (.reg 1)
def w22 : JtagScan := (.reg 16)
def w23 : CoreSt := { rel with halted := true, x := [(8, 5#32)] }
def w24 : State := (let s := dbg (co 2 (fun _ => { rel with halted := true, x := [(8, 5#32)] }) (run 5)); { s with cores := { s.cores with dm := { s.cores.dm with active := true, data0 := 9, hartsel := 2, progbuf0 := 0x00140413, progbuf1 := 0x00100073 } } })
def w25 : State := (let s := dbg (co 2 (fun _ => rel) (run 5)); { s with cores := { s.cores with dm := { s.cores.dm with active := true, data0 := 9 } } })

/-- The hypotheses of CoresAndDebug, clause by clause. -/
theorem test_CoresAndDebug :
    ((w1.Awake) ∧ (w1.Sends Src.hpi) ∧ (w1.coreWrites ↑2 = true) ∧ (w1.cores.core[↑2]? = some rel) ∧ (w1.coreFree ↑2 = true) ∧ (3 = 0 ∨ 3 = 3) ∧ (w1.icuDeliver (↑2) (bitAt (BitVec.toNat (w1.entryCtx (↑2) 256 8 3).snd.fst) 3) = some (5, 7)) ∧ (5 < 320))
      ∧ ((w3.Awake) ∧ (w3.Sends Src.hpi) ∧ (w3.coreWrites ↑2 = true) ∧ (w3.cores.core[↑2]? = some w2) ∧ (w3.coreFree ↑2 = true) ∧ (0 = 0 ∨ 0 = 3) ∧ (w3.icuDeliver (↑2) (bitAt (BitVec.toNat (w3.entryCtx (↑2) 256 0 0).snd.fst) 3) = some (319, 7)) ∧ (319 < 320))
      ∧ ((w4.Awake) ∧ (w4.Sends Src.hpi) ∧ (w4.coreWrites ↑2 = true) ∧ (w4.cores.core[↑2]? = some rel) ∧ (w4.coreRuns ↑2 = true) ∧ (w4.coreFree ↑2 = true))
      ∧ ((w4.Awake) ∧ (w4.Sends Src.hpi) ∧ (w4.coreWrites ↑2 = true) ∧ (w4.cores.core[↑2]? = some rel) ∧ (w4.coreRuns ↑2 = true) ∧ (w4.coreFree ↑2 = true) ∧ (rel.level = none))
      ∧ ((w6.Awake) ∧ (w6.Sends Src.hpi) ∧ (w6.coreWrites ↑2 = true) ∧ (w6.cores.core[↑2]? = some w5) ∧ (w6.coreRuns ↑2 = true) ∧ (w6.coreFree ↑2 = true) ∧ (w5.level = some 7))
      ∧ ((w7.Awake) ∧ (w7.Sends Src.hpi) ∧ (w7.coreWrites ↑2 = true) ∧ (w7.cores.core[↑2]? = some rel) ∧ (0 < 8) ∧ (BitVec.getLsbD (4294967281 : Word) 0 = true) ∧ (bitAt (w7.icuCfg (56 + 0)) 4 = true) ∧ (¬56 + 0 ∈ w7.cores.fired) ∧ (w7.icuActive (56 + 0) = false) ∧ (∀ (y : CoreSt), y ∈ w7.cores.core → y.entry = none))
      ∧ ((w8.Awake) ∧ (w8.Sends Src.hpi) ∧ (w8.coreWrites ↑2 = true) ∧ (w8.cores.core[↑2]? = some rel) ∧ (7 < 8) ∧ (BitVec.getLsbD (4294967281 : Word) 7 = true) ∧ (bitAt (w8.icuCfg (56 + 7)) 4 = true) ∧ (¬56 + 7 ∈ w8.cores.fired) ∧ (w8.icuActive (56 + 7) = false) ∧ (∀ (y : CoreSt), y ∈ w8.cores.core → y.entry = none))
      ∧ ((w4.Awake) ∧ (w4.Sends Src.hpi) ∧ (w4.coreWrites ↑2 = true) ∧ (w4.cores.core[↑2]? = some rel))
      ∧ ((w10.Awake) ∧ (w10.Sends Src.hpi) ∧ (w10.coreWrites ↑1 = true) ∧ (w10.cores.core[↑2]? = some w9) ∧ (w10.wakeWaits ↑2 = true))
      ∧ ((w4.Awake) ∧ (w4.Sends Src.hpi) ∧ (w4.coreWrites ↑2 = true) ∧ (w4.cores.core[↑2]? = some rel) ∧ (rel.released = true) ∧ (rel.stopped = false))
      ∧ ((w12.Awake) ∧ (w12.Sends Src.hpi) ∧ (w12.coreWrites ↑2 = true) ∧ (w12.cores.core[↑2]? = some w11) ∧ (1 ≤ 1) ∧ (1 ≤ 4) ∧ (w12.haltOk (↑2) 1 = true))
      ∧ ((w14.Awake) ∧ (w14.Sends Src.hpi) ∧ (w14.coreWrites ↑2 = true) ∧ (w14.cores.core[↑2]? = some w13) ∧ (1 ≤ 2) ∧ (2 ≤ 4) ∧ (w14.haltOk (↑2) 2 = true))
      ∧ ((w16.Awake) ∧ (w16.Sends Src.hpi) ∧ (w16.coreWrites ↑1 = true) ∧ (w16.cores.core[↑2]? = some w15) ∧ (w15.halted = true))
      ∧ ((w18.Awake) ∧ (w18.Sends w17) ∧ (w18.coreWrites ↑2 = true) ∧ (w18.cores.core[↑2]? = some rel))
      ∧ ((w4.Awake) ∧ (w4.Sends Src.hpi) ∧ (w4.coreWrites ↑2 = true) ∧ (w4.cores.core[↑2]? = some rel) ∧ (w4.debugOpen = false))
      ∧ ((w4.Awake) ∧ (w4.Sends Src.hpi) ∧ (w4.coreWrites ↑2 = true) ∧ (w4.cores.core[↑2]? = some rel) ∧ (w21 = JtagScan.reg 1 ∨ w21 = JtagScan.reg 16 ∨ w21 = JtagScan.reg 31))
      ∧ ((w4.Awake) ∧ (w4.Sends Src.hpi) ∧ (w4.coreWrites ↑2 = true) ∧ (w4.cores.core[↑2]? = some rel) ∧ (w22 = JtagScan.reg 1 ∨ w22 = JtagScan.reg 16 ∨ w22 = JtagScan.reg 31))
      ∧ ((w24.Awake) ∧ (w24.Sends Src.hpi) ∧ (w24.coreWrites ↑1 = true) ∧ (w24.cores.core[↑2]? = some w23) ∧ (w24.debugOpen = true) ∧ (w24.debugScope = true) ∧ (w24.dm.active = true) ∧ (w24.dm.hartsel = ↑2) ∧ (w24.debugNames ↑2 = true) ∧ (w23.halted = true) ∧ (w24.dm.cmderr = 0) ∧ (23 = 23) ∧ (2297864 = 2297864))
      ∧ ((w24.Awake) ∧ (w24.Sends Src.hpi) ∧ (w24.coreWrites ↑1 = true) ∧ (w24.cores.core[↑2]? = some w23) ∧ (w24.debugOpen = true) ∧ (w24.debugScope = true) ∧ (w24.dm.active = true) ∧ (w24.dm.hartsel = ↑2) ∧ (w24.debugNames ↑2 = true) ∧ (w23.halted = true) ∧ (w24.dm.cmderr = 0) ∧ (23 = 23) ∧ (List.lookup 8 w23.x = some 5) ∧ (2232328 = 2232328))
      ∧ ((w24.Awake) ∧ (w24.Sends Src.hpi) ∧ (w24.coreWrites ↑1 = true) ∧ (w24.cores.core[↑2]? = some w23) ∧ (w24.debugOpen = true) ∧ (w24.debugScope = true) ∧ (w24.dm.active = true) ∧ (w24.dm.hartsel = ↑2) ∧ (w24.debugNames ↑2 = true) ∧ (w23.halted = true) ∧ (w24.dm.cmderr = 0) ∧ (23 = 23) ∧ (List.lookup 8 w23.x = some 5) ∧ (2359296 = 2359296) ∧ (w24.dm.progbuf0 = 1311763) ∧ (w24.dm.progbuf1 = 1048691))
      ∧ ((w25.Awake) ∧ (w25.Sends Src.hpi) ∧ (w25.coreWrites ↑2 = true) ∧ (w25.cores.core[↑2]? = some rel) ∧ (w25.debugOpen = true) ∧ (w25.dm.active = true) ∧ (bitAt (BitVec.toNat w25.dm.autoexec) 0 = false)) := by
  repeat' apply And.intro
  all_goals decide +kernel
end TM

namespace TN
def low (f : Nat) : State := { run 5 with sys := { (run 5).sys with nresetLow := true, nresetFell := f } }
def held : State := { State.reset with tickNo := 1000000, sys := { State.reset.sys with nresetLow := true, nresetHeld := true, supplyBad := false } }
def w1 : State := (run 5)
def w2 : Src := (Src.core 1)
def w3 : Nat := (Reg.SYS_STBY_STAT)
def w4 : State := ((run 5).stick (Reg.SYS_STBY_STAT) 3)
def w5 : RegDesc := (rd (Reg.SYS_STBY_STAT))
def w6 : State := (low 999000)
def w7 : State := (low 998750)
def w8 : State := held
def w9 : State := ({ State.reset with tickNo := 250000 })

/-- The hypotheses of ClearBits, clause by clause. -/
theorem test_ClearBits :
    ((31 < 32))
      ∧ ((w4.Awake) ∧ (w4.Sends w2) ∧ (w3 % 4 = 0) ∧ (w3 < 884736) ∧ (¬(589824 ≤ w3 ∧ w3 < 622592)) ∧ (State.canRamAt w3 = none) ∧ (w4.regAt w3 = some w5) ∧ (w5.acc = Access.rw1c) ∧ (w2 = Src.hpi → w5.free = true)) := by
  repeat' apply And.intro
  all_goals decide +kernel

/-- The hypotheses of NresetPin, clause by clause. -/
theorem test_NresetPin :
    ((w1.FltOk) ∧ (w1.sys.nresetLow = false))
      ∧ ((w6.FltOk) ∧ (w6.sys.nresetLow = true) ∧ (w6.sys.nresetHeld = false) ∧ ((w6.tickNo - w6.sys.nresetFell) * 8 < 10000))
      ∧ ((w7.FltOk) ∧ (w7.sys.nresetLow = true) ∧ (w7.sys.nresetHeld = false) ∧ (10000 ≤ (w7.tickNo - w7.sys.nresetFell) * 8))
      ∧ ((w8.FltOk) ∧ (w8.sys.nresetHeld = true))
      ∧ ((w8.FltOk) ∧ (w8.sys.nresetHeld = true) ∧ (20000 ≤ (w8.tickNo - w8.sys.nresetFell) * 8)) := by
  repeat' apply And.intro
  all_goals decide +kernel

/-- The hypotheses of Boot, clause by clause. -/
theorem test_Boot :
    ((w9.FltOk) ∧ (w9.sys.supplyBad = true) ∧ (2000000 ≤ (w9.tickNo - w9.sys.supplyTick) * 8)) := by
  repeat' apply And.intro
  all_goals decide +kernel
end TN

namespace TZ
def rc (st sg : Nat) : State := ((run 5).putN Reg.REC_STAT (st + sg * 16)).putN Reg.REC_CFG 0x0403
def tg : RecTrig := { src := 3, sec := 4, ns := 5, sub := 6, mode := 5 }
def rcp (st sg : Nat) : State := { rc st sg with recd := { (rc st sg).recd with trig := some tg } }
def rcq (st sg : Nat) (l : List RecTrig) : State := { rcp st sg with recd := { (rcp st sg).recd with todo := l } }
def sg (p : Nat) (l : List (Nat × Word)) (s : State) : State := { s with clk := { s.clk with segs := (List.range 64).map fun i => if 16 * p ≤ i ∧ i < 16 * p + 16 then l.getD (i - 16 * p) (0, 0) else (0, 0) } }
def bf (c b dir st flags : Nat) (s : State) : State := (s.setBytes (State.canBuf c b) (leBytes 4 (dir * 2 ^ 30 + 0x123))).setBytes (State.canBuf c b + 4) (leBytes 4 (st * 4096 + flags))
def cn (c : Nat) (s : State) : State := (s.putN (Reg.CAN_CFG c) 0x0).setFlag (Reg.CAN_STAT c) 4 false
def uzS : State := { run 2 with tickNo := 12500000, uz := [{ fam := 4, addr := [], udp := 0, msgId := 0, nseg := 1, total := 0, segs := [], tick := 0, port := 0 }] }
def w1 : State := ((run 1).setFlag Reg.TRU_STAT 30 true)
def w2 : Cmd := { src := 0, port := 0, reply := [], hdr := [], auth := [], key := [], payload := [], badFormat := false, stageBad := false }
def w3 : Src := (Src.core 1)
def w4 : State := uzS
def w5 : Reasm := { fam := 4, addr := [], udp := 0, msgId := 0, nseg := 1, total := 0, segs := [], tick := 0, port := 0 }
def w6 : State := ({ State.reset with tickNo := 250000, tim := { State.reset.tim with ns := 2000000 } })
def w7 : State := ({ State.reset with sys := { State.reset.sys with supplyBad := false } })
def w8 : Int := (1680 : Int)
def w9 : Int := (-641 : Int)
def w10 : State := ({ State.reset with sys := { State.reset.sys with phase := .boot, bootHeld := true }, tru := { State.reset.tru with promote := some 5 } })
def w11 : Int := (-640 : Int)
def w12 : State := ({ State.reset with sys := { State.reset.sys with phase := .boot } })
def w13 : State := State.reset
def w14 : State := ({ State.reset with sys := { State.reset.sys with phase := .boot }, clk := { State.reset.clk with refGone := true } })
def w15 : State := (rcq 1 0 [tg])
def w16 : State := (rcq 2 0 [tg])
def w17 : State := (rcq 3 0 [tg])
def w18 : State := ({ (run 5).putN Reg.CLK_STAT 1 with tickNo := 1250000 })
def w19 : State := (bf 1 33 1 1 0x8 (cn 1 (run 1)))
def w20 : State := (bf 0 63 1 2 0x8 (cn 0 (run 1)))

/-- The hypotheses of DebugAccess, clause by clause. -/
theorem test_DebugAccess :
    ((w1.Runs) ∧ (w1.flag Reg.TRU_STAT 30 = true))
      ∧ ((w1.Runs) ∧ (w1.flag Reg.TRU_STAT 30 = true) ∧ (w1.fld Reg.TRU_DBG_STAT 31 16 = 0)) := by
  repeat' apply And.intro
  all_goals decide +kernel

/-- The hypotheses of WindowAndTimeouts, clause by clause. -/
theorem test_WindowAndTimeouts :
    ((w4.Runs) ∧ (w4.Sends w3) ∧ (w4.uz[0]? = some w5) ∧ (w4.elapsed w5.tick 100000000 = true)) := by
  repeat' apply And.intro
  all_goals decide +kernel

/-- The hypotheses of Boot, clause by clause. -/
theorem test_Boot :
    ((w6.FltOk) ∧ (w6.sys.supplyBad = true) ∧ (2000000 ≤ (w6.tickNo - w6.sys.supplyTick) * 8))
      ∧ ((w7.FltOk) ∧ (w7.sys.phase = Phase.inReset) ∧ (w7.sys.supplyBad = false) ∧ (w7.sys.nresetHeld = false))
      ∧ ((w10.FltOk) ∧ (w10.sys.phase = Phase.boot) ∧ (w10.sys.bootHeld = true) ∧ (-640 ≤ w11) ∧ (w11 ≤ 1680) ∧ (w10.flag Reg.SYS_MRAM_STAT 28 = false))
      ∧ ((w12.FltOk) ∧ (w12.sys.phase = Phase.boot) ∧ (w12.sys.bootHeld = false) ∧ (w12.clk.refGone = false) ∧ (w12.imageCheck activeSlot ≠ 0))
      ∧ ((w13.FltOk))
      ∧ ((w14.FltOk) ∧ (w14.sys.phase = Phase.boot) ∧ (w14.clk.refGone = true)) := by
  repeat' apply And.intro
  all_goals decide +kernel

/-- The hypotheses of Recorder, clause by clause. -/
theorem test_Recorder :
    ((w15.Awake) ∧ (w15.Sends Src.hpi) ∧ (w15.coreWrites ↑1 = true) ∧ (State.firstTrigger w15.recd.todo = some tg))
      ∧ ((w15.Awake) ∧ (w15.Sends Src.hpi) ∧ (w15.coreWrites ↑1 = true) ∧ (State.firstTrigger w15.recd.todo = some tg) ∧ (w15.recState = 1))
      ∧ ((w16.Awake) ∧ (w16.Sends Src.hpi) ∧ (w16.coreWrites ↑1 = true) ∧ (State.firstTrigger w16.recd.todo = some tg) ∧ (w16.recState = 2))
      ∧ ((w17.Awake) ∧ (w17.Sends Src.hpi) ∧ (w17.coreWrites ↑1 = true) ∧ (State.firstTrigger w17.recd.todo = some tg) ∧ (w17.recState ≠ 1) ∧ (w17.recState ≠ 2)) := by
  repeat' apply And.intro
  all_goals decide +kernel

/-- The hypotheses of ClockEvents, clause by clause. -/
theorem test_ClockEvents :
    ((w18.Runs) ∧ (w18.flag Reg.CLK_STAT 0 = true) ∧ (w18.fld Reg.CLK_MON_CFG 7 0 * 1000000 ≤ (w18.tickNo - w18.clk.lossTick) * 8)) := by
  repeat' apply And.intro
  all_goals decide +kernel

/-- The hypotheses of CanControllers, clause by clause. -/
theorem test_CanControllers :
    ((w19.Awake) ∧ (w19.Sends Src.hpi) ∧ (w19.coreWrites ↑1 = true) ∧ (33 < 64) ∧ (w19.bufDir (↑1) 33 = 1) ∧ (w19.bufState (↑1) 33 = 1))
      ∧ ((w20.Awake) ∧ (w20.Sends Src.hpi) ∧ (w20.coreWrites ↑1 = true) ∧ (63 < 64) ∧ (w20.bufDir (↑0) 63 = 1) ∧ (w20.bufState (↑0) 63 = 1 ∨ w20.bufState (↑0) 63 = 2)) := by
  repeat' apply And.intro
  all_goals decide +kernel
end TZ

namespace TP
def fr (type head role chain cyc len : Nat) (body : List Byte) : List Byte := withCrc ([BitVec.ofNat 8 type, BitVec.ofNat 8 head, BitVec.ofNat 8 role, BitVec.ofNat 8 chain, 0, 0] ++ leBytes 2 cyc ++ leBytes 4 cyc ++ leBytes 2 len ++ [1, 0] ++ body)
def ch (m : Nat) : State := ((run m).putN (Reg.LNK_CH_CFG 2) 0x1C1).setFld (Reg.LNK_STAT 2) 3 0 5
def beacon : List Byte := fr 1 1 1 2 5 16 ([0,0,0,0, 0,0,0,0, 0,0,0,0, 0,0] ++ [0x34, 0x12])
def tel : List Byte := fr 3 0 1 2 0 48 ([27] ++ List.replicate 47 9)
def bG : List Nat := onLine kBeacon beacon
def tG : List Nat := onLine kStart tel
def pr (m role : Nat) : State := ((((((eng m).putN (Reg.PTN_CFG) 0x100).setFld (Reg.LNK_STAT 12) 3 0 5).setFld (Reg.LNK_STAT 13) 3 0 5).setFld Reg.PTN_STAT 26 25 role).setFlag Reg.PTN_STAT 23 true).setFlag Reg.PTN_STAT 24 true
def chp (m r : Nat) : State := (((pr m r).putN (Reg.LNK_CH_CFG 2) 0xC1).setFld (Reg.LNK_STAT 2) 3 0 5).putN Reg.PTN_ADC_OWN 0xFFFF
def segS : State := { pr 5 2 with ptn := { (pr 5 2).ptn with image := [1], imageCycle := 7 } }
def pwm (g : Nat) (f : PwmGroup → PwmGroup) (s : State) : State := { s with pwm := { s.pwm with groups := s.pwm.groups.mapIdx fun i x => if i = g then f x else x } }
def lg (h : Nat) (f : Leg → Leg) (s : State) : State := { s with gdr := { s.gdr with legs := s.gdr.legs.mapIdx fun i x => if i = h then f x else x } }
def up : State := (run 5).putN Reg.GDR_STAT 0x3F0000
def pw (g h : Nat) : State := ((((pwm g (fun g => { g with run := true, start := 31990000 }) (run 4)).putAct (Reg.PWM_G_PERIOD g) 10020).putAct (Reg.PWM_HB_CMPA h) 5000).putN (Reg.PWM_G_PERIOD g) 10020).putN (Reg.PWM_HB_CMPA h) 5000
def outs (s : State) : State := { (((s.putN Reg.CLK_OUT_EN 8).putN Reg.CLK_SYN_CFG 1).putN Reg.CLK_SYN_WORD 0x40000000).putN (Reg.CLK_OUTN_CFG 3) 1000 with clk := { s.clk with outs := List.replicate 8 { start := 0, phase := -(7 * 2 ^ 63) } } }
def ad (c : Nat) : State := ((run 5).setFlag Reg.ADC_STAT (16 + c) true).putN (Reg.ADC_CH_CFG c) 1
def adAt (c off : Nat) : State := { ad c with adc := { (ad c).adc with ch := List.replicate 16 { due := 8000000 + off } } }
def hk (k i : Nat) : State := { ((run 5).putN Reg.HKP_STAT (0x50000 + k * 256)).putAct (Reg.HKP_SEQ k) (BitVec.ofNat 32 (0x40 + i)) with hk := { (run 5).hk with running := true } }
def hku (i : Nat) : State := { (run 5).putN Reg.HKP_STAT (0x50302) with hk := { (run 5).hk with running := true, urgent := some (4, i) } }
def isl (f : Island → Island) : State := { run 5 with island := f { (run 5).island with up := true, states := [0,0,0], live := [(Reg.SAF_VSUP, 1000)] } }
def on (x y z : Nat) (i : Island) : Island := { i with states := [x,y,z], peel := 0 }
def rc (st sg : Nat) : State := ((run 5).putN Reg.REC_STAT (st + sg * 16)).putN Reg.REC_CFG 0x0403
def sg (p : Nat) (l : List (Nat × Word)) (s : State) : State := { s with clk := { s.clk with segs := (List.range 64).map fun i => if 16 * p ≤ i ∧ i < 16 * p + 16 then l.getD (i - 16 * p) (0, 0) else (0, 0) } }
def bf (c b dir st flags : Nat) (s : State) : State := (s.setBytes (State.canBuf c b) (leBytes 4 (dir * 2 ^ 30 + 0x123))).setBytes (State.canBuf c b + 4) (leBytes 4 (st * 4096 + flags))
def cn (c : Nat) (s : State) : State := (s.putN (Reg.CAN_CFG c) 0x0).setFlag (Reg.CAN_STAT c) 4 false
def fd (c : Nat) (s : State) : State := (cn c s).setFlag (Reg.CAN_CFG c) 4 true
def onb (c b : Nat) (s : State) : State := { s with can := s.can.mapIdx fun i x => if i = c then { x with onBus := some b } else x }
def eth (p : Nat) (s : State) : State := ((s.putN (Reg.ETH_CFG p) 5).putN (Reg.ETH_STAT p) 0x11)
def curS (p k : Nat) : State := let s := (((eth p (run 5)).putN (Reg.ETH_TXR_BASE p) 0x2000000).putN (Reg.ETH_TXR_CFG p) 8).putN (Reg.ETH_TXR_TAIL p) 5; { s with eth := s.eth.mapIdx fun i x => if i = p then { x with cur := some { kind := k, bytes := List.replicate 60 7 } } else x }
def co (n : Nat) (f : CoreSt → CoreSt) (s : State) : State := { s with cores := { s.cores with core := s.cores.core.mapIdx fun i x => if i = n then f x else x } }
def rel : CoreSt := { released := true }
def irqS (n i p : Nat) : State := (co n (fun _ => rel) (run 5)).setFld (Reg.ICU_SRCCFG (i / 4)) (8 * (i % 4) + 7) (8 * (i % 4)) (n * 32 + 16 + p) |>.setFlag (Reg.ICU_PEND (i / 32)) (i % 32) true
def dbg (s : State) : State := (s.setFlag Reg.TRU_STAT 30 true).putN Reg.TRU_DBG_STAT 0x10F
def low (f : Nat) : State := { run 5 with sys := { (run 5).sys with nresetLow := true, nresetFell := f } }
def held : State := { State.reset with tickNo := 1000000, sys := { State.reset.sys with nresetLow := true, nresetHeld := true, supplyBad := false } }
def uzS : State := { run 2 with tickNo := 12500000, uz := [{ fam := 4, addr := [], udp := 0, msgId := 0, nseg := 1, total := 0, segs := [], tick := 0, port := 0 }] }
def hel : List Nat := onLine kStart (fr 0x14 1 1 0xFF 5 32 (List.replicate 32 9))
def w1 : State := (run 3)
def w2 : State := (isl id)
def w3 : State := (front (run 2) (hm 1 commitPay))
def w4 : State := (front (run 2) (hm 2 []))
def w5 : State := (front (run 2) promoteCmd)
def w6 : State := (front (run 2) (hm 4 []))
def w7 : State := (front (run 2) (hm 5 []))
def w8 : State := (front (run 2) grantCmd)
def w9 : State := (front (run 2) (hm 7 [0x99,0,0,0]))
def w10 : State := (front (run 2) debugCmd)
def w11 : State := (front (run 2) provCmd)
def w12 : State := ({ run 2 with sys := { (run 2).sys with recipeOk := false } })
def w13 : State := uzS
def w14 : Reasm := { fam := 4, addr := [], udp := 0, msgId := 0, nseg := 1, total := 0, segs := [], tick := 0, port := 0 }
def w15 : State := ({ run 2 with tru := { (run 2).tru with promote := some 5, copying := true } })
def w16 : State := (let s := front (run 5) (hm 5 []); { s with tru := { s.tru with bank := some { bank := 1, length := 0x200, cycle := 0, digest := [], accepted := false, keyid := 0, counter := 0 } } })
def w17 : BankCommit := { bank := 1, length := 0x200, cycle := 0, digest := [], accepted := false, keyid := 0, counter := 0 }
def w18 : Cmd := (hm 5 [])
def w19 : State := ({ run 5 with tru := { (run 5).tru with sessions := [{}, { held := some { id := 0x99, key := sessKey, keyid := 1, life := 60, left := 0, perm := 0xB6 } }, {}, {}] } })
def w20 : Session := { id := 0x99, key := sessKey, keyid := 1, life := 60, left := 0, perm := 0xB6 }
def w21 : State := ((run 1).setFlag Reg.TRU_STAT 30 true)
def w22 : State := ({ run 2 with tru := { (run 2).tru with att := some ([], [], 5) } })
def w23 : List Byte × List Byte × Nat := ([], [], 5)
def w24 : State := ({ run 2 with tickNo := 2000000 })
def w25 : State := (run 5)
def w26 : State := ((run 7).putN (Reg.FLT_THR 10) 1)
def w27 : State := ((run 4).putN (Reg.FLT_THR 11) 1)
def w28 : State := ({ (eng 7).setFlag Reg.FLT_GF_STAT 0 true with sys := { (eng 7).sys with protInForce := true, rtFrom := 5 }, flt := { (eng 7).flt with gfHold := 1000000, gfLast := some 999000 } })
def w29 : State := ({ State.reset with tickNo := 250000 })
def w30 : State := (low 998750)
def w31 : State := (low 999000)
def w32 : State := held
def w33 : State := (((run 5).putN (Reg.SYS_WDT_CFG 3) 80).coreRelease 3 0)
def w34 : State := ({ State.reset with sys := { State.reset.sys with supplyBad := false } })
def w35 : Int := (1680 : Int)
def w36 : State := ({ State.reset with sys := { State.reset.sys with phase := .boot } })
def w37 : State := ({ run 1 with sys := { (run 1).sys with saving := true } })
def w38 : State := ({ ((run 1).putN Reg.SYS_STBY_CFG 15) with sys := { (run 1).sys with saving := true } })
def w39 : State := ((run 0).putN Reg.SYS_STBY_CFG 15)
def w40 : State := ({ run 0 with sys := { (run 0).sys with waking := some 7 } })
def w41 : State := (ch 5)
def w42 : State := ({ (run 3).setFld (Reg.LNK_STAT 7) 3 0 3 with lanes := List.replicate 16 { since := 999875 } })
def w43 : State := ((run 3).setFld (Reg.LNK_STAT 12) 3 0 4)
def w44 : List Bool := (idles 4)
def w45 : State := ((run 3).setFld (Reg.LNK_STAT 12) 3 0 5)
def w46 : List Bool := []
def w47 : State := ({ (run 3).setFld (Reg.LNK_STAT 7) 3 0 3 with lanes := List.replicate 16 { leftUp := some 1000000 } })
def w48 : State := ((run 3).setFld (Reg.LNK_STAT 12) 3 0 6)
def w49 : State := ((run 3).setFld (Reg.LNK_STAT 0) 3 0 5)
def w50 : State := ((run 3).putN (Reg.LNK_TEST 12) 0x20 |>.setFld (Reg.LNK_STAT 12) 3 0 6)
def w51 : State := ({ ((run 3).putN (Reg.LNK_TEST 12) 0x20 |>.setFld (Reg.LNK_STAT 12) 3 0 6) with lanes := List.replicate 16 { chk := { locked := true } } })
def w52 : State := ((run 5).putN Reg.KNE_STAT 0x41)
def w53 : State := ((run 5).putN Reg.KNE_STAT 0x81)
def w54 : State := ((run 5).putN Reg.KNE_STAT 0xC1)
def w55 : State := ({ run 5 with mod := { (run 5).mod with run := some ([], 7, 7) } })
def w56 : State := (pr 5 2)
def w57 : State := segS
def w58 : State := (chp 5 1)
def w59 : State := ((pr 5 1).setFlag Reg.PTN_STAT 16 true)
def w60 : State := (pr 5 1)
def w61 : State := (pr 1 1)
def w62 : State := (pw 1 5)
def w63 : State := (outs ((run 4).putN (Reg.PWM_G_CFG 1) 0x30020))
def w64 : State := (pwm 1 (fun g => { g with run := true, synEdge := some 3199000 }) (((run 4).putN (Reg.PWM_G_CFG 1) 0x30020).putN (Reg.PWM_G_SYNPER 1) 500))
def w65 : State := (run 4)
def w66 : State := (lg 2 (fun l => { l with hi := { l.hi with pending := true, cmdAt := 31999000, dead := 200 } }) up)
def w67 : State := (lg 2 (fun l => { l with hi := { l.hi with edgeOff := true } }) up)
def w68 : Option Nat := (some 50)
def w69 : State := (lg 2 (fun l => { l with hi := { l.hi with on := true, edgeOn := true } }) up)
def w70 : Option Nat := none
def w71 : State := (lg 2 (fun l => { l with hi := { l.hi with on := true, measured := false } }) up)
def w72 : State := (lg 5 (fun l => { l with lo := { l.lo with on := true } }) up)
def w73 : State := up
def w74 : State := (lg 4 (fun l => { l with lo := { l.lo with soft := true, offAt := 31000000 } }) up)
def w75 : State := (adAt 7 5)
def w76 : Int := (-5)
def w77 : State := ((adAt 6 3).putN Reg.ADC_PAIR_CFG 0x40)
def w78 : State := (ad 7)
def w79 : State := (hk 3 1)
def w80 : List Nat := []
def w81 : State := (hku 1)
def w82 : State := (isl (fun i => { i with pulse := some (1, 77) }))
def w83 : State := (isl (fun i => { i with held := some (List.replicate 128 5), discSince := List.replicate 4 (some (2 ^ 32 - 20000)) }))
def w84 : State := (isl (fun i => i.put Reg.SAF_SD_STAT 0x1400))
def w85 : State := (isl (fun i => { i with second := [(3, 1, [], 0, 2 ^ 32 - 20)] }))
def w86 : Nat × Nat × List Byte × Nat × Nat := (3, 1, [], 0, 2 ^ 32 - 20)
def w87 : State := (isl (fun i => { i with wait := some (List.replicate 128 5) }))
def w88 : List Byte := (List.replicate 128 5)
def w89 : State := (isl (fun i => { i with steps := List.replicate 3 (some (1, 77)) }))
def w90 : State := (isl (on 2 0 0))
def w91 : State := (isl (on 0 2 0))
def w92 : State := (isl (fun i => { i with pulse := some (0, 77) }))
def w93 : State := ((rc 1 2).setFlag Reg.REC_STAT 9 true)
def w94 : State := (((run 5).putN Reg.CLK_STAT 1).putN Reg.CLK_MON_CFG 5)
def w95 : State := ({ (run 5).putN Reg.CLK_STAT 3 with clk := { (run 5).clk with relocking := true } })
def w96 : State := ({ run 5 with clk := { (run 5).clk with sysHold := true } })
def w97 : State := ((run 5).putN Reg.CLK_STAT 4)
def w98 : State := (let s := sg 2 [(5, 7)] ((run 5).putN (Reg.CLK_RISEP_STAT 2) 1); { s with clk := { s.clk with mono := 2 ^ 50 } })
def w99 : State := ((run 5).putN Reg.TIM_SRV_HOLD 1)
def w100 : State := ((run 5).putN (Reg.TIM_CMP_STAT 3) 1)
def w101 : State := (eth 1 (run 5))
def w102 : List Byte := []
def w103 : State := (curS 0 1)
def w104 : EthOut := { kind := 1, bytes := List.replicate 60 7 }
def w105 : State := ((run 5).putN (Reg.ETH_CFG 1) 5)
def w106 : Option Nat := (some 0x20)
def w107 : State := ((run 5).setFlag (Reg.ETH_STAT 1) 0 true)
def w108 : State := (fd 1 (run 5))
def w109 : State := (onb 1 63 (bf 1 63 2 4 0 (cn 1 (run 1))))
def w110 : State := (cn 1 (run 1))
def w111 : State := ((cn 1 (run 1)).setFld (Reg.CAN_STAT 1) 10 8 1)
def w112 : State := (run 1)
def w113 : State := ((run 1).putN (Reg.CAN_TT_CFG 0) 0x80000064)
def w114 : State := (irqS 2 5 7)
def w115 : State := (co 2 (fun _ => { rel with level := some 3 }) (irqS 2 319 7))
def w116 : State := (co 2 (fun _ => rel) (run 5))
def w117 : State := (co 2 (fun _ => { rel with asleep := true }) ((run 5).putN (Reg.ICU_SRCCFG 14) 0xC0C0C0C0 |>.putN (Reg.ICU_PEND 1) 0xFFFFFFFF))
def w118 : State := (let s := dbg (co 2 (fun _ => rel) (run 5)); { s with cores := { s.cores with dm := { s.cores.dm with req := 15 } } })
def w119 : State := (dbg (co 2 (fun _ => { rel with csr := [(0x7B0, 0x8000#32)] }) (run 5)))
def w120 : State := (dbg (co 2 (fun _ => { rel with halted := true, pc := 8 }) (run 5)))
def w121 : State := ({ run 2 with tru := { (run 2).tru with verifying := true } })
def w122 : State := ({ State.reset with sys := { State.reset.sys with phase := .boot, bootHeld := true } })
def w123 : Int := (-640 : Int)
def w124 : State := ({ pr 5 2 with ptn := { (pr 5 2).ptn with gvHeld := true } })
def w125 : State := (lg 4 (fun l => { l with lo := { l.lo with low := false, offAt := 31999000 } }) up)
def w126 : State := ((run 4).putN Reg.PWM_STAT 0x20)
def w127 : State := (bf 1 63 2 3 0 (cn 1 (run 5)))
def w128 : State := ({ State.reset with sys := { State.reset.sys with phase := .boot }, clk := { State.reset.clk with refGone := true } })
def w129 : State := ((run 5).putN (Reg.ETH_STAT 1) 2)

/-- The hypotheses of EveryCommandCompletes, clause by clause. -/
theorem test_EveryCommandCompletes_1 :
    ((w1.live = true))
      ∧ ((w1.awake = true))
      ∧ ((w2.island.up = true))
      ∧ ((w3.live = true) ∧ ((w3.headWith fun op => op == 1 || !opcodeKnown op).isSome = true))
      ∧ ((w4.live = true) ∧ ((w4.headWith fun op => op == 2).isSome = true))
      ∧ ((w5.live = true) ∧ ((w5.headWith fun op => op == 3).isSome = true))
      ∧ ((w6.live = true) ∧ ((w6.headWith fun op => op == 4).isSome = true))
      ∧ ((w7.live = true) ∧ ((w7.headWith fun op => op == 5).isSome = true))
      ∧ ((w8.live = true) ∧ ((w8.headWith fun op => op == 6).isSome = true))
      ∧ ((w9.live = true) ∧ ((w9.headWith fun op => op == 7).isSome = true))
      ∧ ((w10.live = true) ∧ ((w10.headWith fun op => op == 8).isSome = true))
      ∧ ((w11.live = true) ∧ ((w11.headWith fun op => op == 9).isSome = true))
      ∧ ((w1.live = true) ∧ (4 < 5) ∧ ((w1.sys.recipeOk || 4 == 0) = true))
      ∧ ((w12.live = true) ∧ (0 < 5) ∧ ((w12.sys.recipeOk || 0 == 0) = true))
      ∧ ((w1.live = true) ∧ (4 < 5))
      ∧ ((w13.live = true) ∧ (w13.uz[0]? = some w14) ∧ (w13.elapsed w14.tick 100000000 = true))
      ∧ ((w15.live = true) ∧ (w15.tru.promote = some 5) ∧ (w15.tru.copying = true))
      ∧ ((w16.live = true) ∧ (w16.tru.bank = some w17) ∧ (w16.tru.queue.head? = some w18) ∧ (w17.accepted = false))
      ∧ ((w19.live = true) ∧ ((w19.tru.sessions.getD 1 { }).held = some w20) ∧ (w20.left = 0))
      ∧ ((w21.live = true) ∧ (w21.flag Reg.TRU_STAT 30 = true) ∧ (w21.fld Reg.TRU_DBG_STAT 31 16 = 0))
      ∧ ((w22.live = true) ∧ (w22.tru.att = some w23))
      ∧ ((w24.sys.phase ≠ Phase.inReset) ∧ (w24.elapsed w24.hk.mramTick 10000000 = true))
      ∧ ((w1.live = true) ∧ (1 < 8) ∧ (w1.requestCheck 1 = 0))
      ∧ ((w25.awake = true) ∧ (24187 = 24187))
      ∧ ((w26.live = true) ∧ (w26.mode = State.RIDETHROUGH) ∧ (w26.elapsed w26.sys.rtEntry (w26.getN (Reg.FLT_THR 10) * 1000000) = true))
      ∧ ((w27.live = true) ∧ (w27.mode = State.ENERGIZE) ∧ (w27.flag Reg.SYS_MODE 12 = false) ∧ (w27.elapsed w27.sys.energizeEntry (w27.getN (Reg.FLT_THR 11) * 1000000) = true))
      ∧ ((w28.awake = true) ∧ (w28.sys.protInForce = true) ∧ (w28.gridRecovered = true))
      ∧ ((6 < 7)) := by
  repeat' apply And.intro
  all_goals decide +kernel

/-- The hypotheses of EveryCommandCompletes, clause by clause. -/
theorem test_EveryCommandCompletes_2 :
    ((w29.sys.supplyBad = true) ∧ (w29.elapsed w29.sys.supplyTick 2000000 = true))
      ∧ ((w25.sys.nresetLow = false))
      ∧ ((w30.sys.nresetLow = true) ∧ (w30.sys.nresetHeld = false) ∧ (w30.elapsed w30.sys.nresetFell 10000 = true))
      ∧ ((w31.sys.nresetLow = true) ∧ (w31.sys.nresetHeld = false) ∧ (w31.elapsed w31.sys.nresetFell 10000 = false))
      ∧ ((w32.sys.nresetHeld = true) ∧ (w32.elapsed w32.sys.nresetFell 20000 = true))
      ∧ ((w25.live = true) ∧ (3 < 4))
      ∧ ((w33.live = true) ∧ (3 < 4) ∧ (w33.wdtOn 3 = true) ∧ ((w33.sys.wdtPaused.getD 3 none).isNone = true) ∧ (w33.elapsed (w33.sys.wdtKick.getD 3 0) (w33.fld (Reg.SYS_WDT_CFG 3) 15 0 * 100000) = true))
      ∧ ((w34.sys.phase = Phase.inReset) ∧ (w34.sys.supplyBad = false) ∧ (w34.sys.nresetHeld = false))
      ∧ ((w36.sys.phase = Phase.boot) ∧ (w36.sys.bootHeld = false) ∧ (w36.clk.refGone = false))
      ∧ ((w37.live = true) ∧ (w37.sys.saving = true))
      ∧ ((w38.live = true) ∧ ((w38.entryOpen || w38.mode == State.STANDBY) = true) ∧ (w38.wakeAsserts 2 = true))
      ∧ ((w39.live = true) ∧ ((w39.entryOpen || w39.mode == State.STANDBY) = true) ∧ (w39.wakeAsserts 2 = true))
      ∧ ((w40.live = true) ∧ (w40.sys.waking = some 7))
      ∧ ((w25.sys.phase ≠ Phase.inReset) ∧ (w25.boundaryDue = true))
      ∧ ((w41.awake = true) ∧ (w41.mby.frozen = false) ∧ (w41.reached w41.deadlineNs = true))
      ∧ ((w42.awake = true) ∧ (w42.laneState 7 = 3) ∧ (max (w42.lane 7).since (w42.lane 7).signalAt + 125 ≤ w42.tickNo))
      ∧ ((w43.awake = true) ∧ (w43.laneState 12 = 4))
      ∧ ((w45.awake = true) ∧ (w45.laneState 12 = 5))
      ∧ ((w47.awake = true) ∧ (w47.laneState 7 = 3) ∧ ((w47.lane 7).leftUp = some w47.tickNo))
      ∧ ((w43.awake = true) ∧ (3 ≤ w43.laneState 12) ∧ (2 < 4) ∧ (w43.fld (Reg.LNK_STAT 12) 5 4 ≠ 2))
      ∧ ((w48.awake = true) ∧ (3 ≤ w48.laneState 12) ∧ (3 < 4) ∧ (w48.fld (Reg.LNK_STAT 12) 5 4 ≠ 3))
      ∧ ((w49.awake = true) ∧ (w49.laneUp 0 = true))
      ∧ ((w50.lineChecks 12 = true) ∧ (w50.prbsLocked 12 = false))
      ∧ ((w51.lineChecks 12 = true) ∧ (w51.prbsLocked 12 = true))
      ∧ ((w1.awake = true) ∧ (w1.laneAbsent 12 = false))
      ∧ ((w1.live = true) ∧ (15 < 16))
      ∧ ((w1.awake = true) ∧ (1 < 2))
      ∧ ((w41.chainHears 2 bG.length = true)) := by
  repeat' apply And.intro
  all_goals decide +kernel

/-- The hypotheses of EveryCommandCompletes, clause by clause. -/
theorem test_EveryCommandCompletes_3 :
    ((w41.chainHears 2 tG.length = true))
      ∧ ((w41.awake = true) ∧ (2 < w41.numChains))
      ∧ ((w52.awake = true) ∧ (w52.kneRunning = true) ∧ ((w52.knePhase == 1 || w52.knePhase == 2) = true) ∧ (w52.listOver = true))
      ∧ ((w53.awake = true) ∧ (w53.kneRunning = true) ∧ ((w53.knePhase == 1 || w53.knePhase == 2) = true) ∧ (w53.listOver = true))
      ∧ ((w54.awake = true) ∧ (w54.kneRunning = true) ∧ (w54.knePhase = 3) ∧ (w54.listOver = true))
      ∧ ((w55.awake = true) ∧ (w55.mod.run.isSome = true))
      ∧ ((w56.partnerHears 1 hel.length = true))
      ∧ ((w57.awake = true) ∧ (w57.isFollow = true) ∧ (w57.ptn.copyDone = false) ∧ (w57.ptn.image.isEmpty = false) ∧ (w57.copyOver = true))
      ∧ ((w58.paired = true) ∧ (w58.awake = true) ∧ (w58.samplesDue = true))
      ∧ ((w58.awake = true) ∧ (w58.paired = true) ∧ (w58.isLead = true) ∧ (1 < 2) ∧ (0 < 1024) ∧ (1024 ≤ 1024) ∧ ((1 == 1 && decide (256 + 1024 ≤ 2097152) || 1 == 2 && decide (256 + 1024 ≤ 1744)) = true))
      ∧ ((w58.awake = true) ∧ (w58.paired = true) ∧ (w58.isLead = true) ∧ (0 < 2) ∧ (0 < 1024) ∧ (1024 ≤ 1024) ∧ ((2 == 1 && decide (720 + 1024 ≤ 2097152) || 2 == 2 && decide (720 + 1024 ≤ 1744)) = true))
      ∧ ((w59.awake = true) ∧ (w59.paired = true) ∧ (w59.gvRuns = true) ∧ (w59.mod.run.isNone = true) ∧ (w59.elapsed w59.ptn.gvTick 300 = true) ∧ (w59.elapsed w59.mod.endTick 300 = true))
      ∧ ((w60.awake = true) ∧ (w60.isLead = true) ∧ (w60.partnerInStep = true))
      ∧ ((w61.awake = true) ∧ (w61.isLead = true))
      ∧ ((w62.awake = true) ∧ (1 < 2) ∧ (w62.periodEnds 1 = true))
      ∧ ((w63.awake = true) ∧ (w63.tsrc 1 = 2) ∧ (w63.fld (Reg.PWM_G_CFG 1) 19 16 = 3) ∧ (7 < 32) ∧ (w63.outEdge 3 (32 * w63.tickNo + 7) = true))
      ∧ ((w64.awake = true) ∧ (w64.tsrc 1 = 2) ∧ ((w64.grp 1).run = true) ∧ ((w64.grp 1).synEdge = some 3199000) ∧ (w64.fld (Reg.PWM_G_SYNPER 1) 23 0 ≠ 0) ∧ (3199000 + 2 * w64.fld (Reg.PWM_G_SYNPER 1) 23 0 ≤ 32 * w64.tickNo))
      ∧ ((w65.awake = true) ∧ (w65.flag Reg.PWM_STAT 5 = false))
      ∧ ((w66.awake = true) ∧ (w66.deadTimeOver (↑2) true = true))
      ∧ ((w67.awake = true) ∧ (w67.edgeOpen (↑2) true false = true))
      ∧ ((w69.awake = true) ∧ (w69.edgeOpen (↑2) true true = true))
      ∧ ((w71.awake = true) ∧ (w71.gcmTrips (↑2) true = true))
      ∧ ((w72.awake = true) ∧ (w72.govTrips (↑5) false = true))
      ∧ ((w73.awake = true) ∧ (w73.segUp ↑3 = true))
      ∧ (((w74.sw (↑4) false).soft = true) ∧ (w74.passedNs (w74.sw (↑4) false).offAt (w74.sw (↑4) false).softFor = true))
      ∧ ((w73.awake = true) ∧ (63 % 64 ≠ 0))
      ∧ ((w75.awake = true) ∧ (5 < 8) ∧ (w75.pairedOdd ↑7 = false) ∧ ((!false || w75.pairMode ↑7 == 1 && 7 % 2 == 0) = true) ∧ (w75.outputDue (if false = true then ↑7 + 1 else ↑7) (8 * w75.tickNo + 5) = true))
      ∧ ((w77.awake = true) ∧ (3 < 8) ∧ (w77.pairedOdd ↑6 = false) ∧ ((!true || w77.pairMode ↑6 == 1 && 6 % 2 == 0) = true) ∧ (w77.outputDue (if true = true then ↑6 + 1 else ↑6) (8 * w77.tickNo + 3) = true)) := by
  repeat' apply And.intro
  all_goals decide +kernel

/-- The hypotheses of EveryCommandCompletes, clause by clause. -/
theorem test_EveryCommandCompletes_4 :
    ((w78.awake = true) ∧ (w78.flag Reg.ADC_STAT (16 + ↑7) = true))
      ∧ ((w25.awake = true) ∧ (w25.flag Reg.ADC_STAT (16 + ↑7) = false))
      ∧ ((w79.live = true) ∧ (w79.hk.running = true) ∧ (w79.urgRun = false) ∧ (w79.hkElapsed = true))
      ∧ ((w81.live = true) ∧ (w81.urgRun = true) ∧ (w81.hkElapsed = true))
      ∧ ((w25.awake = true) ∧ (w25.fltClrBad 3253338368 = false))
      ∧ ((w2.island.up = true) ∧ (254 % 256 ≠ 255))
      ∧ ((w2.island.up = true) ∧ (w2.islNow.heartbeatLost = true))
      ∧ ((w82.island.up = true) ∧ (w82.islNow.testReqLong = true))
      ∧ ((w83.island.up = true) ∧ (3 < 4) ∧ (w83.island.discDue 3 = true))
      ∧ ((w84.island.up = true) ∧ (20 ≤ w84.island.fld Reg.SAF_SD_STAT 15 8))
      ∧ ((w85.island.up = true) ∧ (w85.island.second.getLast? = some w86) ∧ (20 ≤ w85.island.since w86.snd.snd.snd.snd))
      ∧ ((w87.island.up = true) ∧ (w87.island.wait = some w88) ∧ (w87.island.allOff = true))
      ∧ ((w89.island.up = true) ∧ (w89.islNow.stepOver 1 = true))
      ∧ ((w90.island.up = true) ∧ ((w90.island.state 0 == 2 || w90.island.state 1 == 2) = true) ∧ (w90.island.instant = false) ∧ (w90.island.fld Reg.SAF_TEST 15 0 = 0))
      ∧ ((w91.island.up = true) ∧ ((w91.island.state 0 == 2 || w91.island.state 1 == 2) = true) ∧ (w91.island.instant = false) ∧ (w91.island.fld Reg.SAF_TEST 15 0 = 0))
      ∧ ((w92.island.up = true) ∧ (w92.islNow.pulseOver = true))
      ∧ ((w25.island.up = false))
      ∧ ((w2.sys.phase ≠ Phase.inReset) ∧ (w2.island.up = true))
      ∧ ((w25.live = true) ∧ (w25.sys.mirrorTick + 625000 ≤ w25.tickNo))
      ∧ ((31 < 32))
      ∧ ((w93.awake = true) ∧ (w93.xtDue = true))
      ∧ ((w94.live = true) ∧ (w94.flag Reg.CLK_STAT 0 = true) ∧ (w94.elapsed w94.clk.lossTick (w94.fld Reg.CLK_MON_CFG 7 0 * 1000000) = true))
      ∧ ((w95.live = true) ∧ (w95.pllSettles true = true))
      ∧ ((w95.live = true) ∧ (w95.pllSettles false = true))
      ∧ ((w25.live = true) ∧ ((!w25.clk.sysHold || false && !w25.clk.relocking) = true))
      ∧ ((w96.live = true) ∧ ((!w96.clk.sysHold || true && !w96.clk.relocking) = true))
      ∧ ((w97.live = true) ∧ (w97.synHold = true) ∧ (w97.clk.reacq = false) ∧ (w97.flag Reg.CLK_STAT 0 = false) ∧ (w97.clk.sysHold = false))
      ∧ ((w25.live = true) ∧ (31 < 32)) := by
  repeat' apply And.intro
  all_goals decide +kernel

/-- The hypotheses of EveryCommandCompletes, clause by clause. -/
theorem test_EveryCommandCompletes_5 :
    ((w98.live = true) ∧ (w98.riseDue ↑2 = true))
      ∧ ((w99.live = true) ∧ (w99.servoDue = true))
      ∧ ((w100.live = true) ∧ (w100.cmpDue ↑3 = true))
      ∧ ((w101.ethOn ↑1 = true) ∧ (w101.linkUp ↑1 = true))
      ∧ ((w103.ethOn ↑0 = true) ∧ (w103.ethLeft ↑0 = true) ∧ ((w103.ethSt ↑0).cur = some w104))
      ∧ ((w105.ethOn ↑1 = true) ∧ (w105.linkUp ↑1 = false))
      ∧ ((w107.live = true) ∧ (w107.linkUp ↑1 = true))
      ∧ ((w108.canHears (↑1) true 3 = true))
      ∧ ((w109.canOnBus ↑1 = true) ∧ (w109.frameRan ↑1 = true))
      ∧ ((w110.canOnBus ↑1 = true) ∧ (w110.canJoined (↑1) (32 * (w110.tickNo + 1)) = true) ∧ (6 ≤ 6) ∧ (w110.isoSteps (↑1) 6 0 1 = true))
      ∧ ((w111.live = true) ∧ (w111.recoverDue ↑1 = true))
      ∧ ((w112.live = true) ∧ (63 < 64))
      ∧ ((w113.live = true) ∧ (w113.columnDue ↑0 = true))
      ∧ ((w114.awake = true) ∧ (w114.coreFree ↑2 = true) ∧ (3 = 0 ∨ 3 = 3) ∧ (w114.icuDeliver (↑2) (bitAt (BitVec.toNat (w114.entryCtx (↑2) 256 8 3).snd.fst) 3) = some (5, 7)))
      ∧ ((w115.awake = true) ∧ (w115.coreFree ↑2 = true) ∧ (0 = 0 ∨ 0 = 3) ∧ (w115.icuDeliver (↑2) (bitAt (BitVec.toNat (w115.entryCtx (↑2) 256 0 0).snd.fst) 3) = some (319, 7)))
      ∧ ((w116.awake = true) ∧ (w116.coreRuns ↑2 = true) ∧ (w116.coreFree ↑2 = true))
      ∧ ((w117.awake = true) ∧ (w117.wakeWaits ↑2 = true))
      ∧ ((w116.awake = true) ∧ ((w116.coreSt ↑2).released = true) ∧ ((w116.coreSt ↑2).stopped = false))
      ∧ ((w118.awake = true) ∧ (1 ≤ 3) ∧ (3 ≤ 4) ∧ (w118.haltOk (↑2) 3 = true))
      ∧ ((w119.awake = true) ∧ (1 ≤ 1) ∧ (1 ≤ 4) ∧ (w119.haltOk (↑2) 1 = true))
      ∧ ((w120.live = true) ∧ ((w120.coreSt ↑2).halted = true))
      ∧ ((w43.codesHeard 12 = true))
      ∧ ((w45.codesHeard 12 = true))
      ∧ ((w121.live = true) ∧ (w121.tru.verifying = true))
      ∧ ((w122.sys.phase = Phase.boot) ∧ (w122.sys.bootHeld = true))
      ∧ ((w124.awake = true) ∧ (w124.paired = true) ∧ (w124.ptn.gvHeld = true) ∧ (w124.elapsed w124.ptn.gvTick 1500 = true))
      ∧ ((w62.awake = true) ∧ ((w62.grp (hbGroup ↑5)).run = true) ∧ ((w62.grp (hbGroup ↑5)).waiting = false) ∧ (w62.hbSrc ↑5 = false) ∧ (w62.direct ↑5 = false) ∧ (5000 < w62.periodOf (hbGroup ↑5)) ∧ ((w62.grp (hbGroup ↑5)).start + 5000 < 32 * (w62.tickNo + 1)))
      ∧ ((w125.awake = true) ∧ ((w125.sw (↑4) false).on = false) ∧ ((w125.sw (↑4) false).low = false) ∧ (w125.passedNs (w125.sw (↑4) false).offAt 20 = true)) := by
  repeat' apply And.intro
  all_goals decide +kernel

/-- The hypotheses of EveryCommandCompletes, clause by clause. -/
theorem test_EveryCommandCompletes_6 :
    ((w25.live = true) ∧ (w25.segUp ↑4 = false))
      ∧ ((w73.live = true) ∧ (w73.flag (Reg.GDR_HB_STAT ↑4) (if true = true then 6 else 7) = false))
      ∧ ((w126.live = true) ∧ (w126.flag Reg.PWM_STAT 5 = true))
      ∧ ((w127.live = true) ∧ (w127.canMaySend ↑1 = true) ∧ (31 < 32))
      ∧ ((w36.sys.phase ≠ Phase.inReset))
      ∧ ((w128.live = false) ∧ (w128.clk.refGone = true))
      ∧ ((w129.live = true) ∧ (w129.linkUp ↑1 = false) ∧ (w129.flag (Reg.ETH_STAT ↑1) 1 = true)) := by
  repeat' apply And.intro
  all_goals decide +kernel
end TP

end Sys2Proof.Tests
end
end

section
/-!
SUPPORT. Bits, fields and masks of numbers: which bits bitAt, fieldOf, putField and maskOf give.
-/
namespace Sys2Proof.Machine

/-! ## Bits and fields -/

theorem bitAt_eq_testBit (n i : Nat) : bitAt n i = n.testBit i := by
  rw [Nat.testBit_eq_decide_div_mod_eq]
  rfl

theorem testBit_fieldOf (n hi lo i : Nat) : (fieldOf n hi lo).testBit i = (decide (i < hi + 1 - lo) && n.testBit (lo + i)) := by
  simp [fieldOf, Nat.testBit_mod_two_pow, Nat.testBit_div_two_pow, Nat.add_comm]

/-- The bits of a number one field of which has been replaced. -/
theorem testBit_putField (n hi lo x i : Nat) (h : lo ≤ hi) :
    (putField n hi lo x).testBit i = if lo ≤ i ∧ i ≤ hi then x.testBit (i - lo) else n.testBit i := by
  have hlow : n % 2 ^ lo < 2 ^ lo := Nat.mod_lt _ (Nat.two_pow_pos _)
  have hw : 2 ^ (hi + 1) = 2 ^ lo * 2 ^ (hi + 1 - lo) := by rw [← Nat.pow_add]; congr 1; omega
  have hmid : 2 ^ lo * (x % 2 ^ (hi + 1 - lo)) + n % 2 ^ lo < 2 ^ (hi + 1) := by
    have := Nat.mod_lt x (Nat.two_pow_pos (hi + 1 - lo))
    rw [hw]
    calc 2 ^ lo * (x % 2 ^ (hi + 1 - lo)) + n % 2 ^ lo < 2 ^ lo * (x % 2 ^ (hi + 1 - lo) + 1) := by rw [Nat.mul_add]; omega
      _ ≤ _ := Nat.mul_le_mul_left _ this
  have e : putField n hi lo x = 2 ^ (hi + 1) * (n / 2 ^ (hi + 1)) + (2 ^ lo * (x % 2 ^ (hi + 1 - lo)) + n % 2 ^ lo) := by
    simp only [putField, Nat.mul_comm (2 ^ _)]; omega
  rw [e, Nat.testBit_two_pow_mul_add _ hmid, Nat.testBit_two_pow_mul_add _ hlow]
  split
  · split
    · rw [if_neg (by omega), Nat.testBit_mod_two_pow, decide_eq_true (by omega), Bool.true_and]
    · rw [if_pos (by omega), Nat.testBit_mod_two_pow, decide_eq_true (by omega), Bool.true_and]
  · rw [if_neg (by omega), Nat.testBit_div_two_pow]; congr 1; omega

theorem putField_lt (n hi lo x : Nat) (h : lo ≤ hi) (hh : hi < 32) (hn : n < 2 ^ 32) : putField n hi lo x < 2 ^ 32 := by
  apply Nat.lt_pow_two_of_testBit
  intro i hi32
  rw [testBit_putField _ _ _ _ _ h, if_neg (by omega)]
  exact Nat.testBit_lt_two_pow (Nat.lt_of_lt_of_le hn (Nat.pow_le_pow_right (by omega) hi32))

theorem fieldOf_putField_same (n hi lo x : Nat) (h : lo ≤ hi) : fieldOf (putField n hi lo x) hi lo = x % 2 ^ (hi + 1 - lo) := by
  apply Nat.eq_of_testBit_eq
  intro i
  rw [testBit_fieldOf, testBit_putField _ _ _ _ _ h, Nat.testBit_mod_two_pow]
  by_cases hi : i < hi + 1 - lo
  · rw [if_pos (by omega), Nat.add_sub_cancel_left]
  · simp [hi]

/-- A field keeps its value when another one is replaced. -/
theorem fieldOf_putField_other (n hi lo x hi2 lo2 : Nat) (h : lo ≤ hi) (hd : hi2 < lo ∨ hi < lo2) :
    fieldOf (putField n hi lo x) hi2 lo2 = fieldOf n hi2 lo2 := by
  apply Nat.eq_of_testBit_eq
  intro i
  rw [testBit_fieldOf, testBit_putField _ _ _ _ _ h, testBit_fieldOf]
  by_cases hi : i < hi2 + 1 - lo2
  · rw [if_neg (by omega)]
  · simp [hi]

theorem bitAt_putField_same (n i x : Nat) : bitAt (putField n i i x) i = x.testBit 0 := by
  rw [bitAt_eq_testBit, testBit_putField _ _ _ _ _ (Nat.le_refl i), if_pos ⟨Nat.le_refl i, Nat.le_refl i⟩, Nat.sub_self]

theorem bitAt_putField_other (n hi lo x i : Nat) (h : lo ≤ hi) (hd : i < lo ∨ hi < i) : bitAt (putField n hi lo x) i = bitAt n i := by
  rw [bitAt_eq_testBit, testBit_putField _ _ _ _ _ h, if_neg (by omega), bitAt_eq_testBit]

theorem maskOf_succ (w : Nat) (p : Nat → Bool) : maskOf (w + 1) p = maskOf w p + if p w then 2 ^ w else 0 := by
  simp only [maskOf, List.range_succ, List.foldl_append, List.foldl_cons, List.foldl_nil]
  split <;> simp

theorem maskOf_lt (w : Nat) (p : Nat → Bool) : maskOf w p < 2 ^ w := by
  induction w with
  | zero => simp [maskOf]
  | succ w ih => rw [maskOf_succ, Nat.pow_succ]; split <;> omega

/-- The bits of maskOf are those that the predicate names. -/
theorem bitAt_maskOf (w : Nat) (p : Nat → Bool) (i : Nat) : bitAt (maskOf w p) i = (decide (i < w) && p i) := by
  rw [bitAt_eq_testBit]
  induction w with
  | zero => simp [maskOf]
  | succ w ih =>
    have e : maskOf (w + 1) p = 2 ^ w * b2n (p w) + maskOf w p := by
      rw [maskOf_succ, Nat.add_comm]; cases p w <;> simp [b2n]
    rw [e, Nat.testBit_two_pow_mul_add _ (maskOf_lt w p)]
    split
    · rw [ih, decide_eq_true (by omega), decide_eq_true (by omega)]
    · by_cases h : i = w
      · subst h; cases p i <;> simp [b2n]
      · have : i - w ≠ 0 := by omega
        have h1 : (b2n (p w)).testBit (i - w) = false := by
          apply Nat.testBit_lt_two_pow
          exact Nat.lt_of_lt_of_le (by cases p w <;> simp [b2n]) (Nat.pow_le_pow_right (by omega) (Nat.one_le_iff_ne_zero.2 this))
        rw [h1, decide_eq_false (by omega), Bool.false_and]

theorem bitAt_maskAnd (a b i : Nat) : bitAt (maskAnd a b) i = (decide (i < 32) && (bitAt a i && bitAt b i)) := bitAt_maskOf _ _ _

theorem bitAt_maskWithout (a b i : Nat) : bitAt (maskWithout a b) i = (decide (i < 32) && (bitAt a i && !bitAt b i)) := bitAt_maskOf _ _ _

theorem bitAt_toNat (v : Word) (i : Nat) : bitAt v.toNat i = v.getLsbD i := bitAt_eq_testBit _ _

end Sys2Proof.Machine
end

section
/-!
SUPPORT. Fields of registers after writes, what an effect keeps, and a register write as a command: where its effect raised no fault,
the command ends as its effect left the module.
-/
namespace Sys2Proof.Machine
namespace State

/-! ## Fields of registers -/

theorem getN_lt (s : State) (a : Nat) : s.getN a < 2 ^ 32 := (s.get a).isLt

theorem getN_congr {s t : State} {a : Nat} (h : t.get a = s.get a) : t.getN a = s.getN a := by rw [getN, getN, h]

theorem fld_congr {s t : State} {a : Nat} (h : t.get a = s.get a) (hi lo : Nat) : t.fld a hi lo = s.fld a hi lo := by
  rw [fld, fld, getN_congr h]

theorem flag_congr {s t : State} {a : Nat} (h : t.get a = s.get a) (i : Nat) : t.flag a i = s.flag a i := by
  rw [flag, flag, getN_congr h]

theorem getN_setFld_same (s : State) (a hi lo n : Nat) (h : lo ≤ hi) (hh : hi < 32) : (s.setFld a hi lo n).getN a = putField (s.getN a) hi lo n := by
  rw [setFld, getN_putN_same, Nat.mod_eq_of_lt (putField_lt _ _ _ _ h hh (s.getN_lt a))]

theorem fld_setFld_same (s : State) (a hi lo n : Nat) (h : lo ≤ hi) (hh : hi < 32) : (s.setFld a hi lo n).fld a hi lo = n % 2 ^ (hi + 1 - lo) := by
  rw [fld, getN_setFld_same _ _ _ _ _ h hh, fieldOf_putField_same _ _ _ _ h]

theorem fld_setFld_other (s : State) (a hi lo n hi2 lo2 : Nat) (h : lo ≤ hi) (hh : hi < 32) (hd : hi2 < lo ∨ hi < lo2) :
    (s.setFld a hi lo n).fld a hi2 lo2 = s.fld a hi2 lo2 := by
  rw [fld, getN_setFld_same _ _ _ _ _ h hh, fieldOf_putField_other _ _ _ _ _ _ h hd, fld]

theorem flag_setFld_other (s : State) (a hi lo n i : Nat) (h : lo ≤ hi) (hh : hi < 32) (hd : i < lo ∨ hi < i) :
    (s.setFld a hi lo n).flag a i = s.flag a i := by
  rw [flag, getN_setFld_same _ _ _ _ _ h hh, bitAt_putField_other _ _ _ _ _ h hd, flag]

theorem flag_setFlag_same (s : State) (a i : Nat) (b : Bool) (hi : i < 32) : (s.setFlag a i b).flag a i = b := by
  rw [setFlag, flag, getN_setFld_same _ _ _ _ _ (Nat.le_refl i) hi, bitAt_putField_same]
  cases b <;> rfl

theorem fld_setFlag_other (s : State) (a i : Nat) (b : Bool) (hi2 lo2 : Nat) (hi : i < 32) (hd : hi2 < i ∨ i < lo2) :
    (s.setFlag a i b).fld a hi2 lo2 = s.fld a hi2 lo2 := fld_setFld_other _ _ _ _ _ _ _ (Nat.le_refl i) hi hd

/-- A sticky bit reads 1 once its event has set it (R12). -/
theorem flag_stick_same (s : State) (a i : Nat) (hi : i < 32) : (s.stick a i).flag a i = true := flag_setFlag_same s a i true hi

theorem fld_stick_other (s : State) (a i hi lo : Nat) (h : i < 32) (hd : hi < i ∨ i < lo) : (s.stick a i).fld a hi lo = s.fld a hi lo :=
  fld_setFlag_other s a i true hi lo h hd

/-- One more in a 16-bit saturating counter field. -/
theorem fld_incFld_same (s : State) (a hi lo : Nat) (h : lo ≤ hi) (hh : hi < 32) :
    (s.incFld a hi lo).fld a hi lo = min (s.fld a hi lo + 1) (2 ^ (hi + 1 - lo) - 1) := by
  have hp : 0 < 2 ^ (hi + 1 - lo) := Nat.two_pow_pos _
  have hlt : s.fld a hi lo < 2 ^ (hi + 1 - lo) := Nat.mod_lt _ hp
  rw [incFld, fld_setFld_same _ _ _ _ _ h hh, satInc]
  generalize 2 ^ (hi + 1 - lo) = p at *
  split
  · rw [Nat.mod_eq_of_lt (by omega)]; omega
  · rw [Nat.mod_eq_of_lt (by omega)]; omega

/-! ## What a command may change -/

theorem Keeps.refl (s : State) (as : List Nat) : s.Keeps s as := ⟨fun _ _ => rfl, fun _ => rfl, fun _ => rfl⟩

theorem Keeps.trans {s t u : State} {as : List Nat} (h : s.Keeps t as) (h2 : t.Keeps u as) : s.Keeps u as := by
  obtain ⟨hr, ha, hm⟩ := h
  obtain ⟨hr2, ha2, hm2⟩ := h2
  exact ⟨fun a n => (hr2 a n).trans (hr a n), fun a => (ha2 a).trans (ha a), fun a => (hm2 a).trans (hm a)⟩

theorem KeepsRegs.trans {s t u : State} {as bs : List Nat} (h : s.KeepsRegs t as) (h2 : t.KeepsRegs u bs) : s.KeepsRegs u (as ++ bs) := by
  intro a ha
  rw [List.mem_append, not_or] at ha
  exact (h2 a ha.2).trans (h a ha.1)

theorem keeps_put (s : State) (a : Nat) (v : Word) (as : List Nat) (h : a ∈ as) : s.Keeps (s.put a v) as :=
  ⟨fun _ hb => get_put_ne _ _ _ _ (fun e => hb (e ▸ h)), fun _ => rfl, fun _ => rfl⟩

theorem keeps_setFld (s : State) (a hi lo n : Nat) (as : List Nat) (h : a ∈ as) : s.Keeps (s.setFld a hi lo n) as := keeps_put s a _ as h

theorem keeps_incFld (s : State) (a hi lo : Nat) (as : List Nat) (h : a ∈ as) : s.Keeps (s.incFld a hi lo) as := keeps_put s a _ as h

theorem keeps_setFlag (s : State) (a i : Nat) (b : Bool) (as : List Nat) (h : a ∈ as) : s.Keeps (s.setFlag a i b) as := keeps_put s a _ as h

theorem keeps_stick (s : State) (a i : Nat) (as : List Nat) (h : a ∈ as) : s.Keeps (s.stick a i) as := keeps_put s a _ as h

/-! ## The end of a command that raised no fault -/

section
variable {s u : State}

/-- Where the effect changed neither the fault queue nor its registers, every register reads after the command as the effect left it. -/
theorem ended_get_of_keeps {as : List Nat} (hs : s.FltOk) (hf : u.flt = s.flt) (hk : s.KeepsRegs u as) (hq : ∀ a ∈ as, ¬ queueReg a) (a : Nat) :
    (s.ended u).get a = u.get a :=
  ended_get_all s u hs hf (fun b hb => hk b (fun h => hq b h hb)) a

theorem todo_eq_nil (hs : s.FltOk) (hf : u.flt = s.flt) : u.flt.todo = [] := by rw [hf]; exact hs.1

theorem ended_act (h : u.flt.todo = []) (a : Nat) : (s.ended u).act a = u.act a := by
  obtain ⟨r, q, y, p, e⟩ := ended_eq s u h
  rw [e]; rfl

theorem ended_mem (h : u.flt.todo = []) : (s.ended u).mem = u.mem := by
  obtain ⟨r, q, y, p, e⟩ := ended_eq s u h
  rw [e]

theorem ended_tru (h : u.flt.todo = []) : (s.ended u).tru = u.tru := by
  obtain ⟨r, q, y, p, e⟩ := ended_eq s u h
  rw [e]

theorem ended_cores (h : u.flt.todo = []) : (s.ended u).cores = u.cores := by
  obtain ⟨r, q, y, p, e⟩ := ended_eq s u h
  rw [e]

/-- What the effect keeps, the command keeps. -/
theorem ended_keeps {as : List Nat} (hs : s.FltOk) (hf : u.flt = s.flt) (hk : s.Keeps u as) (hq : ∀ a ∈ as, ¬ queueReg a) :
    s.Keeps (s.ended u) as := by
  obtain ⟨hr, ha, hm⟩ := hk
  have ht := todo_eq_nil hs hf
  refine ⟨fun a h => (ended_get_of_keeps hs hf hr hq a).trans (hr a h), fun a => (ended_act ht a).trans (ha a), fun a => ?_⟩
  rw [byteAt, ended_mem ht]
  exact hm a

end
end State

/-! ## A write as a command -/

/-- A write of a module that runs answers the end of its effect. -/
theorem exec_registerWrite (src : Src) (a width : Nat) (v : Word) {s : State} (h : s.live = true) :
    exec (.registerWrite src a width v) s = .next (s.ended (s.write src a width v)) := by
  have e : exec (.registerWrite src a width v) s = execRegisterWrite src a width v s := rfl
  rw [e, execRegisterWrite]
  exact event_ok (ok := fun s => s.live) (f := fun s => s.write src a width v) h

/-- A write completes with what holds at the end of its effect. -/
theorem completes_write {src : Src} {a width : Nat} {v : Word} {s u : State} {P : State → Prop} (h : s.live = true)
    (hw : s.write src a width v = u) (hP : P (s.ended u)) : Completes (.registerWrite src a width v) s P :=
  ⟨s.ended u, by rw [exec_registerWrite src a width v h, hw], hP⟩

theorem awake_iff (s : State) : s.awake = true ↔ s.live = true ∧ s.mode ≠ State.STANDBY := by
  simp [State.awake]

theorem State.Awake.runs {s : State} (h : s.Awake) : s.Runs := ⟨((awake_iff s).1 h.1).1, h.2⟩

theorem State.Awake.mode_ne {s : State} (h : s.Awake) : s.mode ≠ State.STANDBY := ((awake_iff s).1 h.1).2

end Sys2Proof.Machine
end

section
/-!
SUPPORT. The state of reset, the control rows, and what a write's address decides: which block, window or refusal it comes to (R10, R38, R39, R69).
-/
namespace Sys2Proof.Machine

/-! ## Reset -/

/-- Nothing has written a register at reset: each reads the reset value of its table. -/
theorem State.get_reset (a : Nat) : State.reset.get a = resetOf a :=
  if_neg (fun h => Variant.noConfusion h.2)

theorem State.getN_reset (a : Nat) : State.reset.getN a = (resetOf a).toNat := by rw [State.getN, State.get_reset]

theorem State.mode_reset : State.reset.mode = State.SAFE := by
  rw [State.mode, State.fld, State.getN_reset]
  decide

/-- Settles O25: the registers by State.get_reset, the rest is what State.reset is made of. -/
theorem resetState : Obligations.ResetState := by
  unfold Obligations.ResetState
  have hcause : State.reset.getN Reg.SYS_RESET_CAUSE = 1 := by rw [State.getN_reset]; decide
  have hperm : State.reset.getN Reg.SYS_MODE_PERM = 7 := by rw [State.getN_reset]; decide
  exact ⟨rfl, State.mode_reset, hcause, hperm, State.get_reset, rfl, rfl, rfl, fun _ _ => rfl, fun _ _ _ => rfl⟩

/-! ## Control rows -/

/-- INJ of a lane that the part numbers is the write of its LNK_INJ. -/
theorem exec_lnkInj (src : Src) (n : Nat) (s : State) (h : n < 16) : exec (.lnkInj src n) s = exec (.registerWrite src (Reg.LNK_INJ n) 4 1) s := by
  have e : exec (.lnkInj src n) s = event (fun s => s.live && decide (n < 16)) (fun s => s.write src (Reg.LNK_INJ n) 4 1) s := rfl
  rw [e, decide_eq_true h]
  simp only [Bool.and_true]
  rfl

/-- Settles O14: but for LNK_INJ, whose row names a lane, a control row's meaning is by definition the event of the write. -/
theorem controlRowsAreWrites : Obligations.ControlRowsAreWrites := by
  unfold Obligations.ControlRowsAreWrites
  intro src v s same
  exact ⟨fun n hn => exec_lnkInj src n s hn, rfl, fun _ => ⟨rfl, rfl, rfl, rfl⟩, rfl, fun _ => rfl, rfl, rfl, rfl, rfl, rfl, rfl, rfl, rfl,
    rfl, rfl, rfl, rfl, rfl, rfl, rfl, rfl, rfl, rfl, fun _ => ⟨rfl, rfl, rfl, rfl, rfl, rfl, rfl⟩, rfl, rfl, rfl⟩

/-! ## Which write an address gets -/

theorem inArray_none {base stride n a : Nat} (h : a < base ∨ base + stride * n ≤ a) : inArray base stride n a = none :=
  if_neg (by omega)

theorem canRamAt_none {a : Nat} (h : a < 0xB8000 ∨ 0xBC000 ≤ a) : State.canRamAt a = none := by
  rw [State.canRamAt, inArray_none (by omega)]

namespace State
variable {s : State} {src : Src} {a : Nat} {v : Word}

/-- A sender that can write writes an aligned word. -/
theorem write_eq_writeAt (hs : s.Sends src) (ha : a % 4 = 0) (v : Word) : s.write src a 4 v = s.writeAt src a 4 v := by
  cases src with
  | hpi => rfl
  | core n =>
    have hw : s.coreWrites n = true := hs
    simp [write, hw, ha]

/-- A core that may not write changes nothing (R64, R477, R480). -/
theorem write_eq_self {n : Fin 4} (h : s.coreWrites n = false) (a width : Nat) (v : Word) : s.write (.core n) a width v = s := by
  simp [write, h]

/-- The word address and the value of an aligned word write are those given. -/
theorem word_access (ha : a % 4 = 0) (v : Word) : a / 4 * 4 = a ∧ v.toNat % 2 ^ (8 * 4) = v.toNat :=
  ⟨by omega, Nat.mod_eq_of_lt v.isLt⟩

theorem writeAt_block (ha : a % 4 = 0) (h : a < 0xD8000) (hc : canRamAt a = none) : s.writeAt src a 4 v = s.writeBlock src a v.toNat := by
  obtain ⟨ha4, hv⟩ := word_access ha v
  cases src <;> simp only [writeAt, ite_self, ha4, hv, if_pos h, hc] <;> rfl

theorem writeAt_bank (ha : a % 4 = 0) {b : Nat} (hb : b < 2) (h : bankBase b ≤ a) (h2 : a < bankBase b + 0x200000) :
    s.writeAt src a 4 v = s.writeBank src b a 4 v.toNat := by
  obtain ⟨ha4, hv⟩ := word_access ha v
  simp only [bankBase] at h h2
  have hreg : ¬ a < 0xD8000 := by omega
  rcases (by omega : b = 0 ∨ b = 1) with rfl | rfl
  · have h0 : 0x00100000 ≤ a ∧ a < 0x00300000 := by omega
    cases src <;> simp only [writeAt, ite_self, ha4, hv, if_neg hreg, if_pos h0]
  · have h0 : ¬ (0x00100000 ≤ a ∧ a < 0x00300000) := by omega
    have h1 : 0x00300000 ≤ a ∧ a < 0x00500000 := by omega
    cases src <;> simp only [writeAt, ite_self, ha4, hv, if_neg hreg, if_neg h0, if_pos h1]

theorem writeAt_recorder (ha : a % 4 = 0) (h : 0x00500000 ≤ a) (h2 : a < 0x00B00000) : s.writeAt src a 4 v = s.werr (srcCode src) 4 a := by
  obtain ⟨ha4, hv⟩ := word_access ha v
  have hreg : ¬ a < 0xD8000 := by omega
  have h0 : ¬ (0x00100000 ≤ a ∧ a < 0x00300000) := by omega
  have h1 : ¬ (0x00300000 ≤ a ∧ a < 0x00500000) := by omega
  have h3 : 0x00500000 ≤ a ∧ a < 0x00B00000 := ⟨h, h2⟩
  cases src <;> simp only [writeAt, ite_self, ha4, hv, if_neg hreg, if_neg h0, if_neg h1, if_pos h3]

/-- Outside the map of R35, the TCM window of a core aside. -/
def unmapped (a : Nat) : Prop :=
  (0xD8000 ≤ a ∧ a < 0x00100000) ∨ (0x00B00000 ≤ a ∧ a < 0x01000000) ∨ (0x01800000 ≤ a ∧ a < 0x02000000) ∨ 0x02400000 ≤ a

theorem writeAt_unmapped (ha : a % 4 = 0) (h : unmapped a) (ht : ∀ n, src = .core n → ¬ (0x80000000 ≤ a ∧ a < 0x80040000)) :
    s.writeAt src a 4 v = match src with | .hpi => s.werr 0 6 a | .core c => s.coreTrap c.val 7 := by
  obtain ⟨ha4, hv⟩ := word_access ha v
  simp only [unmapped] at h
  have hreg : ¬ a < 0xD8000 := by omega
  have h0 : ¬ (0x00100000 ≤ a ∧ a < 0x00300000) := by omega
  have h1 : ¬ (0x00300000 ≤ a ∧ a < 0x00500000) := by omega
  have h2 : ¬ (0x00500000 ≤ a ∧ a < 0x00B00000) := by omega
  have h3 : ¬ (0x01000000 ≤ a ∧ a < 0x01800000) := by omega
  have h4 : ¬ inShared a = true := by simp only [inShared, Bool.and_eq_true, decide_eq_true_eq]; omega
  cases src with
  | hpi => simp only [writeAt, ha4, if_neg hreg, if_neg h0, if_neg h1, if_neg h2, if_neg h3, if_neg h4]
  | core c =>
    simp only [writeAt, ite_self, ha4, if_neg hreg, if_neg h0, if_neg h1, if_neg h2, if_neg h3, if_neg h4, if_neg (ht c rfl), busError]

/-! ## What a write to a block's range does -/

theorem writeBlock_mirror {x : Nat} (h : 0x90000 ≤ a) (h2 : a < 0x98000) : s.writeBlock src a x = s.werr (srcCode src) 5 a :=
  if_pos ⟨h, h2⟩

/-- The address is the header of a lane that the part lacks (R2). -/
def absentHead (s : State) (a : Nat) : Prop := 0x30000 ≤ a ∧ a < 0x38000 ∧ a % 0x800 = 0 ∧ s.laneAbsent ((a - 0x30000) / 0x800) = true

theorem instanceOk_of_regAt {d : RegDesc} (h : s.regAt a = some d) : s.instanceOk a = true ∧ regDesc? a = some d := by
  unfold regAt at h
  split at h
  · exact ⟨by assumption, h⟩
  · cases h

/-- Where the part has no register, an address that is no absent lane's header is refused with KIND 2. -/
theorem writeBlock_noReg {x : Nat} (hm : ¬ (0x90000 ≤ a ∧ a < 0x98000)) (h : s.regAt a = none) (hh : ¬ s.absentHead a) :
    s.writeBlock src a x = s.werr (srcCode src) 2 a := by
  rw [writeBlock, if_neg hm]
  cases hd : regDesc? a with
  | none => rfl
  | some d =>
    have hi : s.instanceOk a = false := by
      cases hc : s.instanceOk a with
      | false => rfl
      | true =>
        rw [regAt, if_pos hc, hd] at h
        cases h
    have hk : ¬ (decide (0x30000 ≤ a) && decide (a < 0x38000) && a % 0x800 == 0) = true := by
      intro hc
      simp only [Bool.and_eq_true, decide_eq_true_eq, beq_iff_eq] at hc
      obtain ⟨⟨hlo, hhi⟩, hz⟩ := hc
      rw [instanceOk, if_pos ⟨hlo, hhi⟩, Bool.not_eq_false'] at hi
      exact hh ⟨hlo, hhi, hz, hi⟩
    simp only [hi, if_neg hk, Bool.not_false, if_true]

/-- Every lane that a part can lack has a row for its header. -/
theorem regDesc_header {n : Nat} (h : n < 16) : ∃ d, regDesc? (0x30000 + n * 0x800) = some d := by
  have key : ∀ n < 16, (regDesc? (0x30000 + n * 0x800)).isSome = true := by decide +kernel
  exact Option.isSome_iff_exists.1 (key n h)

theorem writeBlock_absentHead {x : Nat} (h : s.absentHead a) : s.writeBlock src a x = s.werr (srcCode src) 7 a := by
  obtain ⟨hlo, hhi, hz, habs⟩ := h
  obtain ⟨d, hd⟩ := regDesc_header (n := (a - 0x30000) / 0x800) (by omega)
  have ha : 0x30000 + (a - 0x30000) / 0x800 * 0x800 = a := by omega
  rw [ha] at hd
  have hi : s.instanceOk a = false := by rw [instanceOk, if_pos ⟨hlo, hhi⟩, habs]; rfl
  rw [writeBlock, if_neg (by omega), hd]
  simp [hi, hlo, hhi, hz]

section
variable {d : RegDesc} {x : Nat} (hm : ¬ (0x90000 ≤ a ∧ a < 0x98000)) (hd : s.regAt a = some d)
include hm hd

theorem writeBlock_ro (hro : d.acc = .ro) : s.writeBlock src a x = s.werr (srcCode src) 7 a := by
  obtain ⟨hi, hr⟩ := instanceOk_of_regAt hd
  simp [writeBlock, hm, hr, hi, hro]

/-- The HPI writes a free register directly. -/
theorem writeBlock_free (hro : d.acc ≠ .ro) (hf : freeWrite d a x = true) : s.writeBlock .hpi a x = s.directReg d 0 a x := by
  obtain ⟨hi, hr⟩ := instanceOk_of_regAt hd
  simp [writeBlock, hm, hr, hi, hro, hf]

/-- What the HPI writes elsewhere lands in its stage. -/
theorem writeBlock_stage (hro : d.acc ≠ .ro) (hf : freeWrite d a x = false) (hc : a ≠ Reg.ICU_CTRL) :
    s.writeBlock .hpi a x = s.stageReg 0 a (BitVec.ofNat 32 (maskAnd x d.mask)) := by
  obtain ⟨hi, hr⟩ := instanceOk_of_regAt hd
  simp [writeBlock, hm, hr, hi, hro, hf, hc]

theorem writeBlock_rws (n : Fin 4) (hs : d.acc = .rws) :
    s.writeBlock (.core n) a x = s.stageReg (n.val + 1) a (BitVec.ofNat 32 (maskAnd x d.mask)) := by
  obtain ⟨hi, hr⟩ := instanceOk_of_regAt hd
  simp [writeBlock, hm, hr, hi, hs]

theorem writeBlock_core (n : Fin 4) (hro : d.acc ≠ .ro) (hs : d.acc ≠ .rws) : s.writeBlock (.core n) a x = s.directReg d (n.val + 1) a x := by
  obtain ⟨hi, hr⟩ := instanceOk_of_regAt hd
  simp [writeBlock, hm, hr, hi, hro, hs]

end

/-- A bank that is active or locked is not written (R39, R98). -/
theorem writeBank_refused {b n x : Nat} (h : s.activeBank = b ∨ ∃ y, s.tru.bank = some y ∧ y.bank = b) :
    s.writeBank src b a n x = s.werr (srcCode src) 3 a := by
  refine if_pos (h.imp_right ?_)
  rintro ⟨y, hy, rfl⟩
  simp [hy]

/-! ## SYS_WERR -/

theorem werr_flt (s : State) (k kind addr : Nat) : (s.werr k kind addr).flt = s.flt :=
  (putN_flt _ _ _).trans ((incFld_flt _ _ _ _).trans ((setFld_flt _ _ _ _ _).trans ((setFld_flt _ _ _ _ _).trans (stick_flt _ _ _))))

theorem keeps_werr (s : State) (k kind addr : Nat) : s.Keeps (s.werr k kind addr) [Reg.SYS_WERR, Reg.SYS_WERR_ADDR] := by
  have hs := keeps_stick s Reg.SYS_WERR 31 [Reg.SYS_WERR, Reg.SYS_WERR_ADDR] (by simp)
  refine hs.trans ?_
  refine (keeps_setFld _ Reg.SYS_WERR 30 28 k _ (by simp)).trans ?_
  refine (keeps_setFld _ Reg.SYS_WERR 27 24 kind _ (by simp)).trans ?_
  exact (keeps_incFld _ Reg.SYS_WERR 15 0 _ (by simp)).trans (keeps_put _ Reg.SYS_WERR_ADDR _ _ (by simp))

/-- What SYS_WERR shows of a refused write (R69). -/
theorem refused_werr (s : State) {k kind addr : Nat} (hk : k < 8) (hkind : kind < 16) (ha : addr < 2 ^ 32) :
    s.Refused (s.werr k kind addr) k kind addr := by
  have hne : Reg.SYS_WERR ≠ Reg.SYS_WERR_ADDR := by decide
  have hget : (s.werr k kind addr).get Reg.SYS_WERR
      = ((((s.stick Reg.SYS_WERR 31).setFld Reg.SYS_WERR 30 28 k).setFld Reg.SYS_WERR 27 24 kind).incFld Reg.SYS_WERR 15 0).get Reg.SYS_WERR :=
    get_putN_ne _ _ _ _ hne
  refine ⟨?_, ?_, ?_, ?_, ?_, keeps_werr s k kind addr⟩
  · rw [flag_congr hget, incFld, flag_setFld_other _ _ _ _ _ _ (by omega) (by omega) (by omega),
      flag_setFld_other _ _ _ _ _ _ (by omega) (by omega) (by omega), flag_setFld_other _ _ _ _ _ _ (by omega) (by omega) (by omega),
      flag_stick_same _ _ _ (by omega)]
  · rw [fld_congr hget, incFld, fld_setFld_other _ _ _ _ _ _ _ (by omega) (by omega) (by omega),
      fld_setFld_other _ _ _ _ _ _ _ (by omega) (by omega) (by omega), fld_setFld_same _ _ _ _ _ (by omega) (by omega)]
    exact Nat.mod_eq_of_lt hk
  · rw [fld_congr hget, incFld, fld_setFld_other _ _ _ _ _ _ _ (by omega) (by omega) (by omega),
      fld_setFld_same _ _ _ _ _ (by omega) (by omega)]
    exact Nat.mod_eq_of_lt hkind
  · have hold : (((s.stick Reg.SYS_WERR 31).setFld Reg.SYS_WERR 30 28 k).setFld Reg.SYS_WERR 27 24 kind).fld Reg.SYS_WERR 15 0
        = s.fld Reg.SYS_WERR 15 0 := by
      rw [fld_setFld_other _ _ _ _ _ _ _ (by omega) (by omega) (by omega), fld_setFld_other _ _ _ _ _ _ _ (by omega) (by omega) (by omega),
        fld_stick_other _ _ _ _ _ (by omega) (by omega)]
    exact (fld_congr hget 15 0).trans ((fld_incFld_same _ _ 15 0 (by omega) (by omega)).trans (congrArg (fun n => min (n + 1) 0xFFFF) hold))
  · exact (getN_putN_same _ _ _).trans (Nat.mod_eq_of_lt ha)

/-- What the effect shows as refused is shown so when the command has ended. -/
theorem Refused.ended {s u : State} {k kind addr : Nat} (hs : s.FltOk) (hf : u.flt = s.flt) (h : s.Refused u k kind addr) :
    s.Refused (s.ended u) k kind addr := by
  obtain ⟨hflag, hsrc, hkind, hcnt, haddr, hk⟩ := h
  have hq : ∀ b ∈ [Reg.SYS_WERR, Reg.SYS_WERR_ADDR], ¬ queueReg b := by
    unfold queueReg; decide
  have hg := ended_get_of_keeps hs hf hk.1 hq
  exact ⟨(flag_congr (hg _) _).trans hflag, (fld_congr (hg _) _ _).trans hsrc, (fld_congr (hg _) _ _).trans hkind,
    (fld_congr (hg _) _ _).trans hcnt, (getN_congr (hg _)).trans haddr, ended_keeps hs hf hk hq⟩

theorem srcCode_lt (src : Src) : srcCode src < 5 := by
  cases src with
  | hpi => decide
  | core n => have := n.isLt; simp only [srcCode]; omega

/-- A write that comes to SYS_WERR and nothing else completes as a refused one. -/
theorem completes_refused {kind : Nat} (hr : s.Runs) (hk : kind < 16) (ha : a < 2 ^ 32)
    (hw : s.write src a 4 v = s.werr (srcCode src) kind a) : Completes (.registerWrite src a 4 v) s fun t => s.Refused t (srcCode src) kind a := by
  exact completes_write hr.1 hw ((refused_werr s (Nat.lt_trans (srcCode_lt src) (by omega)) hk ha).ended hr.2 (werr_flt s _ _ _))

/-! ## A core's trap -/

theorem getD_modNth_same {α : Type} (f : α → α) (n : Nat) (l : List α) (d : α) (h : n < l.length) : (modNth f n l).getD n d = f (l.getD n d) := by
  induction l generalizing n with
  | nil => simp at h
  | cons x l ih =>
    cases n with
    | zero => rfl
    | succ n => exact ih n (by simpa using h)

/-- A core that is out of reset stands in the list of cores. -/
theorem lt_of_released {n : Nat} (h : (s.coreSt n).released = true) : n < s.cores.core.length := by
  rcases Nat.lt_or_ge n s.cores.core.length with hlt | hge
  · exact hlt
  · rw [coreSt, List.getD_eq_getElem?_getD, List.getElem?_eq_none hge] at h
    cases h

/-- A change of a core of the list shows in it. -/
theorem coreSt_coreDo {n : Nat} (h : n < s.cores.core.length) (f : CoreSt → CoreSt) : (s.coreDo n f).coreSt n = f (s.coreSt n) :=
  getD_modNth_same f n s.cores.core {} h

theorem coreTrap_flt (s : State) (n cause : Nat) : (s.coreTrap n cause).flt = s.flt := by
  unfold coreTrap
  split <;> rfl

theorem keeps_coreTrap (s : State) (n cause : Nat) : s.Keeps (s.coreTrap n cause) [Reg.ICU_TGT_STAT] := by
  unfold coreTrap
  split
  · exact Keeps.refl s _
  · refine Keeps.trans (t := { s with freeCtr := s.freeCtr + 4 }) ⟨fun _ _ => rfl, fun _ => rfl, fun _ => rfl⟩ ?_
    exact ⟨fun b hb => get_setFld_ne _ _ _ _ _ _ (by simpa using hb), fun _ => rfl, fun _ => rfl⟩

/-- A core that runs takes the trap in machine mode, its cause in mcause. -/
theorem coreTrap_cause {n : Nat} (h : s.coreRuns n = true) (cause : Nat) :
    ((s.coreTrap n cause).coreSt n).csr.lookup 0x342 = some (BitVec.ofNat 32 cause) ∧ ((s.coreTrap n cause).coreSt n).priv = 3 := by
  have hrel : (s.coreSt n).released = true := by
    simp only [coreRuns, Bool.and_eq_true] at h
    obtain ⟨⟨⟨hrel, -⟩, -⟩, -⟩ := h
    exact hrel
  unfold coreTrap
  rw [if_neg (by simp [h])]
  dsimp only
  rw [coreSt_coreDo (s := s.free.2.free.2.free.2.free.2) (lt_of_released hrel)]
  exact ⟨rfl, rfl⟩

end State

/-- Settles O7: each refused address comes to State.werr (State.completes_refused), a core's access outside the map to State.coreTrap. -/
theorem refusedWrites : Obligations.RefusedWrites := by
  unfold Obligations.RefusedWrites
  intro src a v s hr hs ha h32 refused reg absentHead
  have hwrite := State.write_eq_writeAt hs ha v
  have block : reg → s.write src a 4 v = s.writeBlock src a v.toNat := fun h => by
    obtain ⟨hlt, -, hc⟩ := h
    rw [hwrite, State.writeAt_block ha hlt hc]
  refine ⟨?_, ?_, ?_, ?_, ?_, ?_, ?_, ?_⟩
  · intro h hnone hh
    exact State.completes_refused hr (by omega) h32 ((block h).trans (State.writeBlock_noReg h.2.1 hnone hh))
  · intro h hh
    exact State.completes_refused hr (by omega) h32 ((block h).trans (State.writeBlock_absentHead hh))
  · intro d h hd hro
    exact State.completes_refused hr (by omega) h32 ((block h).trans (State.writeBlock_ro h.2.1 hd hro))
  · intro hlo hhi
    refine State.completes_refused hr (by omega) h32 ?_
    rw [hwrite, State.writeAt_block ha (by omega) (canRamAt_none (Or.inl (by omega))), State.writeBlock_mirror hlo hhi]
  · intro b hb hlo hhi hbank
    refine State.completes_refused hr (by omega) h32 ?_
    rw [hwrite, State.writeAt_bank ha hb hlo hhi, State.writeBank_refused hbank]
  · intro hlo hhi
    refine State.completes_refused hr (by omega) h32 ?_
    rw [hwrite, State.writeAt_recorder ha hlo hhi]
  · rintro rfl hout
    refine State.completes_refused hr (by omega) h32 ?_
    rw [hwrite, State.writeAt_unmapped ha hout (fun n e => by cases e)]
    rfl
  · rintro n rfl hout
    have hun : State.unmapped a := by simp only [State.unmapped]; omega
    have hw : s.write (.core n) a 4 v = s.coreTrap n.val 7 := by
      rw [hwrite, State.writeAt_unmapped ha hun (fun _ _ => by omega)]
    have hflt := State.coreTrap_flt s n.val 7
    have hk := State.keeps_coreTrap s n.val 7
    have hq : ∀ b ∈ [Reg.ICU_TGT_STAT], ¬ State.queueReg b := by unfold State.queueReg; decide
    refine completes_write hr.1 hw ⟨State.ended_keeps hr.2 hflt hk hq, fun hruns => ?_⟩
    rw [State.coreSt, State.ended_cores (State.todo_eq_nil hr.2 hflt)]
    exact State.coreTrap_cause hruns 7

end Sys2Proof.Machine
end

section
/-!
SUPPORT. Writes that land in a stage (R92, R93).
-/
namespace Sys2Proof.Machine

/-! ## Stages -/

theorem getElem?_modNth_same {α : Type} (f : α → α) (n : Nat) (l : List α) : (modNth f n l)[n]? = l[n]?.map f := by
  induction l generalizing n with
  | nil => cases n <;> rfl
  | cons x l ih =>
    cases n with
    | zero => rfl
    | succ n => exact ih n

/-- The registers of the stages' status are none of the fault queue's. -/
theorem stgStat_not_queueReg (k : Nat) : ∀ a ∈ [Reg.TRU_STG_STAT k], ¬ State.queueReg a := by
  simp only [List.mem_singleton, State.queueReg, Reg.TRU_STG_STAT, Reg.FLT_Q_STAT, Reg.FLT_Q_HEAD]
  omega

namespace State
variable {s : State} {g : Stage} {k a : Nat} {v : Word}

theorem keeps_tru (s : State) (x : Tru) (as : List Nat) : s.Keeps { s with tru := x } as :=
  ⟨fun _ _ => rfl, fun _ => rfl, fun _ => rfl⟩

theorem keeps_stageReg (s : State) (k a : Nat) (v : Word) : s.Keeps (s.stageReg k a v) [Reg.TRU_STG_STAT k] := by
  unfold stageReg
  dsimp only
  split
  · exact (keeps_tru s _ _).trans (keeps_setFld _ _ _ _ _ _ (List.mem_singleton_self _))
  · exact (keeps_tru s _ _).trans (keeps_setFlag _ _ _ _ _ (List.mem_singleton_self _))

theorem stageReg_flt (s : State) (k a : Nat) (v : Word) : (s.stageReg k a v).flt = s.flt := by
  unfold stageReg
  dsimp only
  split <;> rfl

/-- An entry joins a stage that has room, and the stage's count shows it (R93). -/
theorem stageReg_room (hg : s.tru.stages[k]? = some g) (h : g.entries.length < 1024) :
    (s.stageReg k a v).tru.stages[k]? = some { g with entries := g.entries ++ [(a, v)] }
      ∧ (s.stageReg k a v).fld (Reg.TRU_STG_STAT k) 10 0 = g.entries.length + 1 := by
  have hd : s.tru.stages.getD k {} = g := by rw [List.getD_eq_getElem?_getD, hg]; rfl
  unfold stageReg
  dsimp only
  rw [hd, if_pos h]
  constructor
  · rw [setFld_tru, getElem?_modNth_same, hg]
    rfl
  · rw [fld_setFld_same _ _ _ _ _ (by omega) (by omega)]
    exact Nat.mod_eq_of_lt (by omega)

/-- A full stage keeps its entries and sets OVF (R93). -/
theorem stageReg_full (hg : s.tru.stages[k]? = some g) (h : 1024 ≤ g.entries.length) :
    (s.stageReg k a v).tru.stages[k]? = some { g with ovf := true } ∧ (s.stageReg k a v).flag (Reg.TRU_STG_STAT k) 16 = true := by
  have hd : s.tru.stages.getD k {} = g := by rw [List.getD_eq_getElem?_getD, hg]; rfl
  unfold stageReg
  dsimp only
  rw [hd, if_neg (by omega)]
  constructor
  · rw [setFlag, setFld_tru, getElem?_modNth_same, hg]
    rfl
  · exact flag_setFlag_same _ _ _ _ (by omega)

/-- A write that comes to a stage and nothing else: what it keeps, and the stage that is left. -/
theorem completes_staged {src : Src} {a' : Nat} {x : Word} {P : State → Prop} (hr : s.Runs)
    (hw : s.write src a' 4 x = s.stageReg k a v)
    (hP : ∀ t : State, s.Keeps t [Reg.TRU_STG_STAT k] → t.tru = (s.stageReg k a v).tru →
      t.get (Reg.TRU_STG_STAT k) = (s.stageReg k a v).get (Reg.TRU_STG_STAT k) → P t) :
    Completes (.registerWrite src a' 4 x) s P := by
  have hf := stageReg_flt s k a v
  have hkeeps := keeps_stageReg s k a v
  have hq := stgStat_not_queueReg k
  exact completes_write hr.1 hw (hP _ (ended_keeps hr.2 hf hkeeps hq) (ended_tru (todo_eq_nil hr.2 hf))
    (ended_get_of_keeps hr.2 hf hkeeps.1 hq _))

/-! ## ICU_CTRL -/

/-- Outside the lanes' and the cells' areas the part lacks no register of a row (R2, R19). -/
theorem regAt_eq (h : ¬ (0x30000 ≤ a ∧ a < 0x38000)) (h2 : ¬ (0x68000 ≤ a ∧ a < 0x68000 + 144 * 0x40)) : s.regAt a = regDesc? a := by
  rw [regAt, instanceOk, if_neg h, if_neg h2, if_pos rfl]

theorem regDesc_icuCtrl : regDesc? Reg.ICU_CTRL = some ⟨0xC000C, 1, 0, 1, 0, .wo, 0, 0xFF01, false⟩ := by decide +kernel

/-- A write of ICU_CTRL without CLR lands in the HPI's stage (R496; log entry 231). -/
theorem writeBlock_icuCtrl {x : Nat} (hclr : bitAt x 0 = false) (hx : x / 2 % 2 ^ 31 ≠ 0) :
    s.writeBlock .hpi Reg.ICU_CTRL x = s.stageReg 0 Reg.ICU_CTRL (BitVec.ofNat 32 (maskAnd x (maskWithout 0xFF01 1))) := by
  have hd := (regAt_eq (s := s) (a := Reg.ICU_CTRL) (by decide) (by decide)).trans regDesc_icuCtrl
  obtain ⟨hi, hr⟩ := instanceOk_of_regAt hd
  have hm : ¬ (0x90000 ≤ Reg.ICU_CTRL ∧ Reg.ICU_CTRL < 0x98000) := by decide
  have hfree : freeWrite ⟨0xC000C, 1, 0, 1, 0, .wo, 0, 0xFF01, false⟩ Reg.ICU_CTRL x = false := rfl
  rw [writeBlock, if_neg hm, hr]
  simp only [hi, hfree, hclr, if_neg hx, Bool.not_true, if_true, if_false, Bool.false_eq_true]
  rfl

end State

/-- The bits of ICU_CTRL beside CLR are its byte 1. -/
theorem maskAnd_swi (x : Nat) : maskAnd x (maskWithout 0xFF01 1) = x / 256 % 256 * 256 := by
  have hbits : ∀ i < 32, bitAt (maskWithout 0xFF01 1) i = decide (8 ≤ i ∧ i ≤ 15) := by decide
  have e : x / 256 % 256 * 256 = putField 0 15 8 (x / 2 ^ 8) := by simp [putField]
  apply Nat.eq_of_testBit_eq
  intro i
  rw [e, testBit_putField _ _ _ _ _ (by omega), ← bitAt_eq_testBit, bitAt_maskAnd, Nat.testBit_div_two_pow]
  split
  · next h =>
    rw [hbits i (by omega), Nat.sub_add_cancel (by omega), bitAt_eq_testBit, decide_eq_true (by omega : i < 32), decide_eq_true h,
      Bool.and_true, Bool.true_and]
  · next h =>
    by_cases h32 : i < 32
    · rw [hbits i h32, decide_eq_false h, Bool.and_false, Bool.and_false, Nat.zero_testBit]
    · rw [decide_eq_false h32, Bool.false_and, Nat.zero_testBit]

/-- A value without bit 0 that is not 0 has a bit above it. -/
theorem high_bits_ne_zero {v : Word} (h0 : v.getLsbD 0 = false) (hv : v ≠ 0) : v.toNat / 2 % 2 ^ 31 ≠ 0 := by
  have hne : v.toNat ≠ 0 := fun h => hv (BitVec.eq_of_toNat_eq h)
  have hlt := v.isLt
  have heven : v.toNat % 2 = 0 := by
    have : bitAt v.toNat 0 = false := (bitAt_toNat v 0).trans h0
    simpa [bitAt] using this
  omega

/-- Settles O8: the write comes to State.stageReg (State.completes_staged), with room in the stage or without. -/
theorem stagedWrites : Obligations.StagedWrites := by
  unfold Obligations.StagedWrites
  constructor
  · intro src a v s d g hr hs ha hlt hm hcan hd hro hicu hcase hg
    have hw : s.write src a 4 v = s.stageReg (srcCode src) a (BitVec.ofNat 32 (maskAnd v.toNat d.mask)) := by
      rw [State.write_eq_writeAt hs ha, State.writeAt_block ha hlt hcan]
      rcases hcase with ⟨rfl, hfree⟩ | ⟨hcore, hrws⟩
      · exact State.writeBlock_stage hm hd hro hfree (hicu rfl)
      · cases src with
        | hpi => exact absurd rfl hcore
        | core n => exact State.writeBlock_rws hm hd n hrws
    refine State.completes_staged hr hw fun t hk ht hget => ⟨hk, fun hroom => ?_, fun hfull => ?_⟩
    · obtain ⟨hstage, hcount⟩ := State.stageReg_room hg hroom
      exact ⟨by rw [ht]; exact hstage, (State.fld_congr hget _ _).trans hcount⟩
    · obtain ⟨hstage, hovf⟩ := State.stageReg_full hg hfull
      exact ⟨by rw [ht]; exact hstage, (State.flag_congr hget _).trans hovf⟩
  · intro v s g hr h0 hv hg hroom
    have hw : s.write .hpi Reg.ICU_CTRL 4 v = s.stageReg 0 Reg.ICU_CTRL (BitVec.ofNat 32 (v.toNat / 256 % 256 * 256)) := by
      rw [State.write_eq_writeAt rfl (by decide), State.writeAt_block (by decide) (by decide) (canRamAt_none (by decide)),
        State.writeBlock_icuCtrl ((bitAt_toNat v 0).trans h0) (high_bits_ne_zero h0 hv), maskAnd_swi]
    refine State.completes_staged hr hw fun t hk ht _ => ⟨hk, ?_⟩
    rw [ht]
    exact (State.stageReg_room hg hroom).1

end Sys2Proof.Machine
end

section
/-!
SUPPORT. Direct writes of registers: the decision, plain registers, and a comparator's shadow (R9, R11, R13).
-/
namespace Sys2Proof.Machine

/-! ## Values stored -/

/-- The value that a write of v leaves over old where only the bits of mask can be written (R9). -/
def mergeBits (mask old v : Nat) : Nat := maskOf 32 fun i => if bitAt mask i then bitAt (maskAnd v mask) i else bitAt old i

theorem bitAt_mergeBits (mask old v : Nat) {i : Nat} (h : i < 32) :
    bitAt (mergeBits mask old v) i = if bitAt mask i then bitAt v i else bitAt old i := by
  rw [mergeBits, bitAt_maskOf, decide_eq_true h, Bool.true_and]
  split
  · next hm => rw [bitAt_maskAnd, decide_eq_true h, hm, Bool.true_and, Bool.and_true]
  · rfl

theorem mergeBits_lt (mask old v : Nat) : mergeBits mask old v < 2 ^ 32 := maskOf_lt _ _

/-- Where the low w bits can be written, they are those of the value written. -/
theorem mergeBits_mod (mask old v : Nat) {w : Nat} (hw : w ≤ 32) (h : ∀ i < w, bitAt mask i = true) :
    mergeBits mask old v % 2 ^ w = v % 2 ^ w := by
  apply Nat.eq_of_testBit_eq
  intro i
  rw [Nat.testBit_mod_two_pow, Nat.testBit_mod_two_pow]
  by_cases hi : i < w
  · rw [← bitAt_eq_testBit, bitAt_mergeBits _ _ _ (by omega), if_pos (h i hi), bitAt_eq_testBit]
  · rw [decide_eq_false hi, Bool.false_and, Bool.false_and]

namespace State
variable {s : State} {d : RegDesc} {a src x : Nat}

/-! ## The decision over a direct write -/

/-- The lock refuses no register of another access type, and no RWL register that is not locked. -/
theorem notRefused_of_unlocked {v : Nat} (hl : d.acc = .rwl → s.locked a v = false) : ¬ (d.acc == .rwl && s.locked a v) = true := by
  intro h
  simp only [Bool.and_eq_true, beq_iff_eq] at h
  rw [hl h.1] at h
  cases h.2

theorem directReg_locked (hm : s.mode ≠ STANDBY) (hacc : d.acc = .rwl) (hl : s.locked a (maskAnd x d.mask) = true) :
    s.directReg d src a x = s.refuseLocked src a := by
  simp [directReg, hm, hacc, hl]

theorem directReg_value (hm : s.mode ≠ STANDBY) (hl : d.acc = .rwl → s.locked a (maskAnd x d.mask) = false) (hacc : d.acc ≠ .rw1c)
    (hv : s.writeOk (s.after [(a, maskAnd x d.mask)]) a (maskAnd x d.mask) = false) : s.directReg d src a x = s.refuseValue src a := by
  have hnl := notRefused_of_unlocked hl
  simp only [directReg, hm, false_and, if_false, if_neg hnl, hv, Bool.not_false, Bool.and_true, bne_iff_ne, ne_eq, hacc, not_false_eq_true, if_true]

theorem directReg_apply (hm : s.mode ≠ STANDBY) (hl : d.acc = .rwl → s.locked a (maskAnd x d.mask) = false)
    (hv : d.acc = .rw1c ∨ s.writeOk (s.after [(a, maskAnd x d.mask)]) a (maskAnd x d.mask) = true) :
    s.directReg d src a x = (s.applyWrite 0 0 a x).testBy src a := by
  have hnl := notRefused_of_unlocked hl
  have hnv : ¬ (d.acc != .rw1c && !s.writeOk (s.after [(a, maskAnd x d.mask)]) a (maskAnd x d.mask)) = true := by
    rcases hv with h | h <;> simp [h]
  simp only [directReg, hm, false_and, if_false, if_neg hnl, if_neg hnv]

/-- Only a write of LNK_TEST names its writer. -/
theorem testBy_eq_self (h : ¬ (0x30000 ≤ a ∧ a < 0x38000 ∧ a % 0x800 = 0x0C)) : s.testBy src a = s := if_neg h

/-! ## Plain registers -/

/-- Registers that hold their value and do nothing beside being stored: the command pointers of the HPI and C3, the Kneader's read pointer, the
clock monitor's times, the recorder's trigger configuration and the time to be set. -/
def plainRegs : List Nat := [Reg.TRU_CMT_PTR 0, Reg.TRU_CMT_PTR 4, Reg.KNE_VRD_ADDR, Reg.CLK_MON_CFG, Reg.REC_TRIGCFG, Reg.TIM_SET_NS]

theorem plainRegs_acc (h : a ∈ plainRegs) (hd : regDesc? a = some d) : d.acc = .rw ∨ d.acc = .rwl := by
  have key : ∀ a ∈ plainRegs, (regDesc? a).all (fun d => d.acc == .rw || d.acc == .rwl) = true := by decide +kernel
  have := key a h
  rw [hd] at this
  simpa using this

theorem plainRegs_effect (h : a ∈ plainRegs) (s : State) (old v : Nat) : s.effect 0 0 a old v = s := by
  simp only [plainRegs, List.mem_cons, List.not_mem_nil, or_false] at h
  rcases h with rfl | rfl | rfl | rfl | rfl | rfl <;> rfl

/-- Where a plain register lies: a block's word outside the lanes, the cells, the mirror and the CAN RAM, none of the fault queue's. -/
theorem plainRegs_place (h : a ∈ plainRegs) :
    a % 4 = 0 ∧ a < 0xD8000 ∧ ¬ (0x90000 ≤ a ∧ a < 0x98000) ∧ canRamAt a = none ∧ ¬ (0x30000 ≤ a ∧ a < 0x38000)
      ∧ ¬ (0x68000 ≤ a ∧ a < 0x68000 + 144 * 0x40) ∧ storesItself a = false := by
  have key : ∀ a ∈ plainRegs, a % 4 = 0 ∧ a < 0xD8000 ∧ ¬ (0x90000 ≤ a ∧ a < 0x98000) ∧ canRamAt a = none ∧ ¬ (0x30000 ≤ a ∧ a < 0x38000)
      ∧ ¬ (0x68000 ≤ a ∧ a < 0x68000 + 144 * 0x40) ∧ storesItself a = false := by decide
  exact key a h

theorem plainRegs_not_queueReg (h : a ∈ plainRegs) : ∀ b ∈ [a], ¬ queueReg b := by
  have key : ∀ b ∈ plainRegs, ¬ queueReg b := by unfold queueReg; decide
  intro b hb
  rw [List.mem_singleton.1 hb]
  exact key a h

theorem applyWrite_plain (h : a ∈ plainRegs) (hd : regDesc? a = some d) : s.applyWrite 0 0 a x = s.putN a (mergeBits d.mask (s.getN a) x) := by
  obtain ⟨-, -, -, -, -, -, hst⟩ := plainRegs_place h
  rw [applyWrite, hd]
  rcases plainRegs_acc h hd with hacc | hacc
  · simp only [hacc, hst, Bool.false_eq_true, if_false, plainRegs_effect h]
    rfl
  · simp only [hacc, hst, Bool.false_eq_true, if_false, plainRegs_effect h]
    rfl

/-! ## The comparator of a half-bridge -/

theorem regDesc_cmpa (h : Fin 6) : regDesc? (Reg.PWM_HB_CMPA h) = some ⟨0x70204, 6, 0x40, 1, 0, .rwb, 0, 0xFFFFFF, false⟩ := by
  have key : ∀ h : Fin 6, regDesc? (Reg.PWM_HB_CMPA h) = some ⟨0x70204, 6, 0x40, 1, 0, .rwb, 0, 0xFFFFFF, false⟩ := by decide +kernel
  exact key h

theorem kneHolds_cmpa {h : Fin 6} (hk : s.kneOwned h = false) : s.kneHolds (Reg.PWM_HB_CMPA h) = false := by
  rw [kneHolds, List.any_eq_false]
  intro j _ hc
  simp only [Bool.and_eq_true, beq_iff_eq, Reg.PWM_HB_CMPA] at hc
  have : j = h.val := by omega
  rw [this, hk] at hc
  cases hc.2

/-- Every comparator value is accepted, in every mode. -/
theorem writeOk_cmpa (s : State) (look : Nat → Nat) (h : Fin 6) (v : Nat) : s.writeOk look (Reg.PWM_HB_CMPA h) v = true := by
  have hv : s.valueOk look (Reg.PWM_HB_CMPA h) v = true := by
    match h with | 0 | 1 | 2 | 3 | 4 | 5 => rfl
  have h1 : (Reg.PWM_HB_CMPA h == Reg.MOD_OL_CTRL) = false := by
    match h with | 0 | 1 | 2 | 3 | 4 | 5 => rfl
  have h2 : (Reg.PWM_HB_CMPA h == Reg.MOD_JOG_CFG) = false := by
    match h with | 0 | 1 | 2 | 3 | 4 | 5 => rfl
  simp [writeOk, hv, commissionOk, h1, h2]

theorem effect_cmpa (s : State) (h : Fin 6) (old v : Nat) : s.effect 0 0 (Reg.PWM_HB_CMPA h) old v = s := by
  match h with | 0 | 1 | 2 | 3 | 4 | 5 => rfl

theorem keeps_putShadow (s : State) (a : Nat) (v : Word) : s.Keeps (s.putShadow a v) [a] := by
  unfold putShadow
  dsimp only
  split
  · exact keeps_put _ _ _ _ (List.mem_singleton_self a)
  · refine Keeps.trans (t := { s with sys := { s.sys with wrote := (a, s.get a) :: s.sys.wrote } }) ?_ (keeps_put _ _ _ _ (List.mem_singleton_self a))
    exact ⟨fun _ _ => rfl, fun _ => rfl, fun _ => rfl⟩

theorem putShadow_flt (s : State) (a : Nat) (v : Word) : (s.putShadow a v).flt = s.flt := by
  unfold putShadow
  dsimp only
  split <;> rfl

theorem get_putShadow_same (s : State) (a : Nat) (v : Word) : (s.putShadow a v).get a = v := get_put_same _ a v

theorem applyWrite_cmpa {h : Fin 6} (hk : s.kneOwned h = false) : s.applyWrite 0 0 (Reg.PWM_HB_CMPA h) x
    = s.putShadow (Reg.PWM_HB_CMPA h) (BitVec.ofNat 32 (mergeBits 0xFFFFFF (s.getN (Reg.PWM_HB_CMPA h)) x)) := by
  rw [applyWrite, regDesc_cmpa]
  simp only [kneHolds_cmpa hk, Bool.false_eq_true, if_false, effect_cmpa]
  rfl

end State

/-- A core's write of a plain register comes to storing the value. -/
theorem write_plain {n : Fin 4} {a : Nat} {v : Word} {s : State} {d : RegDesc} (hs : s.Awake) (hw : s.coreWrites n = true)
    (ha : a ∈ State.plainRegs) (hd : regDesc? a = some d) (hl : d.acc = .rwl → s.locked a (maskAnd v.toNat d.mask) = false)
    (hv : s.writeOk (s.after [(a, maskAnd v.toNat d.mask)]) a (maskAnd v.toNat d.mask) = true) :
    s.write (.core n) a 4 v = s.putN a (mergeBits d.mask (s.getN a) v.toNat) := by
  obtain ⟨h4, hlt, hm, hcan, hlane, hcell, -⟩ := State.plainRegs_place ha
  have hreg : s.regAt a = some d := (State.regAt_eq hlane hcell).trans hd
  have hacc := State.plainRegs_acc ha hd
  have hro : d.acc ≠ .ro := by rcases hacc with h | h <;> rw [h] <;> decide
  have hrws : d.acc ≠ .rws := by rcases hacc with h | h <;> rw [h] <;> decide
  rw [State.write_eq_writeAt (src := .core n) hw h4, State.writeAt_block h4 hlt hcan, State.writeBlock_core hm hreg n hro hrws,
    State.directReg_apply hs.mode_ne hl (Or.inr hv), State.applyWrite_plain ha hd, State.testBy_eq_self (by omega)]

/-- A core's write of a comparator that the Kneader does not own comes to storing its shadow. -/
theorem write_cmpa {n : Fin 4} {h : Fin 6} {v : Word} {s : State} (hs : s.Awake) (hw : s.coreWrites n = true) (hk : s.kneOwned h = false) :
    s.write (.core n) (Reg.PWM_HB_CMPA h) 4 v
      = s.putShadow (Reg.PWM_HB_CMPA h) (BitVec.ofNat 32 (mergeBits 0xFFFFFF (s.getN (Reg.PWM_HB_CMPA h)) v.toNat)) := by
  have hp : 0x70204 ≤ Reg.PWM_HB_CMPA h ∧ Reg.PWM_HB_CMPA h < 0x70400 ∧ Reg.PWM_HB_CMPA h % 4 = 0 := by
    have := h.isLt
    simp only [Reg.PWM_HB_CMPA]
    omega
  obtain ⟨hlo, hhi, h4⟩ := hp
  have hreg := (State.regAt_eq (s := s) (a := Reg.PWM_HB_CMPA h) (by omega) (by omega)).trans (State.regDesc_cmpa h)
  rw [State.write_eq_writeAt (src := .core n) hw h4, State.writeAt_block h4 (by omega) (canRamAt_none (by omega)),
    State.writeBlock_core (by omega) hreg n (by decide) (by decide),
    State.directReg_apply hs.mode_ne (fun e => by cases e) (Or.inr (State.writeOk_cmpa s _ h _)), State.applyWrite_cmpa hk,
    State.testBy_eq_self (by omega)]

/-- Settles O10: a plain register by write_plain, a comparator by write_cmpa, a core that does not run by State.write_eq_self. -/
theorem directWrites : Obligations.DirectWrites := by
  unfold Obligations.DirectWrites
  refine ⟨?_, ?_, ?_⟩
  · intro n a v s d hs hw ha hd hl hv
    have hk : s.Keeps (s.putN a (mergeBits d.mask (s.getN a) v.toNat)) [a] := State.keeps_put _ _ _ _ (List.mem_singleton_self a)
    have hf : (s.putN a (mergeBits d.mask (s.getN a) v.toNat)).flt = s.flt := rfl
    have hq := State.plainRegs_not_queueReg ha
    refine completes_write hs.runs.1 (write_plain hs hw ha hd hl hv) ⟨State.ended_keeps hs.2 hf hk hq, fun i hi => ?_⟩
    rw [State.flag_congr (State.ended_get_of_keeps hs.2 hf hk.1 hq a), State.flag, State.getN_putN_same,
      Nat.mod_eq_of_lt (mergeBits_lt _ _ _), bitAt_mergeBits _ _ _ hi, bitAt_toNat]
    rfl
  · intro n h v s hs hw hk
    have hq : ∀ b ∈ [Reg.PWM_HB_CMPA h], ¬ State.queueReg b := by
      have := h.isLt
      simp only [List.mem_singleton, State.queueReg, Reg.PWM_HB_CMPA, Reg.FLT_Q_STAT, Reg.FLT_Q_HEAD]
      omega
    refine completes_write hs.runs.1 (write_cmpa hs hw hk) ⟨State.ended_keeps hs.2 (State.putShadow_flt ..) (State.keeps_putShadow ..) hq, ?_⟩
    rw [State.getN_congr (State.ended_get_of_keeps hs.2 (State.putShadow_flt ..) (State.keeps_putShadow ..).1 hq _), State.getN,
      State.get_putShadow_same, BitVec.toNat_ofNat, Nat.mod_eq_of_lt (mergeBits_lt _ _ _), mergeBits_mod _ _ _ (by omega) (by decide)]
  · intro n a width v s hr hw
    have hk := State.Keeps.refl s []
    refine completes_write hr.1 (State.write_eq_self hw a width v) ⟨State.ended_keeps hr.2 rfl hk (by simp), ?_⟩
    rw [State.ended_tru (State.todo_eq_nil hr.2 rfl)]

end Sys2Proof.Machine
end

section
/-!
SUPPORT. RW1C registers (R12).
-/
namespace Sys2Proof.Machine

/-! ## RW1C registers -/

/-- No register of the fault queue has bits that a 1 clears. -/
theorem not_queueReg_of_rw1c {a : Nat} {d : RegDesc} (ha : a % 4 = 0) (hd : regDesc? a = some d) (hacc : d.acc = .rw1c) : ¬ State.queueReg a := by
  have key : ∀ j < 8, (regDesc? (Reg.FLT_Q_HEAD j)).all (fun d => d.acc != .rw1c) = true := by decide +kernel
  have hstat : (regDesc? Reg.FLT_Q_STAT).all (fun d => d.acc != .rw1c) = true := by decide +kernel
  rintro (rfl | ⟨hlo, hhi⟩)
  · rw [hd] at hstat
    simp [hacc] at hstat
  · simp only [Reg.FLT_Q_HEAD] at hlo hhi
    have e : a = Reg.FLT_Q_HEAD ((a - 0x88040) / 4) := by simp only [Reg.FLT_Q_HEAD]; omega
    have h := key ((a - 0x88040) / 4) (by omega)
    rw [← e, hd] at h
    simp [hacc] at h

theorem not_lnkEvtSum_of_rw1c {a : Nat} {d : RegDesc} (hd : regDesc? a = some d) (hacc : d.acc = .rw1c) : a ≠ Reg.LNK_EVT_SUM := by
  have hsum : (regDesc? Reg.LNK_EVT_SUM).all (fun d => d.acc != .rw1c) = true := by decide +kernel
  rintro rfl
  rw [hd] at hsum
  simp [hacc] at hsum

/-- The bits that a write of v clears: the ones of v, but for those that an event of the tick set (R12). -/
def clearMask (s : State) (a v : Nat) : Nat := maskOf 32 fun i => bitAt v i && !s.sys.setNow.contains (a, i)

theorem bitAt_clearMask (s : State) (a v : Nat) {i : Nat} (h : i < 32) :
    bitAt (clearMask s a v) i = (bitAt v i && !s.sys.setNow.contains (a, i)) := by
  rw [clearMask, bitAt_maskOf, decide_eq_true h, Bool.true_and]

theorem maskWithout_lt (a b : Nat) : maskWithout a b < 2 ^ 32 := maskOf_lt _ _

namespace State
variable {s : State} {d : RegDesc} {a src v : Nat}

/-- The register with the written bits cleared. -/
def cleared (s : State) (a v : Nat) : State := s.putN a (maskWithout (s.getN a) (clearMask s a v))

theorem flag_cleared (s : State) (a v : Nat) {i : Nat} (h : i < 32) :
    (s.cleared a v).flag a i = (s.flag a i && !(bitAt v i && !s.sys.setNow.contains (a, i))) := by
  rw [cleared, flag, getN_putN_same, Nat.mod_eq_of_lt (maskWithout_lt _ _), bitAt_maskWithout, bitAt_clearMask _ _ _ h, decide_eq_true h,
    Bool.true_and, flag]

/-- What clearing does beside: the counters of SYS_WERR and SYS_RESET_CAUSE go with their bit, and LNK_EVT_SUM follows its lane. -/
theorem writeClear_cases (s : State) (a v : Nat) :
    s.writeClear a v = s.cleared a v ∨ (a = Reg.SYS_WERR ∧ s.writeClear a v = (s.cleared a v).setFld a 15 0 0)
      ∨ (a = Reg.SYS_RESET_CAUSE ∧ s.writeClear a v = (s.cleared a v).setFld a 23 20 0) ∨ ∃ n, s.writeClear a v = (s.cleared a v).lnkSum n := by
  have e : s.cleared a v = s.putN a (maskWithout (s.getN a) (maskOf 32 fun i => bitAt v i && !s.sys.setNow.contains (a, i))) := rfl
  unfold writeClear
  dsimp only
  rw [← e]
  split
  · next h =>
    split
    · exact Or.inr (Or.inl ⟨h, rfl⟩)
    · exact Or.inl rfl
  · split
    · next h =>
      split
      · exact Or.inr (Or.inr (Or.inl ⟨h, rfl⟩))
      · exact Or.inl rfl
    · split
      · exact Or.inr (Or.inr (Or.inr ⟨_, rfl⟩))
      · exact Or.inl rfl

theorem keeps_writeClear (s : State) (a v : Nat) : s.Keeps (s.writeClear a v) [a, Reg.LNK_EVT_SUM] := by
  have hc : s.Keeps (s.cleared a v) [a, Reg.LNK_EVT_SUM] := keeps_put _ _ _ _ (List.mem_cons_self ..)
  rcases writeClear_cases s a v with e | ⟨-, e⟩ | ⟨-, e⟩ | ⟨n, e⟩ <;> rw [e]
  · exact hc
  · exact hc.trans (keeps_setFld _ _ _ _ _ _ (List.mem_cons_self ..))
  · exact hc.trans (keeps_setFld _ _ _ _ _ _ (List.mem_cons_self ..))
  · exact hc.trans (keeps_setFlag _ _ _ _ _ (by simp))

theorem writeClear_flt (s : State) (a v : Nat) : (s.writeClear a v).flt = s.flt := by
  rcases writeClear_cases s a v with e | ⟨-, e⟩ | ⟨-, e⟩ | ⟨n, e⟩ <;> rw [e]
  · exact putN_flt _ _ _
  · exact (setFld_flt _ _ _ _ _).trans (putN_flt _ _ _)
  · exact (setFld_flt _ _ _ _ _).trans (putN_flt _ _ _)
  · exact (setFlag_flt _ _ _ _).trans (putN_flt _ _ _)

/-- The bits that a write can clear lie outside the counters that go with them. -/
theorem clearable_bit (hd : regDesc? a = some d) {i : Nat} (hi : i < 32) (hm : bitAt d.mask i = true) :
    (a = Reg.SYS_WERR → 15 < i) ∧ (a = Reg.SYS_RESET_CAUSE → i < 20) := by
  have hwerr : (regDesc? Reg.SYS_WERR).map (·.mask) = some 0x80000000 := by decide +kernel
  have hcause : (regDesc? Reg.SYS_RESET_CAUSE).map (·.mask) = some 0x3F7 := by decide +kernel
  have hbits : ∀ i < 32, bitAt 0x80000000 i = true → 15 < i := by decide
  have hbits2 : ∀ i < 32, bitAt 0x3F7 i = true → i < 20 := by decide
  constructor
  · rintro rfl
    rw [hd] at hwerr
    exact hbits i hi (Option.some.inj hwerr ▸ hm)
  · rintro rfl
    rw [hd] at hcause
    exact hbits2 i hi (Option.some.inj hcause ▸ hm)

theorem flag_writeClear (hd : regDesc? a = some d) (hacc : d.acc = .rw1c) {i : Nat} (hi : i < 32) (hm : bitAt d.mask i = true) :
    (s.writeClear a v).flag a i = (s.flag a i && !(bitAt v i && !s.sys.setNow.contains (a, i))) := by
  obtain ⟨hwerr, hcause⟩ := clearable_bit hd hi hm
  rw [← flag_cleared s a v hi]
  rcases writeClear_cases s a v with e | ⟨ha, e⟩ | ⟨ha, e⟩ | ⟨n, e⟩ <;> rw [e]
  · exact flag_setFld_other _ _ _ _ _ _ (by omega) (by omega) (Or.inr (hwerr ha))
  · exact flag_setFld_other _ _ _ _ _ _ (by omega) (by omega) (Or.inl (hcause ha))
  · exact flag_congr (get_setFlag_ne _ _ _ _ _ (not_lnkEvtSum_of_rw1c hd hacc)) i

theorem keeps_setLane (s : State) (n : Nat) (f : Lane → Lane) (as : List Nat) : s.Keeps (s.setLane n f) as :=
  ⟨fun _ _ => rfl, fun _ => rfl, fun _ => rfl⟩

theorem setLane_flt (s : State) (n : Nat) (f : Lane → Lane) : (s.setLane n f).flt = s.flt := rfl

theorem keeps_testBy (s : State) (src a : Nat) (as : List Nat) : s.Keeps (s.testBy src a) as := by
  unfold testBy
  split
  · exact keeps_setLane _ _ _ _
  · exact Keeps.refl s as

theorem testBy_flt (s : State) (src a : Nat) : (s.testBy src a).flt = s.flt := by
  unfold testBy
  split
  · exact setLane_flt _ _ _
  · rfl

theorem applyWrite_rw1c (hd : regDesc? a = some d) (hacc : d.acc = .rw1c) : s.applyWrite 0 0 a v = s.writeClear a (maskAnd v d.mask) := by
  rw [applyWrite, hd]
  simp only [hacc]

/-- A direct write of an RW1C register comes to clearing bits. -/
theorem directReg_rw1c (hm : s.mode ≠ STANDBY) (hd : regDesc? a = some d) (hacc : d.acc = .rw1c) :
    s.directReg d src a v = (s.writeClear a (maskAnd v d.mask)).testBy src a := by
  rw [directReg_apply hm (fun h => by rw [hacc] at h; cases h) (Or.inl hacc), applyWrite_rw1c hd hacc]

end State

/-- A sender's write of an RW1C register reaches it: a core's, and the HPI's of a free one. -/
theorem write_rw1c {src : Src} {a : Nat} {v : Word} {s : State} {d : RegDesc} (hs : s.Awake) (hsend : s.Sends src) (ha : a % 4 = 0)
    (hlt : a < 0xD8000) (hm : ¬ (0x90000 ≤ a ∧ a < 0x98000)) (hcan : State.canRamAt a = none) (hreg : s.regAt a = some d) (hacc : d.acc = .rw1c)
    (hfree : src = .hpi → d.free = true) :
    s.write src a 4 v = (s.writeClear a (maskAnd v.toNat d.mask)).testBy (srcCode src) a := by
  obtain ⟨-, hd⟩ := State.instanceOk_of_regAt hreg
  have hro : d.acc ≠ .ro := by rw [hacc]; decide
  have hrws : d.acc ≠ .rws := by rw [hacc]; decide
  rw [State.write_eq_writeAt hsend ha, State.writeAt_block ha hlt hcan]
  cases src with
  | hpi =>
    have hf : State.freeWrite d a v.toNat = true := by rw [State.freeWrite, hfree rfl, Bool.true_or]
    rw [State.writeBlock_free hm hreg hro hf, State.directReg_rw1c hs.mode_ne hd hacc]
    rfl
  | core n =>
    rw [State.writeBlock_core hm hreg n hro hrws, State.directReg_rw1c hs.mode_ne hd hacc]
    rfl

/-- Settles O12: an event by State.stick, a clear by State.flag_writeClear. -/
theorem clearBits : Obligations.ClearBits := by
  unfold Obligations.ClearBits
  refine ⟨fun s a i hi => ⟨State.flag_stick_same s a i hi, ?_⟩, ?_⟩
  · have e : (s.stick a i).sys.setNow = (a, i) :: s.sys.setNow := rfl
    rw [e, List.contains_cons, beq_self_eq_true, Bool.true_or]
  · intro src a v s d hs hsend ha hlt hm hcan hreg hacc hfree
    obtain ⟨-, hd⟩ := State.instanceOk_of_regAt hreg
    have hk := (State.keeps_writeClear s a (maskAnd v.toNat d.mask)).trans (State.keeps_testBy _ (srcCode src) a _)
    have hf := (State.testBy_flt _ (srcCode src) a).trans (State.writeClear_flt s a (maskAnd v.toNat d.mask))
    have hsum : ¬ State.queueReg Reg.LNK_EVT_SUM := by unfold State.queueReg; decide
    have hq : ∀ b ∈ [a, Reg.LNK_EVT_SUM], ¬ State.queueReg b := by
      simp only [List.mem_cons, List.not_mem_nil, or_false]
      rintro b (rfl | rfl)
      · exact not_queueReg_of_rw1c ha hd hacc
      · exact hsum
    refine completes_write hs.runs.1 (write_rw1c hs hsend ha hlt hm hcan hreg hacc hfree) ⟨State.ended_keeps hs.2 hf hk hq, fun i hi hbit => ?_⟩
    have hget := (State.ended_get_of_keeps hs.2 hf hk.1 hq a).trans ((State.keeps_testBy _ (srcCode src) a []).1 a List.not_mem_nil)
    rw [State.flag_congr hget, State.flag_writeClear hd hacc hi hbit, bitAt_maskAnd, decide_eq_true hi, hbit, bitAt_toNat, Bool.true_and,
      Bool.and_true]

end Sys2Proof.Machine
end

section
/-!
SUPPORT. Records of the Crust log, and the writes that form one: a locked block, a refused value (R11, R102-R105, R536).
-/
namespace Sys2Proof.Machine

/-! ## Little-endian fields of a byte string -/

@[simp] theorem length_leBytes (k n : Nat) : (leBytes k n).length = k := by
  induction k generalizing n with
  | zero => rfl
  | succ k ih => simp [leBytes, ih]

theorem leNat_leBytes (k n : Nat) : leNat (leBytes k n) = n % 256 ^ k := by
  induction k generalizing n with
  | zero => simp [leBytes, leNat, Nat.mod_one]
  | succ k ih =>
    rw [leBytes, leNat, ih, BitVec.toNat_ofNat, (Nat.pow_succ' : 256 ^ (k + 1) = 256 * 256 ^ k)]
    exact Nat.mod_mul.symm

/-- A field behind the one in front. -/
theorem leAt_skip (k n : Nat) (ys : List Byte) (off len : Nat) : leAt (leBytes k n ++ ys) (k + off) len = leAt ys off len := by
  rw [leAt, leAt, slice, slice, List.drop_append, length_leBytes, List.drop_of_length_le (by simp), Nat.add_sub_cancel_left, List.nil_append]

/-- The field in front. -/
theorem leAt_head (k n : Nat) (ys : List Byte) : leAt (leBytes k n ++ ys) 0 k = n % 256 ^ k := by
  rw [leAt, slice, List.drop_zero, List.take_append_of_le_length (by simp), List.take_of_length_le (by simp), leNat_leBytes]

namespace State
variable {s t u : State}

/-- A field of a byte string in memory is that of the byte string. -/
theorem memN_setBytes (s : State) (a : Nat) (bs : List Byte) (off n : Nat) (h : off + n ≤ bs.length) :
    (s.setBytes a bs).memN (a + off) n = leAt bs off n := by
  rw [memN, leAt]
  congr 1
  apply List.ext_getElem
  · simp [bytesAt, slice]; omega
  · intro i h1 h2
    simp only [bytesAt, List.length_map, List.length_range] at h1
    have hb := byteAt_setBytes_in s a bs (off + i) (by omega)
    simp [bytesAt, slice, Nat.add_assoc, hb]

theorem memN_congr (h : t.mem = s.mem) (a n : Nat) : t.memN a n = s.memN a n := by
  simp only [memN, bytesAt, byteAt, h]

/-! ## A record of the Crust log -/

/-- Only registers differ. -/
def OnlyRegs (s t : State) : Prop := ∃ r, t = { s with regs := r }

theorem OnlyRegs.trans (h : s.OnlyRegs t) (h2 : t.OnlyRegs u) : s.OnlyRegs u := by
  obtain ⟨r, rfl⟩ := h
  obtain ⟨r2, rfl⟩ := h2
  exact ⟨r2, rfl⟩

theorem onlyRegs_putN (s : State) (a n : Nat) : s.OnlyRegs (s.putN a n) := ⟨_, rfl⟩

theorem onlyRegs_incFld (s : State) (a hi lo : Nat) : s.OnlyRegs (s.incFld a hi lo) := ⟨_, rfl⟩

theorem onlyRegs_putBytes (s : State) (a k : Nat) (bs : List Byte) : s.OnlyRegs (s.putBytes a k bs) := by
  induction k generalizing s a bs with
  | zero => exact ⟨s.regs, rfl⟩
  | succ k ih => exact (onlyRegs_putN s a _).trans (ih _ _ _)

theorem setBytes_eq (s : State) (a : Nat) (bs : List Byte) : ∃ m, s.setBytes a bs = { s with mem := m } := by
  induction bs generalizing s a with
  | nil => exact ⟨s.mem, rfl⟩
  | cons b bs ih =>
    obtain ⟨m, hm⟩ := ih (s.setByte a b) (a + 1)
    exact ⟨m, by rw [setBytes, hm]; rfl⟩

/-- Placing a record changes only the log's own state, the free values drawn and memory. -/
theorem logPlace_eq (s : State) (r : List Byte) : ∃ f l m, s.logPlace r = { s with freeCtr := f, log := l, mem := m } := by
  unfold logPlace journalWrite
  dsimp only
  obtain ⟨m, hm⟩ := setBytes_eq _ (logSlot (leAt r 0 4)) r
  exact ⟨_, _, m, hm⟩

/-- The fields of a record placed in its slot. -/
theorem memN_logPlace (s : State) (r : List Byte) (off n : Nat) (h : off + n ≤ r.length) :
    (s.logPlace r).memN (logSlot (leAt r 0 4) + off) n = leAt r off n := by
  unfold logPlace
  dsimp only
  exact memN_setBytes _ _ _ _ _ h

/-- Counting a record changes only registers. -/
theorem onlyRegs_logAdvance (s : State) (r : List Byte) : s.OnlyRegs (s.logAdvance r) := by
  have base := (onlyRegs_putBytes s (Reg.LOG_HEAD 0) 8 (sha256 r)).trans (onlyRegs_putN _ Reg.LOG_SEQ (s.getN Reg.LOG_SEQ + 1))
  unfold logAdvance
  dsimp only
  split <;> split
  · exact (base.trans (onlyRegs_putN _ _ _)).trans (onlyRegs_incFld _ _ _ _)
  · exact base.trans (onlyRegs_incFld _ _ _ _)
  · exact base.trans (onlyRegs_putN _ _ _)
  · exact base

/-- Beside LOG_OLDEST and LOG_STAT, counting a record moves the head and the next SEQ. -/
theorem get_logAdvance (s : State) (r : List Byte) (a : Nat) (hold : a ≠ Reg.LOG_OLDEST) (hstat : a ≠ Reg.LOG_STAT) :
    (s.logAdvance r).get a = ((s.putBytes (Reg.LOG_HEAD 0) 8 (sha256 r)).putN Reg.LOG_SEQ (s.getN Reg.LOG_SEQ + 1)).get a := by
  unfold logAdvance
  dsimp only
  split <;> split
  · rw [get_incFld_ne _ _ _ _ _ hstat, get_putN_ne _ _ _ _ hold]
  · rw [get_incFld_ne _ _ _ _ _ hstat]
  · rw [get_putN_ne _ _ _ _ hold]
  · rfl

theorem getN_logAdvance_seq (s : State) (r : List Byte) : (s.logAdvance r).getN Reg.LOG_SEQ = (s.getN Reg.LOG_SEQ + 1) % 2 ^ 32 := by
  rw [getN_congr (get_logAdvance s r Reg.LOG_SEQ (by decide) (by decide)), getN_putN_same]

theorem keepsRegs_logAdvance (s : State) (r : List Byte) : s.KeepsRegs (s.logAdvance r) logRegs := by
  intro a ha
  simp only [logRegs, List.mem_append, List.mem_cons, List.not_mem_nil, or_false, not_or, List.mem_map, List.mem_range, not_exists, not_and] at ha
  obtain ⟨⟨hseq, hold, hstat, -⟩, hhead⟩ := ha
  rw [get_logAdvance s r a hold hstat, get_putN_ne _ _ _ _ hseq]
  refine get_putBytes_ne _ _ _ _ _ fun j hj e => hhead j hj ?_
  rw [e]
  simp only [Reg.LOG_HEAD]
  omega

theorem logRecord_eq (h : s.mramBarred = false) (e : LogEntry) :
    s.logRecord e = (s.logPlace (s.logBytes e false)).logAdvance (s.logBytes e false) := by
  simp [logRecord, h]

/-- The fields of a record that a statement reads: SEQ, TYPE, CODE, RESULT, REASON (R102). -/
theorem logBytes_fields (s : State) (e : LogEntry) (held : Bool) :
    leAt (s.logBytes e held) 0 4 = s.getN Reg.LOG_SEQ ∧ leAt (s.logBytes e held) 4 2 = e.type % 256 ^ 2
      ∧ leAt (s.logBytes e held) 32 2 = e.code % 256 ^ 2 ∧ leAt (s.logBytes e held) 34 1 = e.result % 256 ^ 1
      ∧ leAt (s.logBytes e held) 35 1 = e.reason % 256 ^ 1 := by
  have h32 : 32 = 4 + (2 + (1 + (1 + (8 + (4 + (4 + (8 + 0))))))) := rfl
  have h34 : 34 = 4 + (2 + (1 + (1 + (8 + (4 + (4 + (8 + (2 + 0)))))))) := rfl
  have h35 : 35 = 4 + (2 + (1 + (1 + (8 + (4 + (4 + (8 + (2 + (1 + 0))))))))) := rfl
  simp only [logBytes, List.append_assoc]
  refine ⟨?_, ?_, ?_, ?_, ?_⟩
  · rw [leAt_head]; exact Nat.mod_eq_of_lt (s.getN_lt _)
  · exact (leAt_skip 4 _ _ 0 2).trans (leAt_head ..)
  · rw [h32]; simp only [leAt_skip, leAt_head]
  · rw [h34]; simp only [leAt_skip, leAt_head]
  · rw [h35]; simp only [leAt_skip, leAt_head]

theorem length_logBytes (s : State) (e : LogEntry) (held : Bool) : 36 ≤ (s.logBytes e held).length := by
  simp only [logBytes, List.length_append, length_leBytes]
  omega

section
variable (h : s.mramBarred = false) (e : LogEntry)
include h

/-- A record that MRAM can take is formed and stands in its slot. -/
theorem logged_logRecord (ht : e.type < 65536) (hc : e.code < 65536) (hr : e.result < 256) (hn : e.reason < 256) :
    s.Logged (s.logRecord e) e.type e.code e.result e.reason := by
  obtain ⟨fseq, ftype, fcode, fres, freason⟩ := logBytes_fields s e false
  have hlen := length_logBytes s e false
  obtain ⟨f, l, m, hp⟩ := logPlace_eq s (s.logBytes e false)
  obtain ⟨q, ha⟩ := onlyRegs_logAdvance (s.logPlace (s.logBytes e false)) (s.logBytes e false)
  have hmem : (s.logRecord e).mem = (s.logPlace (s.logBytes e false)).mem := by rw [logRecord_eq h, ha]
  have field : ∀ off n, off + n ≤ 36 →
      (s.logRecord e).memN (0x01600000 + s.getN Reg.LOG_SEQ % 16384 * 64 + off) n = leAt (s.logBytes e false) off n := by
    intro off n hb
    have := memN_logPlace s (s.logBytes e false) off n (by omega)
    rw [fseq] at this
    rw [memN_congr hmem]
    exact this
  refine ⟨?_, ?_, ?_, ?_, ?_, ?_⟩
  · rw [logRecord_eq h, getN_logAdvance_seq, hp]; rfl
  · exact (field 0 4 (by omega)).trans fseq
  · rw [field 4 2 (by omega), ftype]; exact Nat.mod_eq_of_lt ht
  · rw [field 32 2 (by omega), fcode]; exact Nat.mod_eq_of_lt hc
  · rw [field 34 1 (by omega), fres]; exact Nat.mod_eq_of_lt hr
  · rw [field 35 1 (by omega), freason]; exact Nat.mod_eq_of_lt hn

theorem keepsRegs_logRecord : s.KeepsRegs (s.logRecord e) logRegs := by
  intro a ha
  obtain ⟨f, l, m, hp⟩ := logPlace_eq s (s.logBytes e false)
  rw [logRecord_eq h, keepsRegs_logAdvance _ _ a ha, hp]
  rfl

theorem logRecord_flt : (s.logRecord e).flt = s.flt := by
  obtain ⟨f, l, m, hp⟩ := logPlace_eq s (s.logBytes e false)
  obtain ⟨q, ha⟩ := onlyRegs_logAdvance (s.logPlace (s.logBytes e false)) (s.logBytes e false)
  rw [logRecord_eq h, ha, hp]

end

/-- What Logged says depends on the number of the next record before, and on that number and memory afterwards. -/
theorem Logged.congr {s' t' : State} {ty co re rs : Nat} (h : s.Logged t ty co re rs) (hs : s'.getN Reg.LOG_SEQ = s.getN Reg.LOG_SEQ)
    (ht : t'.getN Reg.LOG_SEQ = t.getN Reg.LOG_SEQ) (hm : t'.mem = t.mem) : s'.Logged t' ty co re rs := by
  unfold Logged at *
  simpa only [hs, ht, memN_congr hm] using h

end State

/-! ## Refused values -/

theorem logRegs_not_queueReg : ∀ a ∈ [Reg.SYS_WERR, Reg.SYS_WERR_ADDR] ++ logRegs, ¬ State.queueReg a := by
  unfold State.queueReg
  decide

namespace State
variable {s : State} {n : Fin 4} {a : Nat} {v : Word}

theorem mramBarred_werr (s : State) (k kind addr : Nat) : (s.werr k kind addr).mramBarred = s.mramBarred := by
  have hk := (keeps_werr s k kind addr).1
  have h1 := hk Reg.LOG_STAT (by decide)
  have h2 := hk Reg.SYS_MRAM_STAT (by decide)
  rw [mramBarred, mramBarred, windowClosed, windowClosed, flag_congr h1, flag_congr h2]

/-- A write that comes to SYS_WERR and a REFUSED_WRITE record completes with both, and the other registers stay. -/
theorem completes_logRefused {kind reason : Nat} (hr : s.Runs) (hkind : kind < 16) (hreason : reason < 256) (ha : a < 2 ^ 32)
    (hb : s.mramBarred = false) (hw : s.write (.core n) a 4 v = (s.werr (n.val + 1) kind a).logRefused (n.val + 1) reason a) :
    Completes (.registerWrite (.core n) a 4 v) s fun t =>
      t.fld Reg.SYS_WERR 27 24 = kind ∧ t.fld Reg.SYS_WERR 30 28 = n.val + 1 ∧ t.getN Reg.SYS_WERR_ADDR = a ∧ s.Logged t 0x0004 0 1 reason
        ∧ s.KeepsRegs t ([Reg.SYS_WERR, Reg.SYS_WERR_ADDR] ++ logRegs) := by
  have hlt := n.isLt
  obtain ⟨-, hsrc, hkd, -, haddr, hk, -, -⟩ := refused_werr s (k := n.val + 1) (by omega) hkind ha
  have hb2 : (s.werr (n.val + 1) kind a).mramBarred = false := (mramBarred_werr s _ _ _).trans hb
  have hlog : (s.werr (n.val + 1) kind a).Logged ((s.werr (n.val + 1) kind a).logRefused (n.val + 1) reason a) 0x0004 0 1 reason :=
    logged_logRecord hb2 _ (show 4 < 65536 by decide) (show 0 < 65536 by decide) (show 1 < 256 by decide) hreason
  have hkl : (s.werr (n.val + 1) kind a).KeepsRegs ((s.werr (n.val + 1) kind a).logRefused (n.val + 1) reason a) logRegs :=
    keepsRegs_logRecord hb2 _
  have hf : ((s.werr (n.val + 1) kind a).logRefused (n.val + 1) reason a).flt = s.flt := (logRecord_flt hb2 _).trans (werr_flt s _ _ _)
  have hkeeps := hk.trans hkl
  have hget := ended_get_of_keeps hr.2 hf hkeeps logRegs_not_queueReg
  have hwerr := (hget Reg.SYS_WERR).trans (hkl Reg.SYS_WERR (by decide))
  have hwaddr := (hget Reg.SYS_WERR_ADDR).trans (hkl Reg.SYS_WERR_ADDR (by decide))
  refine completes_write hr.1 hw ⟨(fld_congr hwerr _ _).trans hkd, (fld_congr hwerr _ _).trans hsrc, (getN_congr hwaddr).trans haddr, ?_,
    fun b hb => (hget b).trans (hkeeps b hb)⟩
  exact hlog.congr (getN_congr (hk Reg.LOG_SEQ (by decide))).symm (getN_congr (hget _)) (ended_mem (todo_eq_nil hr.2 hf))

end State

/-- Settles O11: the write comes to State.refuseLocked or State.refuseValue (State.completes_logRefused). -/
theorem lockedAndBadValues : Obligations.LockedAndBadValues := by
  unfold Obligations.LockedAndBadValues
  intro n a v s d hs hw ha hlt hm hcan hd hro hrws hb v' refused
  have hdirect : s.write (.core n) a 4 v = s.directReg d (n.val + 1) a v.toNat := by
    rw [State.write_eq_writeAt (src := .core n) hw ha, State.writeAt_block ha hlt hcan, State.writeBlock_core hm hd n hro hrws]
  refine ⟨fun hacc hl => ?_, fun hl hacc hv => ?_⟩
  · exact State.completes_logRefused hs.runs (by omega) (by omega) (by omega) hb (hdirect.trans (State.directReg_locked hs.mode_ne hacc hl))
  · exact State.completes_logRefused hs.runs (by omega) (by omega) (by omega) hb (hdirect.trans (State.directReg_value hs.mode_ne hl hacc hv))

end Sys2Proof.Machine
end
